-- ==== Sys2Proof/Word.lean ====
section
/-! DEFINITION. The fixed-width words of the VB240: bytes of terminal memory and line payloads, the
16-bit words of the host port, and the 32-bit counters that wrap (rope distance, journal counts). -/

namespace Sys2Proof

/-- A byte of terminal memory, of a journal detail or of a line payload. -/
abbrev Byte := BitVec 8

/-- A 16-bit word of the host port, and every 16-bit wrapping counter. -/
abbrev Word := BitVec 16

/-- A 32-bit wrapping counter: rope distance in mm, journal counts, clock seconds, line counts. -/
abbrev DWord := BitVec 32

end Sys2Proof
end

