-- ==== Sys2Proof/Config.lean ====
section
/-! DEFINITION. What an implementation fixes and the spec leaves open: constants without a body, so that
nothing can be proved of their values (log 6). -/

namespace Sys2Proof

/-- The part's identity, fixed at manufacture (R165). The spec gives no value. -/
opaque Config.identity : BitVec 32

/-- The part's unique serial, fixed at manufacture (R165). The spec gives no value. -/
opaque Config.serial : BitVec 32

/-- A published byte, by its offset in terminal memory, that a table of Section 11 lists and whose
content the spec does not state in the case at hand (the kind of the front frame of an empty queue,
the cabin of a divert record that is NONE, …). -/
opaque Config.unstatedByte : Nat → BitVec 8

/-- The source index of a journal entry, by journal kind, of a kind for which the spec names no index. -/
opaque Config.journalIndex : Nat → BitVec 8

/-- The code of the boundary in FLEET_MISMATCH when the boundary is G_IN (`false`) or G_OUT (`true`):
R81 and R83 name the boundary and no layout gives its code. -/
opaque Config.garageBoundary : Bool → BitVec 8

/-- The index of the first clamped field in TABLE_ADOPTED when no field was clamped (R179). -/
opaque Config.noClampIndex : BitVec 8

/-- The "old track state" in the STATE_CHANGE entry of a power-up, before which there was none (R6). -/
opaque Config.trackStateBeforePower : BitVec 8

end Sys2Proof
end

