-- ==== Sys2Proof/Syntax.lean ====
section
/-! DEFINITION. The commands of the block: one constructor for each of the 87 rows of
spec/opcode_table.json, in the table's order, with the row's operands. An order's first operand is the
slip of the order board it was taken from (R170, R171; log 1). Numbers that the host or a line partner
can give out of range are natural numbers; `WellFormed.lean` bounds them by the width of their field. -/

namespace Sys2Proof

/-- The four drive channels (R28). -/
inductive Channel where
  | d0 | d1 | d2 | d3
  deriving DecidableEq, Repr

/-- The four local rope-position loops (R67). -/
inductive RopeLoop where
  | loop1 | loop2 | loop3 | loop4
  deriving DecidableEq, Repr

/-- The two tachometer inputs (R52). -/
inductive Tach where
  | a | b
  deriving DecidableEq, Repr

/-- The edges of BOUNDARY_EDGE: B1, B2, B3, B6 rising and B5 falling (R14). -/
inductive EdgeAt where
  | b1 | b2 | b3 | b5 | b6
  deriving DecidableEq, Repr

/-- One byte received on TAG, with whether its stop bit was recessive (R194). -/
structure TagByte where
  data : Byte
  stopOk : Bool
  deriving DecidableEq, Repr

/-- A valid line frame as received, less its kind: the row names the kind (R92, R98). -/
structure RxFrame where
  sender : Nat
  dest : Nat
  payload : List Byte
  deriving DecidableEq, Repr

/-- What a host write without a row of its own goes to: a word of terminal memory, or CONTROL (R164, R169). -/
inductive HostTarget where
  | memory (offset : Nat)
  | control
  deriving DecidableEq, Repr

/-- The commands. -/
inductive Instr where
  -- orders (R171)
  | start (slip : Nat)
  | stop (slip : Nat)
  | fastStop (slip : Nat)
  | resume (slip : Nat)
  | setCeiling (slip value : Nat)
  | ackCause (slip slot code : Nat)
  | rebuildTrack (slip : Nat) (pairs : List (Nat × Nat))
  | barCabin (slip cabin : Nat)
  | unbarCabin (slip cabin : Nat)
  | garageCabin (slip cabin : Nat)
  | releaseCabin (slip cabin : Nat)
  | setDriveMode (slip channel mode : Nat)
  | haltDrive (slip channel : Nat)
  | stroke (slip channel direction : Nat)
  | sendNote (slip dest : Nat) (code : Word) (text : List Byte)
  | excludeStation (slip address : Nat)
  | includeStation (slip address : Nat)
  | call (slip callee kind : Nat)
  | answer (slip callId : Nat)
  | hangUp (slip callId : Nat)
  | adopt (slip table : Nat)
  | unlock (slip table : Nat)
  | lock (slip table level : Nat)
  | loadSet (slip set : Nat)
  | saveSet (slip set : Nat)
  | setClock (slip : Nat) (seconds : DWord)
  -- host port writes (R164, R167, R169, R170, R175)
  | postWrite (value : Word)
  | newsWrite (value : Word)
  | enableWrite (value : Word)
  | resetSequenceArm
  | controlReset
  | hostReadCountWrite (high : Word)
  | hostMemoryWrite (target : HostTarget) (value : Word)
  -- resets (R186)
  | powerUp (backupHeld : Bool) (seconds : DWord) (ms : Nat)
  | pinReset
  -- track and launch sensors
  | arrival
  | tagFrame (bytes : List TagByte)
  | tagByteGapTimeout
  | boundaryEdge (edge : EdgeAt)
  | cabinAtGate
  | b4Falling
  | b5Rising
  | gInRising
  | gOutRising
  | latchChange (active : Bool)
  | proofTimerExpiry
  | insertionTimeout
  -- door drives
  | openLimActive (channel : Channel) (active : Bool)
  | closedLimActive (channel : Channel) (active : Bool)
  | obstrActive (channel : Channel) (active : Bool)
  | openTimeExpiry (channel : Channel)
  | closeTimeExpiry (channel : Channel)
  | reverseTimeExpiry (channel : Channel)
  -- rope monitor and window ends
  | tachPulse (tach : Tach)
  | ropeWindowEnd (tension : Nat)
  | trackWindowEnd
  | launchWindowEnd
  | supervisorWindowEnd
  | loopInputChange (loop : RopeLoop) (closed : Bool)
  | loopTimerExpiry (loop : RopeLoop)
  -- supervisor and setup store
  | chainSenseChange (closed : Bool)
  | setupKeyChange (active : Bool)
  | saveSetDone
  | clockSecond
  -- the data pair
  | idleGapReached
  | transmitAttempt
  | arbitrationLoss
  | bitError
  | ackSlotOutcome (acknowledged : Bool)
  | receiveError (sender : Option Nat)
  | tripReceived (frame : RxFrame)
  | statusReceived (frame : RxFrame)
  | noteReceived (frame : RxFrame)
  | pairReqReceived (frame : RxFrame)
  | hookReceived (frame : RxFrame)
  | otherFrameReceived (kind : Nat) (frame : RxFrame)
  | breakBegin (sender : Option Nat)
  | breakEnd
  | statusTimerExpiry
  | timeTimerExpiry
  | silenceTimerExpiry (address : Nat)
  | waitTimerExpiry (callId : Nat)
  | ringTimerExpiry (callId : Nat)
  | reannounceTimerExpiry
  | gripForceSample (force : Nat)
  | startBitReceived (recessive : Nat)
  | callViewTimerSecond
  deriving DecidableEq, Repr

end Sys2Proof
end

