-- ==== Sys2Proof/Machine/State.lean ====
section
/-! DEFINITION. The state of the VB240: plain data, one structure for each block of the part, and
`State.reset`, the part right after a power-up reset. The default value of each field is its value at
reset; where the spec gives none the field's docstring names the log entry. -/

namespace Sys2Proof.Machine

open Sys2Proof

/-! ## Reasons to stop -/

/-- Why the machine stops. Both are raised by HOST_MEMORY_WRITE only, and stopping there is safe: the
host port offers no such access (R164; log 20). -/
inductive Fault where
  /-- Raised by a host write whose offset lies outside the 32 KiB of terminal memory (R164). Safe. -/
  | noSuchAddress (offset : Nat)
  /-- Raised by a host write at an odd offset: every host access is one word at an even offset (R164). Safe. -/
  | oddOffset (offset : Nat)
  deriving DecidableEq, Repr

/-- Why a command is refused. -/
inductive Refusal where
  /-- Raised by `exec` for a command without a meaning; no arm does. Safe. -/
  | notModelled (mnemonic : String)
  deriving DecidableEq, Repr

/-! ## Shared small types -/

/-- A timer: stopped, or running with the time (in the model's time base `State.now`) at which its
remaining time is 0 (log 2). -/
abbrev Timer := Option Nat

/-- One value for each drive channel. -/
structure PerChannel (α : Type) where
  d0 : α
  d1 : α
  d2 : α
  d3 : α
  deriving DecidableEq, Repr

/-- One value for each local loop. -/
structure PerLoop (α : Type) where
  loop1 : α
  loop2 : α
  loop3 : α
  loop4 : α
  deriving DecidableEq, Repr

/-- A reading of the terminal clock: seconds and ms. -/
structure ClockTime where
  seconds : DWord := 0
  ms : Nat := 0
  deriving DecidableEq, Repr

/-- The ten blocks, as sources of causes and journal entries (R187). -/
inductive Block where
  | trk | ddu | lch | rpm | lnc | stn | cal | msv | obc | sst
  deriving DecidableEq, Repr

/-! ## Setup tables (R177, R192). A table holds raw numbers, so that a faulty pending copy is one too. -/

/-- The zone plan. Lists have six items, for Z0 to Z5. -/
structure ZonePlan where
  len : List Nat := List.replicate 6 1000
  ratio : List Nat := List.replicate 6 100
  launchSpacing : Nat := 12000
  arrivalMin : Nat := 6000
  departPct : Nat := 90
  queueLimit : Nat := 3
  launchMin : Nat := 50
  gateClosePct : Nat := 70
  proofWait : Nat := 5000
  deriving DecidableEq, Repr

/-- One channel's row of the door plan (R49). -/
structure ChannelPlan where
  openTime : Nat
  closeTime : Nat
  reverseTime : Nat
  recloseLimit : Nat
  powerUpMode : Nat
  deriving DecidableEq, Repr

/-- The door plan; mode 2 is MANUAL (R187). -/
structure DoorPlan where
  channels : PerChannel ChannelPlan :=
    ⟨⟨1200, 1500, 800, 2, 2⟩, ⟨1200, 1500, 800, 2, 2⟩, ⟨2000, 2500, 800, 2, 2⟩, ⟨2000, 2500, 800, 2, 2⟩⟩
  deriving DecidableEq, Repr

/-- The rope plan. -/
structure RopePlan where
  tA : Nat := 1000
  tB : Nat := 1000
  tol : Nat := 5
  designMax : Nat := 150
  aService : Nat := 40
  aFast : Nat := 80
  accel : Nat := 30
  span : Nat := 2000
  tripLow : Nat := 200
  warnLow : Nat := 400
  warnHigh : Nat := 1600
  tripHigh : Nat := 1800
  fFail : Nat := 380
  fWarn : Nat := 420
  fHigh : Nat := 700
  deriving DecidableEq, Repr

/-- The ceiling table. -/
structure CeilingTable where
  tagReaderCap : Nat := 100
  tensionWarnCap : Nat := 100
  bypassCap : Nat := 100
  defaultCeiling : Nat := 150
  deriving DecidableEq, Repr

/-- A station entry of the line plan; kind 0 is TOWER, 1 SUMMIT (R192). -/
structure StationEntry where
  address : Nat
  kind : Nat
  sheaves : Nat
  silence : Nat
  deriving DecidableEq, Repr

/-- The line plan; bit rate 0, 1, 2 is 9600, 19200, 38400 (R187). -/
structure LinePlan where
  bitRate : Nat := 1
  retryLimit : Nat := 3
  statusPeriod : Nat := 500
  ringTimeout : Nat := 30
  waitTimeout : Nat := 120
  tripCallEnable : Bool := false
  /-- The entry count as written, which validation holds to 0 to 13. -/
  entryCount : Nat := 0
  stations : List StationEntry := []
  deriving DecidableEq, Repr

/-- One cabin of the cabin registry. -/
structure RegEntry where
  registered : Bool := false
  tag : Word := 0
  deriving DecidableEq, Repr

/-- The six tables; the default values are set 0, the factory set (R181). -/
structure Tables where
  zone : ZonePlan := {}
  door : DoorPlan := {}
  rope : RopePlan := {}
  ceiling : CeilingTable := {}
  line : LinePlan := {}
  /-- Cabins 1 to 96, in order. -/
  registry : List RegEntry := List.replicate 96 {}
  deriving DecidableEq, Repr

/-! ## Input pins -/

/-- The levels of a channel's sensor inputs (R28, R37). At reset: log 5. -/
structure ChannelPins where
  openLim : Bool := false
  closedLim : Bool := false
  obstr : Bool := false
  deriving DecidableEq, Repr

/-- The input levels the part reads at events other than their own change (log 18). At reset: log 5. -/
structure Pins where
  latch : Bool := false
  /-- CHAIN_SENSE shows closed. -/
  chainSense : Bool := true
  setupKey : Bool := false
  b4 : Bool := false
  b5 : Bool := false
  /-- LOOP1 to LOOP4 inputs are closed. -/
  loops : PerLoop Bool := ⟨true, true, true, true⟩
  channels : PerChannel ChannelPins := ⟨{}, {}, {}, {}⟩
  deriving DecidableEq, Repr

/-! ## Track unit and fleet table (Section 1) -/

/-- The nine door states of R4, in the order of R187. -/
inductive DoorState where
  | latched | opening | opened | openFailed | closing | closed | obstructed | missed | unknown
  deriving DecidableEq, Repr

/-- One entry of the terminal track (R2). BARRED and GARAGE_PENDING of an entry with a cabin number are
those of the fleet record at every moment (R5), so only a cabin 0 entry's own BARRED is stored. -/
structure TrackEntry where
  /-- The model's own name for this entry: engagements refer to the entry itself (R28; log 16). -/
  uid : Nat
  cabin : Nat
  zone : Nat
  /-- Zone travel in µm, saturating at 2³² − 1. -/
  travel : Nat
  door : DoorState
  missedByCloser : Bool
  gateServed : Bool
  atGate : Bool
  /-- BARRED of an entry of cabin 0 (R5, R85). -/
  ownBarred : Bool
  arrivalDist : DWord
  overdue : Bool
  waiver : Bool
  deriving DecidableEq, Repr

/-- The track states (R6). -/
inductive TrackState where
  | lost | tracking
  deriving DecidableEq, Repr

/-- The open tag window: the entry it is open on, and whether an invalid frame was seen (R10). -/
structure TagWindow where
  uid : Nat
  invalidSeen : Bool
  deriving DecidableEq, Repr

/-- The LOST edge counts (R7). -/
structure EdgeCounts where
  b0 : Word := 0
  b1 : Word := 0
  b2 : Word := 0
  b3 : Word := 0
  b4 : Word := 0
  b5 : Word := 0
  b6 : Word := 0
  deriving DecidableEq, Repr

/-- The track unit (R8 gives the values at reset). -/
structure Trk where
  state : TrackState := .lost
  /-- Front first (R2). -/
  entries : List TrackEntry := []
  window : Option TagWindow := none
  /-- The bytes held of an incomplete tag frame (R194). At reset: log 5. -/
  tagBytes : List Byte := []
  lastArrival : Option DWord := none
  unknownCount : Nat := 0
  lostEdges : EdgeCounts := {}
  /-- The name the next entry gets (the model's own, log 16). -/
  nextUid : Nat := 0
  deriving DecidableEq, Repr

/-- Fleet states, in the order of R187. -/
inductive FleetState where
  | unplaced | inTerminal | inLine | garaged
  deriving DecidableEq, Repr

/-- Grip grades, in the order of R187. -/
inductive Grade where
  | noReading | fail | weak | good | high
  deriving DecidableEq, Repr

/-- Last door fault of a fleet record, in the order of R191. -/
inductive LastDoorFault where
  | none | openFailed | obstructed | missed
  deriving DecidableEq, Repr

/-- One fleet record (R23); registered and tag are those of the active cabin registry. -/
structure FleetRec where
  state : FleetState := .unplaced
  barred : Bool := false
  garagePending : Bool := false
  /-- At most four readings, newest first. -/
  history : List (Nat × Grade) := []
  doorCycles : Nat := 0
  lastDoorFault : LastDoorFault := .none
  lastArrival : Option DWord := Option.none
  deriving DecidableEq, Repr

/-! ## Door drive unit (Section 2) -/

/-- Drive modes, in the order of R187. -/
inductive DriveMode where
  | off | auto | manual | oneShot
  deriving DecidableEq, Repr

/-- Channel states, in the order of R187. -/
inductive ChanState where
  | idle | strokingOpen | strokingClose | reversing | jammed | halted
  deriving DecidableEq, Repr

/-- Whom the running stroke serves (R28). -/
inductive Origin where
  | engagement
  | order (context : Nat)
  deriving DecidableEq, Repr

/-- The parameters a stroke copies at its start (R37). -/
structure StrokeParams where
  openTime : Nat := 0
  closeTime : Nat := 0
  reverseTime : Nat := 0
  recloseLimit : Nat := 0
  deriving DecidableEq, Repr

/-- One drive channel (R28, R50). Origin and parameters at reset: log 5. -/
structure Chan where
  mode : DriveMode := .manual
  pendingMode : Option DriveMode := none
  state : ChanState := .idle
  /-- The uid of the engaged entry. -/
  engaged : Option Nat := none
  origin : Origin := .engagement
  retry : Nat := 0
  timer : Timer := none
  params : StrokeParams := {}
  closeDue : Bool := false
  deriving DecidableEq, Repr

/-! ## Rope monitor (Section 3) -/

/-- Tension sensor states, in the order of R189. -/
inductive SensorState where
  | good | faulty | none
  deriving DecidableEq, Repr

/-- Loop states, in the order of R189. -/
inductive LoopState where
  | closed | openPending | opened | closePending
  deriving DecidableEq, Repr

/-- One local loop (R67). -/
structure LoopUnit where
  state : LoopState := .closed
  timer : Timer := none
  deriving DecidableEq, Repr

/-- The rope monitor (R61, R66, R69 give the values at reset). -/
structure Rpm where
  /-- Pulse counts of the running window. -/
  nA : Nat := 0
  nB : Nat := 0
  /-- The time at which the running window began. -/
  windowStart : Nat := 0
  /-- Pulse counts and saturation flags of the last closed window. -/
  lastA : Nat := 0
  lastB : Nat := 0
  satA : Bool := false
  satB : Bool := false
  vA : Nat := 0
  vB : Nat := 0
  v : Nat := 0
  dWin : Nat := 0
  dist : DWord := 0
  /-- The remainder accumulator, 0 to 999 µm. -/
  rem : Nat := 0
  disagreeing : Bool := false
  disagreeCount : Nat := 0
  agreeCount : Nat := 0
  zeroCount : Nat := 0
  standstill : Bool := false
  /-- The tension sample of the last window end. At reset: log 5. -/
  tensionC : Nat := 0
  tensionP : Option Nat := Option.none
  sensor : SensorState := .none
  /-- Conditions held of TENSION_WARN and TENSION_TRIP, one for each side. -/
  warnLow : Bool := false
  warnHigh : Bool := false
  tripLow : Bool := false
  tripHigh : Bool := false
  loops : PerLoop LoopUnit := ⟨{}, {}, {}, {}⟩
  deriving DecidableEq, Repr

/-! ## Launch unit (Section 4) -/

/-- Gate states, in the order of R189. -/
inductive GateState where
  | empty | holding | launching | diverting
  deriving DecidableEq, Repr

/-- The divert record in AWAIT_G_IN (R70, R80). -/
structure DivertRec where
  cabin : Nat
  door : DoorState
  gateServed : Bool
  missedByCloser : Bool
  deriving DecidableEq, Repr

/-- A pending insertion in AWAIT_G_OUT (R70, R82). -/
structure Insertion where
  cabin : Nat
  context : Nat
  timer : Nat
  deriving DecidableEq, Repr

/-- The last grip reading, its cabin and its grade (R89). -/
structure LastReading where
  reading : Nat
  cabin : Nat
  grade : Grade
  deriving DecidableEq, Repr

/-- The launch unit (R89 gives the values at reset). -/
structure Lch where
  gate : GateState := .empty
  /-- The uid of the gate entry. -/
  gateEntry : Option Nat := none
  lastLaunch : DWord := 0
  dL : DWord := 0
  /-- The launch estimate shown for the gate entry (R79). -/
  estimate : Nat := 65535
  proofTimer : Timer := none
  barredNotice : Bool := false
  proofExpired : Bool := false
  z3Count : Nat := 0
  /-- The condition of LAUNCH_QUEUE_FULL (R78; log 14). -/
  queueFull : Bool := false
  divert : Option DivertRec := none
  insertion : Option Insertion := none
  sampling : Bool := false
  /-- The uid of the test entry. -/
  testEntry : Option Nat := none
  peak : Nat := 0
  lastReading : Option LastReading := none
  lastDeparture : Option DWord := none
  deriving DecidableEq, Repr

/-! ## Line controller (Section 5) -/

/-- Line states, in the order of R187. -/
inductive LineState where
  | gap | idle | transmitting | receiving | inBreak
  deriving DecidableEq, Repr

/-- The frame kinds the part sends (R98). -/
inductive FrameKind where
  | trip | status | time | note | pairGrant | pairDenied | pairRecall | pairFree | hook
  deriving DecidableEq, Repr

/-- A queued frame (R100). The payload of a periodic kind is formed at each attempt and is empty here. -/
structure TxFrame where
  /-- The model's own name of the frame, rising in queued order (log 16). -/
  fid : Nat
  kind : FrameKind
  dest : Nat
  payload : List Byte
  retry : Nat := 0
  /-- The block that asked for it. -/
  asker : Block
  /-- For a NOTE, the context of its SEND_NOTE. -/
  context : Option Nat := none
  renewed : Bool := false
  deriving DecidableEq, Repr

/-- The attempt on the line, with the payload it carries (R95, R103). -/
structure Attempt where
  fid : Nat
  kind : FrameKind
  dest : Nat
  payload : List Byte
  deriving DecidableEq, Repr

/-- The line controller (R108 gives the values at reset; the STATUS and TIME queued as the reset ends are
in `State.reset`). -/
structure Lnc where
  state : LineState := .gap
  recessive : Nat := 0
  dominantRun : Nat := 0
  bitRate : Nat := 1
  /-- The transmit queue, front first. -/
  queue : List TxFrame := []
  attempt : Option Attempt := none
  /-- The fid of the cut attempt's frame (R99). -/
  cut : Option Nat := none
  /-- The retry limit at the end of the cut attempt (R102). At reset: log 5. -/
  cutLimit : Nat := 0
  statusTimer : Nat := 0
  timeTimer : Nat := 0
  nextFid : Nat := 0
  sent : DWord := 0
  attempts : DWord := 0
  arbLoss : DWord := 0
  bitErrors : DWord := 0
  received : DWord := 0
  unattributed : DWord := 0
  breaks : Word := 0
  deriving DecidableEq, Repr

/-! ## Station table (Section 6) -/

/-- Station states, in the order of R187. -/
inductive StationState where
  | unheard | live | silent | excluded
  deriving DecidableEq, Repr

/-- Sheave states, in the order of R187. -/
inductive SheaveState where
  | ok | tripped | fault | absent | unreported
  deriving DecidableEq, Repr

/-- Handset hooks, in the order of R191. -/
inductive Hook where
  | onHook | offHook | unreported
  deriving DecidableEq, Repr

/-- One station record (R109); present, kind, sheave count and silence timeout are those of the active
line plan. -/
structure StationRec where
  state : StationState := .unheard
  timer : Timer := none
  lastHeard : Option ClockTime := none
  /-- Sheaves 1 to 4. -/
  sheaves : List SheaveState := List.replicate 4 .unreported
  /-- The condition of RPD_REMOTE is active, for sheaves 1 to 4 (R115). -/
  sheaveActive : List Bool := List.replicate 4 false
  reqService : Bool := false
  reqFast : Bool := false
  hook : Hook := .unreported
  fault : Bool := false
  frames : DWord := 0
  crcErrors : DWord := 0
  undelivered : DWord := 0
  upSince : DWord := 0
  unexpected : Bool := false
  deriving DecidableEq, Repr

/-- The station table: records 0 to 13, record 0 always LIVE (R109, R110). -/
structure Stn where
  records : List StationRec :=
    ({ state := .live } : StationRec) :: List.replicate 13 {}
  deriving DecidableEq, Repr

/-! ## Call unit (Section 7) -/

/-- Call states; "(empty)" of R187 is a record that is not in the table. -/
inductive CallState where
  | waiting | ringing | talking
  deriving DecidableEq, Repr

/-- Call origins, in the order of R191. -/
inductive CallOrigin where
  | station | host | trip
  deriving DecidableEq, Repr

/-- One call record (R126). -/
structure CallRec where
  id : Nat
  caller : Nat
  callee : Nat
  urgent : Bool
  origin : CallOrigin
  /-- The context of a CALL order that has not completed. -/
  context : Option Nat
  state : CallState
  parties : List Nat
  requestTime : ClockTime
  /-- The time base at the request, from which CALL_ENDED takes its duration (log 22). -/
  requestAt : Nat
  stateTime : ClockTime
  waitTimer : Timer
  ringTimer : Timer
  rung : Bool
  /-- The remaining seconds as last published (R141). -/
  shownWait : Nat
  shownRing : Nat
  deriving DecidableEq, Repr

/-- The call unit (R141 gives the values at reset). -/
structure Cal where
  /-- The holding call first, then the waiting calls (R126). -/
  table : List CallRec := []
  nextId : Nat := 1
  valleyOffHook : Bool := false
  ringOut : Bool := false
  voiceConnect : Bool := false
  breakMark : Bool := false
  /-- The re-announce mark is set exactly while this timer runs (R136). -/
  reannounce : Timer := none
  deriving DecidableEq, Repr

/-! ## Motion supervisor (Section 8) -/

/-- Supervisor states, in the order of R187. -/
inductive SupState where
  | standby | held | run | stoppingService | stoppingFast
  deriving DecidableEq, Repr

/-- Cause categories (R142). -/
inductive Category where
  | limit | service | fast
  deriving DecidableEq, Repr

/-- Sub-states of a cause entry (R142). -/
inductive SubState where
  | activeUnacked | activeAcked | clearedUnacked
  deriving DecidableEq, Repr

/-- The 36 cause codes, in the order of R148. -/
inductive CauseCode where
  | phantom | overdue | trackOverflow | trackLost | arrivalBunched | tagReader
  | doorOpenFail | doorJam | doorMissed | gateJam | gateLate | driveOff
  | doorNotProven | launchQueueFull | uncommandedLaunch | divertFail | gripFail | gripHigh | departBunched
  | tachoDisagree | tensionWarn | tensionTrip | tensionSensor | rpdLocal
  | rpdRemote | stationSilent | remoteTrip | exclusionActive
  | lineBreak
  | overspeed | decelFail | ropeCreep | externalChain | operatorStop | operatorFast | causeOverflow
  deriving DecidableEq, Repr

/-- An ordinary entry of the cause list (R142); its source block is that of its code (R148). -/
structure Cause where
  code : CauseCode
  category : Category
  index : Nat
  raised : ClockTime
  repeats : Nat
  sub : SubState
  deriving DecidableEq, Repr

/-- The aggregate entry CAUSE_OVERFLOW while it is present (R145). -/
structure Aggregate where
  raised : ClockTime
  repeats : Nat
  deriving DecidableEq, Repr

/-- A running deceleration watch (R161). -/
structure Watch where
  e0 : Nat
  decel : Nat
  start : Nat
  /-- The envelope at the last window end (R163), or at the start before one has come. -/
  lastEnvelope : Nat
  deriving DecidableEq, Repr

/-- The motion supervisor (R163 gives the values at reset). -/
structure Msv where
  state : SupState := .standby
  /-- Oldest first. -/
  causes : List Cause := []
  aggregate : Option Aggregate := none
  limits : List (CauseCode × Nat) := []
  chainOut : Bool := false
  target : Nat := 0
  ceiling : Nat := 0
  opCeiling : Nat := 150
  speedRef : Nat := 0
  watch : Option Watch := none
  exceed : Nat := 0
  /-- Conditions of the three speed causes (R160). -/
  overspeed : Bool := false
  decelFail : Bool := false
  ropeCreep : Bool := false
  deriving DecidableEq, Repr

/-! ## Order board controller (Section 9) -/

/-- The orders with their arguments, as taken from a slip (R171, R190). -/
inductive Order where
  | start | stop | fastStop | resume
  | setCeiling (value : Nat)
  | ackCause (slot code : Nat)
  | rebuildTrack (pairs : List (Nat × Nat))
  | barCabin (cabin : Nat)
  | unbarCabin (cabin : Nat)
  | garageCabin (cabin : Nat)
  | releaseCabin (cabin : Nat)
  | setDriveMode (channel mode : Nat)
  | haltDrive (channel : Nat)
  | stroke (channel direction : Nat)
  | sendNote (dest : Nat) (code : Word) (text : List Byte)
  | excludeStation (address : Nat)
  | includeStation (address : Nat)
  | call (callee kind : Nat)
  | answer (callId : Nat)
  | hangUp (callId : Nat)
  | adopt (table : Nat)
  | unlock (table : Nat)
  | lock (table level : Nat)
  | loadSet (set : Nat)
  | saveSet (set : Nat)
  | setClock (seconds : DWord)
  deriving DecidableEq, Repr

/-- Result codes, in the order of R187. -/
inductive ResultCode where
  | ok | clamped | proven | jammed | aborted | badOrder | badArg | busy | full | wrongState
  | notStarted | notAtStandstill | causesPresent | trackLost | setupInvalid | locked | keyRequired
  | readOnly | duplicateTicket | duplicateTag | stationSilent | lineBusy | undelivered | timeout
  deriving DecidableEq, Repr

/-- The 29 journal kinds, in the order of R190. -/
inductive JKind where
  | reset | causeRaised | causeCleared | causeRemoved | stateChange | cabinArrived | cabinLaunched
  | cabinDeparted | cabinBarredAtGate | gripTest | doorFault | gateWithheld | boundaryChatter
  | tagUnreadable | tagDuplicate | fleetMismatch | trackRebuilt | stationState | lineUndelivered
  | callIncoming | callEnded | noteReceived | tableAdopted | setSaved | setLoaded | setInvalid
  | clockSet | orderOrphaned | journalGap
  deriving DecidableEq, Repr

/-- A journal entry (R174). -/
structure JEntry where
  seq : DWord
  time : ClockTime
  clockInvalid : Bool
  kind : JKind
  block : Block
  index : Byte
  cabin : Nat
  detail : List Byte
  deriving DecidableEq, Repr

/-- An order context in use (R172). -/
structure OrderCtx where
  ticket : Word
  slip : Nat
  order : Order
  taken : ClockTime
  deriving DecidableEq, Repr

/-- The seven update counters (R166). -/
structure Counters where
  front : Word := 0
  causeList : Word := 0
  track : Word := 0
  station : Word := 0
  call : Word := 0
  fleet : Word := 0
  active : Word := 0
  deriving DecidableEq, Repr

/-- The order board controller (R176 gives the values at reset). -/
structure Obc where
  news : BitVec 7 := 0
  /-- At every reset the RESET_DONE bit alone. -/
  enable : BitVec 7 := 0x40#7
  armed : Bool := false
  nextTicket : Word := 0
  /-- W, the count of entries appended. -/
  written : DWord := 0
  /-- The taken read count. -/
  taken : DWord := 0
  missedMask : BitVec 29 := 0
  missedCount : Nat := 0
  /-- The entries of the ring, newest first, at most 256. -/
  journal : List JEntry := []
  contexts : List (Option OrderCtx) := List.replicate 8 none
  counters : Counters := {}
  deriving DecidableEq, Repr

/-! ## Setup store (Section 10) -/

/-- Locks, in the order of R192. -/
inductive Lock where
  | unlocked | locked | tight
  deriving DecidableEq, Repr

/-- Kinds of reset, in the order of R189. -/
inductive ResetKind where
  | power | pin | control
  deriving DecidableEq, Repr

/-- A user set: its contents and whether its CRC passes (R181). At first power-up: log 5. -/
structure UserSet where
  tables : Tables := {}
  crcOk : Bool := false
  deriving DecidableEq, Repr

/-- A SAVE_SET in progress (R182). -/
structure Saving where
  set : Nat
  copy : Tables
  revisions : List Word
  context : Nat
  deriving DecidableEq, Repr

/-- The terminal clock (R185): its ms are `msBase` plus the time since `msAt`, held at 999 until the
seconds change (log 2). -/
structure Clock where
  seconds : DWord := 0
  msBase : Nat := 0
  msAt : Nat := 0
  valid : Bool := false
  deriving DecidableEq, Repr

/-- The setup store. Sets, start-set number and clock at first power-up: log 5. -/
structure Sst where
  active : Tables := {}
  /-- Six revisions, in the order of R177. -/
  revisions : List Word := List.replicate 6 1
  locks : List Lock := List.replicate 6 .locked
  set1 : UserSet := {}
  set2 : UserSet := {}
  startSet : Nat := 0
  saving : Option Saving := none
  clock : Clock := {}
  resetKind : ResetKind := .power
  resetCount : Nat := 0
  wasRunning : Bool := false
  fallback : Bool := false
  /-- The start-set number of the reset record, as the last reset wrote it (R165, R186). -/
  recordSet : Nat := 0
  deriving DecidableEq, Repr

/-! ## The whole part -/

/-- Which published bytes have been written since power-up, among those whose content the spec does not state once what
they showed is gone: those never written still read 0, as power-up leaves terminal memory (R176). The model's own marks
(log 6). -/
structure Held where
  /-- A deceleration watch. -/
  watch : Bool := false
  /-- The cabin of a gate entry. -/
  gate : Bool := false
  /-- The cabin of a divert record. -/
  divert : Bool := false
  /-- The cabin of an insertion. -/
  insertion : Bool := false
  /-- Order contexts 0 to 7. -/
  contexts : List Bool := List.replicate 8 false
  /-- Line plan entries of addresses 0 to 13. -/
  planned : List Bool := List.replicate 14 false
  /-- Last heard of addresses 0 to 13. -/
  heard : List Bool := List.replicate 14 false
  /-- The most parties a call record has shown. -/
  parties : Nat := 0
  deriving DecidableEq, Repr

/-- The state of the part, its pins and the waiting commands. -/
structure State where
  /-- The model's time base in ms (log 2). -/
  now : Nat := 0
  /-- The time at the end of the last reset. -/
  resetAt : Nat := 0
  pins : Pins := {}
  /-- The host-written bytes of terminal memory, by offset; an unlisted byte is 0 (R164, R176; log 4). -/
  mem : List Host.Cell := []
  trk : Trk := {}
  /-- The 96 fleet records, cabin 1 first (R23). -/
  fleet : List FleetRec := List.replicate 96 {}
  ddu : PerChannel Chan := ⟨{}, {}, {}, {}⟩
  rpm : Rpm := {}
  lch : Lch := {}
  lnc : Lnc := {}
  stn : Stn := {}
  cal : Cal := {}
  msv : Msv := {}
  obc : Obc := {}
  sst : Sst := {}
  /-- The model's marks of the published bytes written since power-up (log 6). -/
  held : Held := {}
  /-- The waiting commands, first in, first out. -/
  pending : List Instr := []
  deriving DecidableEq, Repr

/-- The journal as the first power-up leaves it (R176): RESET with the reset record, CAUSE_RAISED of
TRACK_LOST, STATE_CHANGE of the track; newest first. -/
def resetJournal : List JEntry :=
  [ { seq := 2, time := {}, clockInvalid := true, kind := .stateChange, block := .trk,
      index := Config.journalIndex 4, cabin := 0, detail := [Config.trackStateBeforePower, 0, 1] },
    { seq := 1, time := {}, clockInvalid := true, kind := .causeRaised, block := .trk, index := 0,
      cabin := 0, detail := [4, 2, 1, 0, 0, 1] },
    { seq := 0, time := {}, clockInvalid := true, kind := .reset, block := .obc,
      index := Config.journalIndex 0, cabin := 0, detail := [0, 0, 0, 0, 0, 0] } ]

/-- The part right after a power-up whose backup supply did not hold the clock, with the factory set:
TRACK_LOST raised (R8), a STATUS and a TIME queued (R108), three journal entries and their NEWS (R168). -/
def State.reset : State :=
  { msv := { causes := [{ code := .trackLost, category := .service, index := 0, raised := {},
                          repeats := 0, sub := .activeUnacked }] }
    lnc := { queue := [{ fid := 0, kind := .status, dest := 15, payload := [], asker := .lnc },
                       { fid := 1, kind := .time, dest := 15, payload := [], asker := .lnc }]
             nextFid := 2, statusTimer := 500, timeTimer := 60000 }
    obc := { news := 0x4A#7, written := 3, journal := resetJournal } }

end Sys2Proof.Machine
end

