-- ==== Sys2Proof/Machine/Codes.lean ====
section
/-! DEFINITION. The encodings of Section 11 (R187, R188, R190): the number of every enumerated value, the
little-endian byte order of terminal memory, and the high-byte-first order of line payloads. -/

namespace Sys2Proof.Machine

open Sys2Proof

/-! ## Bytes -/

/-- One byte of a number, modulo 256. -/
def byteOf (n : Nat) : Byte := BitVec.ofNat 8 n

/-- A 2-byte field, little-endian (R187). -/
def le16 (n : Nat) : List Byte := [byteOf n, byteOf (n / 256)]

/-- A 4-byte field, little-endian (R187). -/
def le32 (n : Nat) : List Byte := [byteOf n, byteOf (n / 256), byteOf (n / 65536), byteOf (n / 16777216)]

/-- A 2-byte payload field, high byte first (R193). -/
def be16 (n : Nat) : List Byte := [byteOf (n / 256), byteOf n]

/-- A 4-byte payload field, high byte first (R193). -/
def be32 (n : Nat) : List Byte := [byteOf (n / 16777216), byteOf (n / 65536), byteOf (n / 256), byteOf n]

/-- A flag as a byte or a bit. -/
def flagNat (b : Bool) : Nat := if b then 1 else 0

/-- A flag byte: flags from bit 0 upward, in the order listed (R187). -/
def flagByte : List Bool → Nat
  | [] => 0
  | b :: rest => flagNat b + 2 * flagByte rest

/-! ## Enumerated values (R187) -/

/-- Block numbers. -/
def Block.code : Block → Nat
  | .trk => 1 | .ddu => 2 | .lch => 3 | .rpm => 4 | .lnc => 5 | .stn => 6 | .cal => 7 | .msv => 8
  | .obc => 9 | .sst => 10

/-- Cause codes 1 to 36. -/
def CauseCode.code : CauseCode → Nat
  | .phantom => 1 | .overdue => 2 | .trackOverflow => 3 | .trackLost => 4 | .arrivalBunched => 5
  | .tagReader => 6 | .doorOpenFail => 7 | .doorJam => 8 | .doorMissed => 9 | .gateJam => 10
  | .gateLate => 11 | .driveOff => 12 | .doorNotProven => 13 | .launchQueueFull => 14
  | .uncommandedLaunch => 15 | .divertFail => 16 | .gripFail => 17 | .gripHigh => 18
  | .departBunched => 19 | .tachoDisagree => 20 | .tensionWarn => 21 | .tensionTrip => 22
  | .tensionSensor => 23 | .rpdLocal => 24 | .rpdRemote => 25 | .stationSilent => 26
  | .remoteTrip => 27 | .exclusionActive => 28 | .lineBreak => 29 | .overspeed => 30
  | .decelFail => 31 | .ropeCreep => 32 | .externalChain => 33 | .operatorStop => 34
  | .operatorFast => 35 | .causeOverflow => 36

/-- The block that raises a code (R148). -/
def CauseCode.block : CauseCode → Block
  | .phantom | .overdue | .trackOverflow | .trackLost | .arrivalBunched | .tagReader => .trk
  | .doorOpenFail | .doorJam | .doorMissed | .gateJam | .gateLate | .driveOff => .ddu
  | .doorNotProven | .launchQueueFull | .uncommandedLaunch | .divertFail | .gripFail | .gripHigh
  | .departBunched => .lch
  | .tachoDisagree | .tensionWarn | .tensionTrip | .tensionSensor | .rpdLocal => .rpm
  | .rpdRemote | .stationSilent | .remoteTrip | .exclusionActive => .stn
  | .lineBreak => .lnc
  | .overspeed | .decelFail | .ropeCreep | .externalChain | .operatorStop | .operatorFast
  | .causeOverflow => .msv

/-- Category numbers; 0 is "(none)". -/
def Category.code : Category → Nat
  | .limit => 1 | .service => 2 | .fast => 3

/-- Sub-state numbers; 0 is "(empty slot)". -/
def SubState.code : SubState → Nat
  | .activeUnacked => 1 | .activeAcked => 2 | .clearedUnacked => 3

/-- Supervisor state numbers. -/
def SupState.code : SupState → Nat
  | .standby => 0 | .held => 1 | .run => 2 | .stoppingService => 3 | .stoppingFast => 4

/-- Track state numbers (R189). -/
def TrackState.code : TrackState → Nat
  | .lost => 0 | .tracking => 1

/-- Door state numbers. -/
def DoorState.code : DoorState → Nat
  | .latched => 0 | .opening => 1 | .opened => 2 | .openFailed => 3 | .closing => 4 | .closed => 5
  | .obstructed => 6 | .missed => 7 | .unknown => 8

/-- Fleet state numbers. -/
def FleetState.code : FleetState → Nat
  | .unplaced => 0 | .inTerminal => 1 | .inLine => 2 | .garaged => 3

/-- Last door fault numbers (R191). -/
def LastDoorFault.code : LastDoorFault → Nat
  | .none => 0 | .openFailed => 1 | .obstructed => 2 | .missed => 3

/-- Drive mode numbers. -/
def DriveMode.code : DriveMode → Nat
  | .off => 0 | .auto => 1 | .manual => 2 | .oneShot => 3

/-- The drive mode of a number, if it is one of the four. -/
def driveModeOf : Nat → Option DriveMode
  | 0 => some .off | 1 => some .auto | 2 => some .manual | 3 => some .oneShot | _ => none

/-- Channel state numbers. -/
def ChanState.code : ChanState → Nat
  | .idle => 0 | .strokingOpen => 1 | .strokingClose => 2 | .reversing => 3 | .jammed => 4 | .halted => 5

/-- Channel numbers. -/
def channelCode : Channel → Nat
  | .d0 => 0 | .d1 => 1 | .d2 => 2 | .d3 => 3

/-- The channel of a number, if it is 0 to 3. -/
def channelOf : Nat → Option Channel
  | 0 => some .d0 | 1 => some .d1 | 2 => some .d2 | 3 => some .d3 | _ => none

/-- Loop numbers 1 to 4 (R68). -/
def loopCode : RopeLoop → Nat
  | .loop1 => 1 | .loop2 => 2 | .loop3 => 3 | .loop4 => 4

/-- Loop state numbers (R189). -/
def LoopState.code : LoopState → Nat
  | .closed => 0 | .openPending => 1 | .opened => 2 | .closePending => 3

/-- Tension sensor state numbers (R189). -/
def SensorState.code : SensorState → Nat
  | .good => 0 | .faulty => 1 | .none => 2

/-- Grip grade numbers. -/
def Grade.code : Grade → Nat
  | .noReading => 0 | .fail => 1 | .weak => 2 | .good => 3 | .high => 4

/-- Gate state numbers (R189). -/
def GateState.code : GateState → Nat
  | .empty => 0 | .holding => 1 | .launching => 2 | .diverting => 3

/-- Line state numbers. -/
def LineState.code : LineState → Nat
  | .gap => 0 | .idle => 1 | .transmitting => 2 | .receiving => 3 | .inBreak => 4

/-- Frame kind codes (R98). -/
def FrameKind.code : FrameKind → Nat
  | .trip => 1 | .status => 2 | .time => 3 | .note => 4 | .pairGrant => 6 | .pairDenied => 7
  | .pairRecall => 8 | .pairFree => 9 | .hook => 10

/-- Frame priorities (R98); the smaller is the more urgent. -/
def FrameKind.priority : FrameKind → Nat
  | .trip => 0 | .status => 4 | .time => 8 | .note => 10 | .pairGrant => 2 | .pairDenied => 2
  | .pairRecall => 2 | .pairFree => 2 | .hook => 3

/-- STATUS and TIME are the periodic kinds (R103). -/
def FrameKind.periodic : FrameKind → Bool
  | .status | .time => true
  | _ => false

/-- Station state numbers. -/
def StationState.code : StationState → Nat
  | .unheard => 0 | .live => 1 | .silent => 2 | .excluded => 3

/-- Sheave state numbers. -/
def SheaveState.code : SheaveState → Nat
  | .ok => 0 | .tripped => 1 | .fault => 2 | .absent => 3 | .unreported => 4

/-- The sheave state of the 2-bit field of a STATUS payload (R193). -/
def sheaveOf : Nat → SheaveState
  | 0 => .ok | 1 => .tripped | 2 => .fault | _ => .absent

/-- Hook numbers (R191). -/
def Hook.code : Hook → Nat
  | .onHook => 0 | .offHook => 1 | .unreported => 2

/-- The events of STATION_STATE. -/
inductive StationEvent where
  | timeout | frame | excludeStation | includeStation | adoption | reset | unexpected | tripReceived
  | faultSet | faultCleared
  deriving DecidableEq, Repr

/-- Station event numbers. -/
def StationEvent.code : StationEvent → Nat
  | .timeout => 0 | .frame => 1 | .excludeStation => 2 | .includeStation => 3 | .adoption => 4
  | .reset => 5 | .unexpected => 6 | .tripReceived => 7 | .faultSet => 8 | .faultCleared => 9

/-- Call state numbers; 0 is "(empty)". -/
def CallState.code : CallState → Nat
  | .waiting => 1 | .ringing => 2 | .talking => 3

/-- Call origin numbers (R191). -/
def CallOrigin.code : CallOrigin → Nat
  | .station => 0 | .host => 1 | .trip => 2

/-- End and denial reasons of calls (R133, R127, R128). -/
inductive EndReason where
  | hungUp | cancelled | noAnswer | notConnected | linkLost | preempted | displaced
  | full | callerUnavailable | calleeUnavailable
  deriving DecidableEq, Repr

/-- Reason numbers; 0 is "(none)". -/
def EndReason.code : EndReason → Nat
  | .hungUp => 1 | .cancelled => 2 | .noAnswer => 3 | .notConnected => 4 | .linkLost => 5
  | .preempted => 6 | .displaced => 7 | .full => 8 | .callerUnavailable => 9 | .calleeUnavailable => 10

/-- Result code numbers. -/
def ResultCode.code : ResultCode → Nat
  | .ok => 0 | .clamped => 1 | .proven => 2 | .jammed => 3 | .aborted => 4 | .badOrder => 5
  | .badArg => 6 | .busy => 7 | .full => 8 | .wrongState => 9 | .notStarted => 10
  | .notAtStandstill => 11 | .causesPresent => 12 | .trackLost => 13 | .setupInvalid => 14
  | .locked => 15 | .keyRequired => 16 | .readOnly => 17 | .duplicateTicket => 18
  | .duplicateTag => 19 | .stationSilent => 20 | .lineBusy => 21 | .undelivered => 22 | .timeout => 23

/-- Journal kind codes 0 to 28 (R190). -/
def JKind.code : JKind → Nat
  | .reset => 0 | .causeRaised => 1 | .causeCleared => 2 | .causeRemoved => 3 | .stateChange => 4
  | .cabinArrived => 5 | .cabinLaunched => 6 | .cabinDeparted => 7 | .cabinBarredAtGate => 8
  | .gripTest => 9 | .doorFault => 10 | .gateWithheld => 11 | .boundaryChatter => 12
  | .tagUnreadable => 13 | .tagDuplicate => 14 | .fleetMismatch => 15 | .trackRebuilt => 16
  | .stationState => 17 | .lineUndelivered => 18 | .callIncoming => 19 | .callEnded => 20
  | .noteReceived => 21 | .tableAdopted => 22 | .setSaved => 23 | .setLoaded => 24 | .setInvalid => 25
  | .clockSet => 26 | .orderOrphaned => 27 | .journalGap => 28

/-- Order kind codes 1 to 26 (R190). -/
def Order.code : Order → Nat
  | .start => 1 | .stop => 2 | .fastStop => 3 | .resume => 4 | .setCeiling _ => 5 | .ackCause _ _ => 6
  | .rebuildTrack _ => 7 | .barCabin _ => 8 | .unbarCabin _ => 9 | .garageCabin _ => 10
  | .releaseCabin _ => 11 | .setDriveMode _ _ => 12 | .haltDrive _ => 13 | .stroke _ _ => 14
  | .sendNote _ _ _ => 15 | .excludeStation _ => 16 | .includeStation _ => 17 | .call _ _ => 18
  | .answer _ => 19 | .hangUp _ => 20 | .adopt _ => 21 | .unlock _ => 22 | .lock _ _ => 23
  | .loadSet _ => 24 | .saveSet _ => 25 | .setClock _ => 26

/-- Lock numbers (R192). -/
def Lock.code : Lock → Nat
  | .unlocked => 0 | .locked => 1 | .tight => 2

/-- Reset kind numbers (R189). -/
def ResetKind.code : ResetKind → Nat
  | .power => 0 | .pin => 1 | .control => 2

/-- Door faults of DOOR_FAULT. -/
inductive DoorFault where
  | openFailed | closeTimeout | obstructed | missed | gateLate
  deriving DecidableEq, Repr

/-- Door fault numbers. -/
def DoorFault.code : DoorFault → Nat
  | .openFailed => 0 | .closeTimeout => 1 | .obstructed => 2 | .missed => 3 | .gateLate => 4

/-- State change reasons of STATE_CHANGE; 0 is "(none)". -/
inductive ChangeReason where
  | reset | overflow | rebuild | atOnce | pending
  deriving DecidableEq, Repr

/-- State change reason numbers. -/
def ChangeReason.code : ChangeReason → Nat
  | .reset => 1 | .overflow => 2 | .rebuild => 3 | .atOnce => 4 | .pending => 5

end Sys2Proof.Machine
end

