-- ==== Sys2Proof/Machine/Flags.lean ====
section
/-! DEFINITION. The flag registers of the host port: the NEWS and ENABLE bits, ATTN, and the word read
from CONTROL (R167, R168, R188). -/

namespace Sys2Proof.Machine

open Sys2Proof

/-- The seven NEWS conditions (R168). -/
inductive News where
  | orderDone | journal | journalFull | cause | call | chain | resetDone
  deriving DecidableEq, Repr

/-- The mask of a condition's bit (R188). -/
def News.mask : News → BitVec 7
  | .orderDone => 0x01#7 | .journal => 0x02#7 | .journalFull => 0x04#7 | .cause => 0x08#7
  | .call => 0x10#7 | .chain => 0x20#7 | .resetDone => 0x40#7

/-- A NEWS bit is set; a bit that is already set remains set (R168). -/
def State.setNews (s : State) (n : News) : State :=
  { s with obc := { s.obc with news := s.obc.news ||| n.mask } }

/-- ATTN is asserted while any NEWS bit is set whose ENABLE bit is also set (R167). -/
def State.attn (s : State) : Bool := (s.obc.news &&& s.obc.enable) != 0

/-- The word read from CONTROL (R188). Bits 8 to 15 read 0 (log 34). -/
def State.controlWord (s : State) : Word :=
  BitVec.ofNat 16 (s.msv.state.code + 8 * flagByte
    [s.msv.chainOut, s.pins.chainSense, s.pins.setupKey, decide (s.trk.state = .tracking), s.obc.armed])

/-- A host write to NEWS: each bit written 1 is cleared, each bit written 0 remains unchanged (R167). -/
def State.clearNews (s : State) (value : Word) : State :=
  { s with obc := { s.obc with news := s.obc.news &&& ~~~ (value.setWidth 7) } }

/-- A host write to ENABLE: the written bits replace the enable bits, and bits 7 to 15 are dropped (R167; log 34). -/
def State.replaceEnable (s : State) (value : Word) : State :=
  { s with obc := { s.obc with enable := value.setWidth 7 } }

end Sys2Proof.Machine
end

