-- ==== Sys2Proof/Machine/Ops.lean ====
section
/-! DEFINITION. The named operations the blocks share: access to per-channel data, to terminal memory, to
the terminal clock, to the fleet table and the track; appending to the journal (R174, R175); writing the
result of an order into its slip and completing a long order (R171, R173). -/

namespace Sys2Proof.Machine

open Sys2Proof

/-! ## Channels and loops -/

/-- The value of one channel. -/
def PerChannel.get {α : Type} (p : PerChannel α) : Channel → α
  | .d0 => p.d0 | .d1 => p.d1 | .d2 => p.d2 | .d3 => p.d3

/-- Replace the value of one channel. -/
def PerChannel.set {α : Type} (p : PerChannel α) (c : Channel) (x : α) : PerChannel α :=
  match c with
  | .d0 => { p with d0 := x } | .d1 => { p with d1 := x } | .d2 => { p with d2 := x } | .d3 => { p with d3 := x }

/-- The value of one loop. -/
def PerLoop.get {α : Type} (p : PerLoop α) : RopeLoop → α
  | .loop1 => p.loop1 | .loop2 => p.loop2 | .loop3 => p.loop3 | .loop4 => p.loop4

/-- Replace the value of one loop. -/
def PerLoop.set {α : Type} (p : PerLoop α) (l : RopeLoop) (x : α) : PerLoop α :=
  match l with
  | .loop1 => { p with loop1 := x } | .loop2 => { p with loop2 := x }
  | .loop3 => { p with loop3 := x } | .loop4 => { p with loop4 := x }

/-! ## Updating one block -/

/-- Change the pins. -/
def State.updPins (s : State) (f : Pins → Pins) : State := { s with pins := f s.pins }
/-- Change the host-written bytes of terminal memory. -/
def State.updMem (s : State) (f : List Host.Cell → List Host.Cell) : State := { s with mem := f s.mem }
/-- Change the track unit. -/
def State.updTrk (s : State) (f : Trk → Trk) : State := { s with trk := f s.trk }
/-- Change the fleet table. -/
def State.updFleet (s : State) (f : List FleetRec → List FleetRec) : State := { s with fleet := f s.fleet }
/-- Change the door drive unit. -/
def State.updDdu (s : State) (f : PerChannel Chan → PerChannel Chan) : State := { s with ddu := f s.ddu }
/-- Change the rope monitor. -/
def State.updRpm (s : State) (f : Rpm → Rpm) : State := { s with rpm := f s.rpm }
/-- Change the launch unit. -/
def State.updLch (s : State) (f : Lch → Lch) : State := { s with lch := f s.lch }
/-- Change the line controller. -/
def State.updLnc (s : State) (f : Lnc → Lnc) : State := { s with lnc := f s.lnc }
/-- Change the station table. -/
def State.updStn (s : State) (f : Stn → Stn) : State := { s with stn := f s.stn }
/-- Change the call unit. -/
def State.updCal (s : State) (f : Cal → Cal) : State := { s with cal := f s.cal }
/-- Change the motion supervisor. -/
def State.updMsv (s : State) (f : Msv → Msv) : State := { s with msv := f s.msv }
/-- Change the marks of the published bytes written since power-up (R176; log 6). -/
def State.updHeld (s : State) (f : Held → Held) : State := { s with held := f s.held }
/-- Change the order board controller. -/
def State.updObc (s : State) (f : Obc → Obc) : State := { s with obc := f s.obc }
/-- Change the setup store. -/
def State.updSst (s : State) (f : Sst → Sst) : State := { s with sst := f s.sst }

/-- Apply an operation when a condition holds. -/
def State.when (s : State) (c : Bool) (f : State → State) : State := if c then f s else s

/-! ## Bounded counts and time -/

/-- Increment a count held at its largest value ("saturating", 00_scope 4.2). -/
def satInc (top n : Nat) : Nat := if n < top then n + 1 else top

/-- The remaining ms of a timer; 0 when it is stopped. -/
def State.remaining (s : State) (t : Timer) : Nat :=
  match t with
  | none => 0
  | some deadline => deadline - s.now

/-- The terminal clock's ms, held at 999 until its seconds change (R185; log 2). -/
def State.clockMs (s : State) : Nat := min 999 (s.sst.clock.msBase + (s.now - s.sst.clock.msAt))

/-- The terminal clock's reading. -/
def State.clockTime (s : State) : ClockTime := { seconds := s.sst.clock.seconds, ms := s.clockMs }

/-! ## Terminal memory: the host-written cells -/

/-- The byte at an offset; an unlisted byte is 0 (R176). -/
def memRead : List Host.Cell → Nat → Byte
  | [], _ => 0
  | (k, v) :: rest, a => if k = a then v else memRead rest a

/-- Write a byte, keeping the list rising and free of zero bytes. -/
def memWrite : List Host.Cell → Nat → Byte → List Host.Cell
  | [], a, v => if v = 0 then [] else [(a, v)]
  | (k, w) :: rest, a, v =>
    if a < k then (if v = 0 then (k, w) :: rest else (a, v) :: (k, w) :: rest)
    else if a = k then (if v = 0 then rest else (a, v) :: rest)
    else (k, w) :: memWrite rest a v

/-- Write bytes at an offset and upward. -/
def memWriteList : List Host.Cell → Nat → List Byte → List Host.Cell
  | m, _, [] => m
  | m, a, b :: rest => memWriteList (memWrite m a b) (a + 1) rest

/-- The cells from `lo` on rise strictly and hold no zero byte. -/
def memWfFrom : Nat → List Host.Cell → Bool
  | _, [] => true
  | lo, (k, v) :: rest => decide (lo ≤ k) && (v != 0) && memWfFrom (k + 1) rest

/-- The canonical form of the cells: offsets strictly rising, no byte equal to what an unlisted offset reads as. -/
def Memory.wf (m : List Host.Cell) : Bool := memWfFrom 0 m

/-- A little-endian 2-byte field of the cells. -/
def memRead16 (m : List Host.Cell) (a : Nat) : Nat := (memRead m a).toNat + 256 * (memRead m (a + 1)).toNat

/-! ## Journal (R174, R175) -/

/-- Append an entry: its sequence is W, and W advances (R174). -/
def State.appendEntry (s : State) (kind : JKind) (block : Block) (index : Byte) (cabin : Nat)
    (detail : List Byte) : State :=
  (s.updObc fun o =>
    { o with
      journal := ({ seq := o.written, time := s.clockTime, clockInvalid := !s.sst.clock.valid,
                    kind := kind, block := block, index := index, cabin := cabin,
                    detail := detail } :: o.journal).take 256
      written := o.written + 1 }).setNews .journal

/-- The unread span: W minus the taken read count, modulo 2³² (R175). -/
def Obc.span (o : Obc) : Nat := (o.written - o.taken).toNat

/-- An event finds the journal full: it is counted in the missed-kinds mask (R175). -/
def State.missEntry (s : State) (kind : JKind) : State :=
  (s.updObc fun o =>
    { o with missedMask := o.missedMask ||| (1#29 <<< kind.code)
             missedCount := satInc 65535 o.missedCount }).setNews .journalFull

/-- A JOURNAL_GAP entry with the mask and the missed count, which are set to 0 (R175). -/
def State.appendGap (s : State) : State :=
  (s.appendEntry .journalGap .obc (Config.journalIndex JKind.journalGap.code) 0
      (le32 s.obc.missedMask.toNat ++ le16 s.obc.missedCount)).updObc fun o =>
    { o with missedMask := 0, missedCount := 0 }

/-- A block asks for an entry: it is written, or missed, as the span decides (R175). A cabin number that the rule of the
entry names stands in the entry's cabin field alone, and not in the detail (log 7). -/
def State.journalAt (s : State) (kind : JKind) (block : Block) (index : Byte) (cabin : Nat)
    (detail : List Byte) : State :=
  if s.obc.span < 256 then
    let s1 := if s.obc.missedMask != 0 || s.obc.missedCount != 0 then s.appendGap else s
    if s1.obc.span < 256 then s1.appendEntry kind block index cabin detail else s1.missEntry kind
  else s.missEntry kind

/-- A block asks for an entry of a kind for which the spec names no source index (log 6). -/
def State.journal (s : State) (kind : JKind) (block : Block) (cabin : Nat) (detail : List Byte) : State :=
  s.journalAt kind block (Config.journalIndex kind.code) cabin detail

/-! ## Orders: slips, results, contexts (R170 to R173) -/

/-- The offset of a slip (R164, R190). -/
def slipBase (slip : Nat) : Nat := 0x100 + 64 * slip

/-- The state byte of a slip: FREE 0, POSTED 1, TAKEN 2, DONE 3, REFUSED 4 (R187). -/
def State.slipState (s : State) (slip : Nat) : Nat := (memRead s.mem (slipBase slip + 2)).toNat

/-- The ticket of a slip. -/
def State.slipTicket (s : State) (slip : Nat) : Word := BitVec.ofNat 16 (memRead16 s.mem (slipBase slip))

/-- Set the state byte of one of the 32 slips. -/
def State.setSlipState (s : State) (slip state : Nat) : State :=
  if slip < 32 then s.updMem (memWrite · (slipBase slip + 2) (byteOf state)) else s

/-- What an order answers: DONE or REFUSED, the result code and the result data. -/
structure OrderResult where
  done : Bool
  code : ResultCode
  data : List Byte
  deriving DecidableEq, Repr

/-- An accepted short order without result data. -/
def resultOk : OrderResult := ⟨true, .ok, []⟩

/-- A refusal without result data. -/
def refusal (code : ResultCode) : OrderResult := ⟨false, code, []⟩

/-- Write a result into a slip: result code, length and up to 16 bytes of data, and 0 into the two bytes that no table
lists, then the state; NEWS ORDER_DONE is set (R170, R171, R187, R190). Data bytes beyond the length are not written
(log 11). -/
def State.writeResult (s : State) (slip : Nat) (r : OrderResult) : State :=
  if slip < 32 then
    ((((s.updMem (memWriteList · (slipBase slip + 44)
        (byteOf r.code.code :: byteOf r.data.length :: r.data.take 16))).updMem
          (memWriteList · (slipBase slip + 62) [0, 0])).setSlipState slip
            (if r.done then 3 else 4))).setNews .orderDone
  else s.setNews .orderDone

/-- The order context of a number, while it is in use. -/
def State.context (s : State) (k : Nat) : Option OrderCtx := (s.obc.contexts[k]?).join

/-- Free an order context. -/
def State.freeContext (s : State) (k : Nat) : State :=
  s.updObc fun o => { o with contexts := o.contexts.set k none }

/-- A long order completes: its result goes into its slip if the slip is still TAKEN with its ticket, and
into ORDER_ORPHANED otherwise; the context becomes free (R173). The completion state in ORDER_ORPHANED is coded as a slip
state (log 7). -/
def State.completeOrder (s : State) (k : Nat) (r : OrderResult) : State :=
  match s.context k with
  | none => s
  | some c =>
    (if s.slipState c.slip = 2 ∧ s.slipTicket c.slip = c.ticket then s.writeResult c.slip r
     else s.journal .orderOrphaned .obc 0
       (le16 c.ticket.toNat ++ [byteOf c.slip, byteOf c.order.code, byteOf (if r.done then 3 else 4),
         byteOf r.code.code] ++ r.data.take 8)).freeContext k

/-! ## Fleet table and registry (R23) -/

/-- The fleet record of a cabin 1 to 96. -/
def State.fleetRec (s : State) (cabin : Nat) : FleetRec :=
  if cabin = 0 then {} else (s.fleet[cabin - 1]?).getD {}

/-- Change the fleet record of a cabin; cabin 0 has none. -/
def State.updFleetRec (s : State) (cabin : Nat) (f : FleetRec → FleetRec) : State :=
  if cabin = 0 then s else s.updFleet (·.modify (cabin - 1) f)

/-- Set the fleet state of a cabin. -/
def State.setFleetState (s : State) (cabin : Nat) (st : FleetState) : State :=
  s.updFleetRec cabin fun r => { r with state := st }

/-- The weak count: the number of WEAK grades in the grip history (R86). -/
def FleetRec.weakCount (r : FleetRec) : Nat := r.history.countP (·.2 = .weak)

/-- The registry entry of a cabin 1 to 96 in the active cabin registry. -/
def State.regEntry (s : State) (cabin : Nat) : RegEntry :=
  if cabin = 0 then {} else (s.sst.active.registry[cabin - 1]?).getD {}

/-- A cabin is registered (R11). -/
def State.registered (s : State) (cabin : Nat) : Bool := (s.regEntry cabin).registered

/-- The position in a registry of the first registered cabin with a tag. -/
def tagIndex : List RegEntry → Word → Option Nat
  | [], _ => none
  | r :: rest, t => if r.registered ∧ r.tag = t then some 0 else (tagIndex rest t).map (· + 1)

/-- The cabin a tag is registered to, if any (R11). -/
def State.tagCabin (s : State) (t : Word) : Option Nat := (tagIndex s.sst.active.registry t).map (· + 1)

/-! ## The terminal track (R2, R5) -/

/-- The entry of a name. -/
def State.entry (s : State) (uid : Nat) : Option TrackEntry := s.trk.entries.find? (·.uid = uid)

/-- The cabin number of an entry, 0 if the entry is not in the track. -/
def State.entryCabin (s : State) (uid : Nat) : Nat := ((s.entry uid).map (·.cabin)).getD 0

/-- Change one entry. -/
def State.updEntry (s : State) (uid : Nat) (f : TrackEntry → TrackEntry) : State :=
  s.updTrk fun t => { t with entries := t.entries.map fun e => if e.uid = uid then f e else e }

/-- The front-most entry of a zone: the first in list order whose zone it is (R14). -/
def State.frontOf (s : State) (zone : Nat) : Option TrackEntry := s.trk.entries.find? (·.zone = zone)

/-- BARRED of an entry: that of the fleet record for a numbered cabin (R5). -/
def State.entryBarred (s : State) (e : TrackEntry) : Bool :=
  if e.cabin = 0 then e.ownBarred else (s.fleetRec e.cabin).barred

/-- GARAGE_PENDING of an entry: that of the fleet record, clear for cabin 0 (R5). -/
def State.entryGarage (s : State) (e : TrackEntry) : Bool :=
  if e.cabin = 0 then false else (s.fleetRec e.cabin).garagePending

/-- L_k of the active zone plan, in cm. -/
def State.zoneLen (s : State) (k : Nat) : Nat := (s.sst.active.zone.len[k]?).getD 0

/-- r_k of the active zone plan, in ‰. -/
def State.zoneRatio (s : State) (k : Nat) : Nat := (s.sst.active.zone.ratio[k]?).getD 0

/-! ## Stations (R109) -/

/-- The line plan's entry of an address, if the station is present. -/
def LinePlan.station (p : LinePlan) (address : Nat) : Option StationEntry :=
  p.stations.find? (·.address = address)

/-- A station is present in the active line plan; the valley always is (R110). -/
def State.present (s : State) (address : Nat) : Bool :=
  address = 0 || (s.sst.active.line.station address).isSome

/-- The station record of an address 0 to 13. -/
def State.stationRec (s : State) (address : Nat) : StationRec := (s.stn.records[address]?).getD {}

/-- Change a station record. -/
def State.updStation (s : State) (address : Nat) (f : StationRec → StationRec) : State :=
  s.updStn fun t => { t with records := t.records.modify address f }

/-- The sheave count of a station in a line plan. -/
def LinePlan.sheaveCount (p : LinePlan) (address : Nat) : Nat := ((p.station address).map (·.sheaves)).getD 0

/-- The silence timeout of a station in a line plan. -/
def LinePlan.silence (p : LinePlan) (address : Nat) : Nat := ((p.station address).map (·.silence)).getD 0

/-- A station is supervised when it is the summit, or a tower whose sheave count is 1 or more (R117). -/
def LinePlan.supervised (p : LinePlan) (address : Nat) : Bool :=
  match p.station address with
  | none => false
  | some e => e.kind = 1 || decide (1 ≤ e.sheaves)

/-- The number of stations in state EXCLUDED (R122). -/
def State.excludedCount (s : State) : Nat := s.stn.records.countP (·.state = .excluded)

end Sys2Proof.Machine
end

