-- ==== Sys2Proof/Machine/Operands.lean ====
section
/-! DEFINITION. The operand forms of orders: reading a slip's order kind and arguments as the order board controller
copies them (R170, R190; log 25). -/

namespace Sys2Proof.Machine

open Sys2Proof

/-- A 1-byte argument of a slip, by its offset among the 40 argument bytes. -/
def State.arg8 (s : State) (slip i : Nat) : Nat := (memRead s.mem (slipBase slip + 4 + i)).toNat

/-- A 2-byte argument of a slip. -/
def State.arg16 (s : State) (slip i : Nat) : Nat := memRead16 s.mem (slipBase slip + 4 + i)

/-- A 4-byte argument of a slip. -/
def State.arg32 (s : State) (slip i : Nat) : DWord :=
  BitVec.ofNat 32 (s.arg16 slip i + 65536 * s.arg16 slip (i + 2))

/-- The (cabin, zone) pairs of a REBUILD_TRACK; a count beyond what 40 bytes hold reads as many as they hold. -/
def State.argPairs (s : State) (slip : Nat) : List (Nat × Nat) :=
  (List.range (min 19 (s.arg8 slip 0))).map fun i => (s.arg8 slip (1 + 2 * i), s.arg8 slip (2 + 2 * i))

/-- The text of a SEND_NOTE; a length beyond what 40 bytes hold reads as many as they hold. -/
def State.argText (s : State) (slip : Nat) : List Byte :=
  (List.range (min 36 (s.arg8 slip 3))).map fun i => memRead s.mem (slipBase slip + 4 + 4 + i)

/-- The order a slip holds; none for an order kind that is not one of R190. -/
def State.orderOf (s : State) (slip : Nat) : Option Order :=
  let a := s.arg8 slip 0
  let b := s.arg8 slip 1
  match (memRead s.mem (slipBase slip + 3)).toNat with
  | 1 => some .start
  | 2 => some .stop
  | 3 => some .fastStop
  | 4 => some .resume
  | 5 => some (.setCeiling (s.arg16 slip 0))
  | 6 => some (.ackCause a b)
  | 7 => some (.rebuildTrack (s.argPairs slip))
  | 8 => some (.barCabin a)
  | 9 => some (.unbarCabin a)
  | 10 => some (.garageCabin a)
  | 11 => some (.releaseCabin a)
  | 12 => some (.setDriveMode a b)
  | 13 => some (.haltDrive a)
  | 14 => some (.stroke a b)
  | 15 => some (.sendNote a (BitVec.ofNat 16 (s.arg16 slip 1)) (s.argText slip))
  | 16 => some (.excludeStation a)
  | 17 => some (.includeStation a)
  | 18 => some (.call a b)
  | 19 => some (.answer a)
  | 20 => some (.hangUp a)
  | 21 => some (.adopt a)
  | 22 => some (.unlock a)
  | 23 => some (.lock a b)
  | 24 => some (.loadSet a)
  | 25 => some (.saveSet a)
  | 26 => some (.setClock (s.arg32 slip 0))
  | _ => none

end Sys2Proof.Machine
end

