-- ==== Sys2Proof/Machine/Queue.lean ====
section
/-! DEFINITION. The transmit queue of the line controller: places, order, requests when the queue is full,
and what the asking block is told (R100, R101, R103, R104, R136). -/

namespace Sys2Proof.Machine

open Sys2Proof

/-- Insert a frame behind every frame of its priority or a more urgent one (R100). -/
def insertFrame (f : TxFrame) : List TxFrame → List TxFrame
  | [] => [f]
  | g :: rest => if g.kind.priority ≤ f.kind.priority then g :: insertFrame f rest else f :: g :: rest

/-- A frame other than a TRIP has a free ordinary place: fewer than 14 frames of priority other than 0, and
fewer than 16 in all (R100). -/
def ordinaryPlace (q : List TxFrame) : Bool :=
  decide (q.countP (·.kind.priority ≠ 0) < 14) && decide (q.length < 16)

/-- The frame is the one whose attempt is on the line. -/
def Lnc.onLine (l : Lnc) (f : TxFrame) : Bool := l.attempt.any (·.fid = f.fid)

/-- The youngest queued frame with a property: the one queued last. -/
def youngest (p : TxFrame → Bool) (q : List TxFrame) : Option TxFrame :=
  q.foldl (fun best f =>
    if p f then
      match best with
      | none => some f
      | some g => if g.fid < f.fid then some f else best
    else best) none

/-- Remove a frame from the queue. -/
def State.unqueue (s : State) (fid : Nat) : State :=
  s.updLnc fun l => { l with queue := l.queue.filter (·.fid ≠ fid) }

/-- Queue a frame at its place (R100). -/
def State.enqueue (s : State) (kind : FrameKind) (dest : Nat) (payload : List Byte) (asker : Block)
    (context : Option Nat) : State :=
  s.updLnc fun l =>
    { l with queue := insertFrame { fid := l.nextFid, kind := kind, dest := dest, payload := payload,
                                    asker := asker, context := context } l.queue
             nextFid := l.nextFid + 1 }

/-- The call unit is told that a pair frame was not delivered: a PAIR_GRANT, PAIR_RECALL or PAIR_FREE sets
the re-announce mark and starts its timer, unless it is already running (R136). -/
def State.pairUndelivered (s : State) (kind : FrameKind) : State :=
  match kind with
  | .pairGrant | .pairRecall | .pairFree =>
    if s.cal.reannounce.isNone then s.updCal fun c => { c with reannounce := some (s.now + 1000) } else s
  | _ => s

/-- A frame that finds no place, or gives its place up, is undelivered: a NOTE's order is refused
LINE_BUSY, and for any other frame the asking block is told and LINE_UNDELIVERED is written with 0
attempts and reason QUEUE_FULL (R101). -/
def State.queueFull (s : State) (kind : FrameKind) (dest : Nat) (context : Option Nat) : State :=
  match kind with
  | .note =>
    match context with
    | none => s
    | some k => s.completeOrder k (refusal .lineBusy)
  | _ =>
    (s.pairUndelivered kind).journal .lineUndelivered .lnc 0 [byteOf kind.code, byteOf dest, 0, 0]

/-- Ask for a frame other than a TRIP (R100, R101). -/
def State.askFrame (s : State) (kind : FrameKind) (dest : Nat) (payload : List Byte) (asker : Block)
    (context : Option Nat) : State :=
  if ordinaryPlace s.lnc.queue then s.enqueue kind dest payload asker context
  else
    match youngest (fun f => f.kind = .note && !s.lnc.onLine f) s.lnc.queue with
    | some f => ((s.unqueue f.fid).queueFull f.kind f.dest f.context).enqueue kind dest payload asker context
    | none => s.queueFull kind dest context

/-- Ask for a TRIP of category FAST with a cause code as its reason, addressed to all (R101, R104). -/
def State.askTrip (s : State) (reason : CauseCode) : State :=
  let payload := [2, byteOf reason.code]
  if s.lnc.queue.any (fun f => f.kind = .trip && f.payload = payload && !s.lnc.onLine f) then s
  else if s.lnc.queue.length < 16 then s.enqueue .trip 15 payload .lnc none
  else
    match youngest (fun f => f.kind ≠ .trip && !s.lnc.onLine f) s.lnc.queue with
    | some f => ((s.unqueue f.fid).queueFull f.kind f.dest f.context).enqueue .trip 15 payload .lnc none
    | none => s.queueFull .trip 15 none

/-- At the beginning of a period a frame of a periodic kind is asked for: a queued one is marked renewed
and serves, otherwise one is queued (R103). -/
def State.askPeriodic (s : State) (kind : FrameKind) : State :=
  if s.lnc.queue.any (·.kind = kind) then
    s.updLnc fun l =>
      { l with queue := l.queue.map fun f => if f.kind = kind then { f with renewed := true } else f }
  else s.askFrame kind 15 [] .lnc none

end Sys2Proof.Machine
end

