-- ==== Sys2Proof/Machine/Calls.lean ====
section
/-! DEFINITION. The call unit: requests, grants, ringing, ends of calls, lost stations, re-announcement and
automatic trip calls (R125 to R137). -/

namespace Sys2Proof.Machine

open Sys2Proof

/-! ## The table -/

/-- The holding call: the first record while it is RINGING or TALKING (R125, R126). -/
def Cal.holding (c : Cal) : Option CallRec :=
  match c.table with
  | [] => none
  | r :: _ => if r.state = .waiting then none else some r

/-- The record of a call id. -/
def Cal.find (c : Cal) (id : Nat) : Option CallRec := c.table.find? (·.id = id)

/-- The first waiting call (R126). -/
def Cal.firstWaiting (c : Cal) : Option CallRec := c.table.find? (·.state = .waiting)

/-- Place a new waiting call: URGENT before the waiting NORMAL calls, otherwise last (R126). -/
def insertCall (r : CallRec) : List CallRec → List CallRec
  | [] => [r]
  | c :: rest =>
    if r.urgent ∧ c.state = .waiting ∧ ¬ c.urgent then r :: c :: rest else c :: insertCall r rest

/-- Advance a call id by 1, from 255 to 1, past the ids in use (R126). -/
def advanceId (table : List CallRec) : Nat → Nat → Nat
  | 0, n => n
  | fuel + 1, n =>
    let m := if n = 255 then 1 else n + 1
    if table.any (·.id = m) then advanceId table fuel m else m

/-- The parties that the call view shows are marked as written (log 6). -/
def State.markParties (s : State) : State :=
  s.updHeld fun h => { h with parties := s.cal.table.foldl (fun n r => max n r.parties.length) h.parties }

/-- Change the record of a call id. -/
def State.updCall (s : State) (id : Nat) (f : CallRec → CallRec) : State :=
  (s.updCal fun c => { c with table := c.table.map fun r => if r.id = id then f r else r }).markParties

/-! ## Pair frames -/

/-- Queue a pair frame, unless the break mark is set (R135). -/
def State.pairFrame (s : State) (kind : FrameKind) (dest : Nat) (payload : List Byte) : State :=
  if s.cal.breakMark then s else s.askFrame kind dest payload .cal none

/-- The payload of PAIR_GRANT (R193). -/
def CallRec.grantPayload (r : CallRec) : List Byte :=
  [byteOf r.id, byteOf r.caller, byteOf r.callee, byteOf (flagNat r.urgent)]

/-- One frame that states the pair state: PAIR_GRANT for the holding call, or PAIR_FREE (R135, R136). -/
def State.announcePair (s : State) : State :=
  match s.cal.holding with
  | some r => s.pairFrame .pairGrant 15 r.grantPayload
  | none => s.pairFrame .pairFree 15 []

/-! ## Valley hook and outputs (R125, R130) -/

/-- The valley handset is off-hook: the valley is the caller of a record of origin HOST, or among the
parties of the holding call (R125). -/
def Cal.valleyHookOff (c : Cal) : Bool :=
  c.table.any (fun r => r.origin = .host && r.caller = 0) ||
    (match c.holding with
     | none => false
     | some r => r.parties.contains 0)

/-- The condition of RING_OUT (R130). -/
def Cal.ringing (c : Cal) : Bool :=
  match c.holding with
  | none => false
  | some r => !r.parties.contains 0 &&
      (r.callee = 0 || (r.callee = 15 && r.caller ≠ 0) || r.origin = .trip)

/-- The condition of VOICE_CONNECT (R130). -/
def Cal.voice (c : Cal) : Bool :=
  match c.holding with
  | none => false
  | some r => r.state = .talking && r.parties.contains 0

/-- The valley rings for the holding call: the first time for the call, its rung mark and NEWS CALL are
set and CALL_INCOMING is written (R130). -/
def State.noteRing (s : State) : State :=
  match s.cal.holding with
  | none => s
  | some r =>
    if s.cal.ringing ∧ ¬ r.rung then
      ((s.updCall r.id fun c => { c with rung := true }).setNews .call).journal .callIncoming .cal 0
        [byteOf r.id, byteOf r.caller, byteOf (flagNat r.urgent)]
    else s

/-- The valley hook and the valley outputs follow their conditions (R125, R130). -/
def State.refreshValley (s : State) : State :=
  (s.updCal fun c => { c with valleyOffHook := c.valleyHookOff, ringOut := c.ringing, voiceConnect := c.voice }).noteRing

/-! ## Grants and ends -/

/-- A grant of a waiting record (R129). -/
def State.grantCall (s : State) (r : CallRec) : State :=
  let ring := s.sst.active.line.ringTimeout
  let g : CallRec := { r with state := .ringing, stateTime := s.clockTime, waitTimer := none, shownWait := 0,
                              ringTimer := some (s.now + 1000 * ring), shownRing := ring, context := none }
  let s1 := s.updCal fun c => { c with table := g :: c.table.filter (·.id ≠ r.id) }
  let s2 := s1.pairFrame .pairGrant 15 g.grantPayload
  let s3 := match r.context with
    | none => s2
    | some k => s2.completeOrder k ⟨true, .ok, [byteOf r.id]⟩
  s3.refreshValley

/-- The first waiting call is granted whenever the pair is FREE and a record waits (R129). -/
def State.grantIfFree (s : State) : State :=
  match s.cal.holding with
  | some _ => s
  | none =>
    match s.cal.firstWaiting with
    | none => s
    | some r => s.grantCall r

/-- The result a CALL order gets when its call ends before its grant (R138). -/
def EndReason.callResult : EndReason → ResultCode
  | .displaced => .full
  | .notConnected => .timeout
  | .linkLost => .stationSilent
  | _ => .aborted

/-- Steps 1 to 4 of a call end: the record leaves the table, its CALL order completes, PAIR_RECALL or
PAIR_DENIED is queued, CALL_ENDED is written (R132). `calleeLost` tells that the callee is the lost
station of a LINK_LOST. -/
def State.dropCall (s : State) (r : CallRec) (reason : EndReason) (calleeLost : Bool) : State :=
  let s1 := s.updCal fun c => { c with table := c.table.filter (·.id ≠ r.id) }
  let s2 := match r.context with
    | none => s1
    | some k => s1.completeOrder k ⟨false, reason.callResult, [byteOf r.id, byteOf reason.code]⟩
  let s3 :=
    if r.state ≠ CallState.waiting then s2.pairFrame .pairRecall 15 [byteOf r.id, byteOf reason.code]
    else if r.caller ≠ 0 ∧ (reason = .displaced ∨ reason = .notConnected ∨ (reason = .linkLost ∧ calleeLost)) then
      s2.pairFrame .pairDenied r.caller [byteOf reason.code, byteOf r.callee]
    else s2
  s3.journal .callEnded .cal 0
    ([byteOf r.id, byteOf r.caller, byteOf r.callee, byteOf (flagNat r.urgent), byteOf r.origin.code,
      byteOf r.state.code, byteOf reason.code] ++ le32 ((s.now - r.requestAt) / 1000))

/-- A call ends (R132). -/
def State.endCall (s : State) (id : Nat) (reason : EndReason) (calleeLost : Bool) : State :=
  match s.cal.find id with
  | none => s
  | some r =>
    let s1 := s.dropCall r reason calleeLost
    let s2 :=
      match s1.cal.holding with
      | some _ => s1
      | none =>
        match s1.cal.firstWaiting with
        | some w => s1.grantCall w
        | none => if r.state ≠ CallState.waiting then s1.pairFrame .pairFree 15 [] else s1
    s2.refreshValley

/-! ## Requests (R127, R128) -/

/-- What R127 makes of a request before room is sought. -/
inductive RequestCase where
  | ignored | callerUnavailable | calleeInvalid | calleeUnavailable | duplicate | seekRoom
  deriving DecidableEq, Repr

/-- The first row of R127 that applies. -/
def State.requestCase (s : State) (caller callee : Nat) : RequestCase :=
  if caller ≠ 0 ∧ ¬ s.present caller then .ignored
  else if caller ≠ 0 ∧ (s.stationRec caller).state = .silent then .callerUnavailable
  else if callee = 14 ∨ 15 < callee ∨ callee = caller then .calleeInvalid
  else if callee ≠ 15 ∧ ¬ s.present callee then .calleeInvalid
  else if callee ≠ 15 ∧ callee ≠ 0 ∧ ((s.stationRec callee).state = .silent ∨ (s.stationRec callee).state = .excluded) then
    .calleeUnavailable
  else if s.cal.table.any (fun r => r.caller = caller && r.callee = callee) then .duplicate
  else .seekRoom

/-- A record is created in state WAITING with its wait timer started (R126, R128, R133), and the first
waiting call is granted if the pair is FREE (R129). -/
def State.createCall (s : State) (caller callee : Nat) (urgent : Bool) (origin : CallOrigin)
    (context : Option Nat) : State :=
  let wait := s.sst.active.line.waitTimeout
  let r : CallRec :=
    { id := s.cal.nextId, caller := caller, callee := callee, urgent := urgent, origin := origin,
      context := context, state := .waiting, parties := if origin = .trip then [] else [caller],
      requestTime := s.clockTime, requestAt := s.now, stateTime := s.clockTime,
      waitTimer := some (s.now + 1000 * wait), ringTimer := none, rung := false,
      shownWait := wait, shownRing := 0 }
  ((s.updCal fun c =>
      { c with table := insertCall r c.table
               nextId := advanceId (r :: c.table) (c.table.length + 1) c.nextId }).markParties.grantIfFree).refreshValley

/-- The youngest waiting NORMAL call. -/
def Cal.youngestNormal (c : Cal) : Option CallRec :=
  c.table.reverse.find? fun r => r.state = .waiting && !r.urgent

/-- The first row of R128 that applies: what makes room for a request. -/
inductive RoomCase where
  | preempt (holding : CallRec) | room | displace (waiting : CallRec) | full
  deriving DecidableEq, Repr

/-- Whether, and how, the table has room for a request (R128). -/
def Cal.roomCase (c : Cal) (urgent : Bool) : RoomCase :=
  let normalHolds := match c.holding with
    | some r => if r.urgent then none else some r
    | none => none
  match urgent, normalHolds with
  | true, some r => .preempt r
  | _, _ =>
    if c.table.length < 5 then .room
    else if urgent then
      match c.youngestNormal with
      | some r => .displace r
      | none => .full
    else .full

/-- Place a request for which there is room (R128). The end of a preempted call grants no other call: the
pair goes to the request's record. -/
def State.placeCall (s : State) (caller callee : Nat) (urgent : Bool) (origin : CallOrigin)
    (context : Option Nat) : State :=
  match s.cal.roomCase urgent with
  | .preempt r => (s.dropCall r .preempted false).refreshValley.createCall caller callee urgent origin context
  | .room => s.createCall caller callee urgent origin context
  | .displace r => (s.endCall r.id .displaced false).createCall caller callee urgent origin context
  | .full => s

/-- A denial of a PAIR_REQ: PAIR_DENIED to the caller and CALL_ENDED with call id 0 (R127). -/
def State.denyRequest (s : State) (caller callee : Nat) (urgent : Bool) (reason : EndReason) : State :=
  (s.pairFrame .pairDenied caller [byteOf reason.code, byteOf callee]).journal .callEnded .cal 0
    [0, byteOf caller, byteOf callee, byteOf (flagNat urgent), byteOf reason.code]

/-- A PAIR_REQ from a station is taken as a request (R127, R128). -/
def State.pairRequest (s : State) (caller callee : Nat) (urgent : Bool) : State :=
  match s.requestCase caller callee with
  | .ignored => s
  | .callerUnavailable => s.denyRequest caller callee urgent .callerUnavailable
  | .calleeInvalid => s.denyRequest caller callee urgent .calleeUnavailable
  | .calleeUnavailable => s.denyRequest caller callee urgent .calleeUnavailable
  | .duplicate => s
  | .seekRoom =>
    match s.cal.roomCase urgent with
    | .full => s.denyRequest caller callee urgent .full
    | _ => s.placeCall caller callee urgent .station none

/-- The station named by the source index of a FAST cause of the station table (R137). -/
def tripStation (code : CauseCode) (index : Nat) : Option Nat :=
  match code with
  | .rpdRemote => some (index / 4)
  | .stationSilent => some index
  | .remoteTrip => some (index - 16)
  | _ => none

/-- The call unit is told of a FAST raise: it may place an automatic trip call (R137). -/
def State.tripCall (s : State) (code : CauseCode) (index : Nat) : State :=
  match tripStation code index with
  | none => s
  | some a =>
    if s.sst.active.line.tripCallEnable ∧ s.requestCase 0 a = .seekRoom then
      s.placeCall 0 a true .trip none
    else s

/-! ## Lost stations, hooks of stations (R134, R131) -/

/-- One record when a station becomes unavailable (R134). -/
def State.linkLostOne (s : State) (address id : Nat) : State :=
  match s.cal.find id with
  | none => s
  | some r =>
    if r.caller = address then s.endCall id .linkLost false
    else if r.callee = address then s.endCall id .linkLost true
    else if r.callee = 15 ∧ r.parties.contains address then
      (s.updCall id fun c => { c with parties := c.parties.filter (· ≠ address) }).refreshValley
    else s

/-- A station 1 to 13 enters SILENT or EXCLUDED, or is made absent: the records are taken in table order (R134). -/
def State.stationUnavailable (s : State) (address : Nat) : State :=
  (s.cal.table.map (·.id)).foldl (fun t id => t.linkLostOne address id) s

/-- A HOOK frame of a station is taken against the record of its call id (R131). -/
def State.hookFrame (s : State) (sender id : Nat) (off : Bool) : State :=
  match s.cal.find id with
  | none => s
  | some r =>
    match r.state, off with
    | .waiting, false => if sender = r.caller then s.endCall id .cancelled false else s
    | .waiting, true => s
    | .ringing, true =>
      if sender = r.callee ∨ (r.callee = 15 ∧ sender ≠ r.caller) then
        (s.updCall id fun c =>
          { c with parties := c.parties ++ [sender], state := .talking, stateTime := s.clockTime,
                   ringTimer := none, shownRing := 0 }).refreshValley
      else s
    | .ringing, false => if sender = r.caller then s.endCall id .cancelled false else s
    | .talking, true =>
      if r.callee = 15 ∧ ¬ r.parties.contains sender then
        (s.updCall id fun c => { c with parties := c.parties ++ [sender] }).refreshValley
      else s
    | .talking, false =>
      if r.callee ≠ 15 then (if r.parties.contains sender then s.endCall id .hungUp false else s)
      else if sender = r.caller then s.endCall id .hungUp false
      else if r.parties.contains sender then
        (s.updCall id fun c => { c with parties := c.parties.filter (· ≠ sender) }).refreshValley
      else s

/-! ## Orders of the valley handset (R138 to R140) -/

/-- Why a CALL is refused, if it is: callee 0 and a kind other than NORMAL and URGENT are tested before the rows of
R127 and R128 (R127, R128, R138; log 28). -/
def State.callRefusal (s : State) (callee kind : Nat) : Option ResultCode :=
  if callee = 0 ∨ 1 < kind then some .badArg
  else
    match s.requestCase 0 callee with
    | .calleeInvalid | .ignored | .callerUnavailable => some .badArg
    | .calleeUnavailable => some .stationSilent
    | .duplicate => some .busy
    | .seekRoom => if s.cal.roomCase (kind = 1) = .full then some .full else none

/-- An accepted CALL (R138). -/
def State.startCall (s : State) (context callee kind : Nat) : State :=
  s.placeCall 0 callee (kind = 1) .host (some context)

/-- ANSWER takes the valley handset off-hook in a call (R139). -/
def State.answerCall (s : State) (id : Nat) : State × OrderResult :=
  match s.cal.find id with
  | none => (s, refusal .badArg)
  | some r =>
    if r.state = .waiting then (s, refusal .wrongState)
    else if r.parties.contains 0 then (s, refusal .wrongState)
    else if r.callee ≠ 0 ∧ r.callee ≠ 15 ∧ r.origin ≠ .trip then (s, refusal .wrongState)
    else
      let talks := r.state = .ringing ∧ (r.callee = 0 ∨ r.callee = 15)
      (((s.updCall id fun c =>
          if talks then
            { c with parties := c.parties ++ [0], state := .talking, stateTime := s.clockTime,
                     ringTimer := none, shownRing := 0 }
          else { c with parties := c.parties ++ [0] }).refreshValley).pairFrame .hook 15 [byteOf id, 1],
        resultOk)

/-- HANG_UP puts the valley handset on-hook in a call (R140). -/
def State.hangUpCall (s : State) (id : Nat) : State × OrderResult :=
  match s.cal.find id with
  | none => (s, refusal .badArg)
  | some r =>
    if r.caller ≠ 0 ∧ ¬ r.parties.contains 0 then (s, refusal .wrongState)
    else if r.caller = 0 then
      (s.endCall id (if r.state = .talking then .hungUp else .cancelled) false, resultOk)
    else if r.callee = 15 then
      (((s.updCall id fun c => { c with parties := c.parties.filter (· ≠ 0) }).refreshValley).pairFrame
        .hook 15 [byteOf id, 0], resultOk)
    else (s.endCall id .hungUp false, resultOk)

end Sys2Proof.Machine
end

