-- ==== Sys2Proof/Machine/Gate.lean ====
section
/-! DEFINITION. The decision at the launch gate: proof, the launch test, the divert test, the hold of a
barred cabin and the proof timer (R72, R73, R75, R76, R80). -/

namespace Sys2Proof.Machine

open Sys2Proof

/-- The gate entry, while it is in the track (R70). -/
def State.gateEntry? (s : State) : Option TrackEntry := s.lch.gateEntry.bind s.entry

/-- An entry is proven: its door state is LATCHED and LATCH is active (R73). -/
def State.proven (s : State) (e : TrackEntry) : Bool := decide (e.door = .latched) && s.pins.latch

/-- S × 10, the launch spacing of the zone plan in mm. -/
def State.launchSpacing (s : State) : Nat := s.sst.active.zone.launchSpacing * 10

/-- The launch test of an entry (R73). -/
def State.launchTest (s : State) (e : TrackEntry) : Bool :=
  decide (s.msv.state = .run) && decide (s.trk.state = .tracking) && s.lch.divert.isNone &&
    decide (s.sst.active.zone.launchMin ≤ s.rpm.v) && !s.entryBarred e && !s.entryGarage e &&
    s.proven e && decide (s.launchSpacing ≤ s.lch.dL.toNat)

/-- The divert test (R80). -/
def State.divertTest (s : State) : Bool :=
  (decide (s.msv.state = .run) || decide (s.msv.state = .held)) && decide (s.trk.state = .tracking) &&
    s.lch.divert.isNone

/-- The launch is made (R73); CABIN_LAUNCHED has the cabin in its cabin field alone (log 7). -/
def State.launch (s : State) (cabin : Nat) : State :=
  (s.updLch fun l => { l with gate := .launching, lastLaunch := s.rpm.dist, dL := 0 }).journal
    .cabinLaunched .lch cabin (le32 s.rpm.dist.toNat ++ le16 s.rpm.v)

/-- The barred cabin is noted, once in its stay at the gate (R76), in the cabin field of the entry alone (log 7). -/
def State.noteBarred (s : State) (cabin : Nat) : State :=
  if s.lch.barredNotice then s
  else (s.journal .cabinBarredAtGate .lch cabin []).updLch fun l => { l with barredNotice := true }

/-- The decision of R72 on the gate entry in HOLDING. -/
def State.gateDecide (s : State) : State :=
  if s.lch.gate = .holding then
    match s.gateEntry? with
    | none => s
    | some e =>
      if s.entryGarage e then (if s.divertTest then s.updLch fun l => { l with gate := .diverting } else s)
      else if s.entryBarred e then s.noteBarred e.cabin
      else if s.launchTest e then s.launch e.cabin
      else s
  else s

/-- The three conditions under which the proof timer runs (R75). -/
def State.proofWanted (s : State) : Bool :=
  decide (s.lch.gate = .holding) &&
    match s.gateEntry? with
    | none => false
    | some e => !s.proven e && !s.entryBarred e && !s.entryGarage e

/-- The proof timer starts and stops with its conditions; while the proof expired mark is set it is not
started (R75). -/
def State.proofTimerFollow (s : State) : State :=
  s.updLch fun l =>
    { l with proofTimer :=
        if s.proofWanted then
          (if l.proofTimer.isSome then l.proofTimer
           else if l.proofExpired then none else some (s.now + s.sst.active.zone.proofWait))
        else none }

/-- An event of R72: the decision is made and the proof timer follows. -/
def State.gateEvent (s : State) : State := s.gateDecide.proofTimerFollow

end Sys2Proof.Machine
end

