-- ==== Sys2Proof/Machine/Causes.lean ====
section
/-! DEFINITION. The motion supervisor's shared operations: raising and ending causes, acknowledgement, the
changes of the supervisor state, the ceiling target, the deceleration watch and SPEED_REF (R142 to R162). -/

namespace Sys2Proof.Machine

open Sys2Proof

/-! ## Reading the cause list -/

/-- An entry is latched when its category is SERVICE or FAST (R142). -/
def Cause.latched (c : Cause) : Bool := decide (c.category ≠ .limit)

/-- An entry has the identity of a code and source index (R142); a code has one source block (R148). -/
def Cause.isOf (c : Cause) (code : CauseCode) (index : Nat) : Bool := decide (c.code = code) && decide (c.index = index)

/-- The list holds a FAST entry, ordinary or aggregate. -/
def Msv.hasFast (m : Msv) : Bool := m.causes.any (fun c => decide (c.category = .fast)) || m.aggregate.isSome

/-- The list holds a latched entry, ordinary or aggregate. -/
def Msv.hasLatched (m : Msv) : Bool := m.causes.any (·.latched) || m.aggregate.isSome

/-! ## Ceiling, watch, SPEED_REF (R156 to R158, R161, R162) -/

/-- The margin M(c) (R161). -/
def margin (c : Nat) : Nat := max 20 (c * 10 / 100)

/-- The envelope of a watch at a time (R162). -/
def Watch.envelope (w : Watch) (now : Nat) : Nat := w.e0 - w.decel * (now - w.start) / 1000

/-- The cap of a LIMIT code from the ceiling table (R148). -/
def CeilingTable.cap (t : CeilingTable) : CauseCode → Nat
  | .tagReader => t.tagReaderCap
  | .tensionWarn => t.tensionWarnCap
  | .exclusionActive => t.bypassCap
  | _ => 999

/-- The ceiling target (R156). -/
def State.ceilingTarget (s : State) : Nat :=
  if s.msv.state ≠ .run ∨ s.msv.hasLatched then 0
  else s.msv.limits.foldl (fun n p => min n (s.sst.active.ceiling.cap p.1))
    (min s.sst.active.rope.designMax s.msv.opCeiling)

/-- The minimum deceleration of a watch started in the present state (R161). -/
def State.watchDecel (s : State) : Nat :=
  if s.msv.state = .stoppingFast then s.sst.active.rope.aFast else s.sst.active.rope.aService

/-- The watch started at a decrease of the ceiling in force from `old` (R161). Until the first window end it shows its start
value as the envelope (R163; log 31). -/
def State.decreaseWatch (s : State) (old : Nat) : Watch :=
  let e := old + margin old
  let e0 := match s.msv.watch with
    | none => e
    | some w => max e (w.envelope s.now)
  { e0 := e0, decel := s.watchDecel, start := s.now, lastEnvelope := e0 }

/-- The value of SPEED_REF for a ceiling in force (R158). -/
def speedRefOf (ceiling designMax : Nat) : Nat := ceiling * 4095 / designMax

/-- SPEED_REF is recomputed (R158). -/
def State.recomputeSpeedRef (s : State) : State :=
  s.updMsv fun m => { m with speedRef := speedRefOf m.ceiling s.sst.active.rope.designMax }

/-- The ceiling target is recomputed; a target below the ceiling in force becomes the ceiling in force at
once, with a watch (R156, R157). -/
def State.recomputeCeiling (s : State) : State :=
  let t := s.ceilingTarget
  (if t < s.msv.ceiling then
    (s.updMsv fun m => { m with target := t, ceiling := t, watch := some (s.decreaseWatch m.ceiling) }).updHeld
      fun h => { h with watch := true }
   else s.updMsv fun m => { m with target := t }).recomputeSpeedRef

/-! ## Changes of the supervisor state (R149) -/

/-- CHAIN_OUT is closed in a state (R149, R154). -/
def SupState.chainClosed : SupState → Bool
  | .run | .stoppingService => true
  | _ => false

/-- CHAIN_OUT takes a level; a change sets NEWS CHAIN (R154). -/
def State.setChain (s : State) (closed : Bool) : State :=
  if s.msv.chainOut = closed then s
  else (s.updMsv fun m => { m with chainOut := closed }).setNews .chain

/-- What a change to a state does to a running watch: it ends at HELD, and it escalates at STOPPING_FAST, from
STOPPING_SERVICE (R162) and at a raise of step 1 from RUN (R160). At any other FAST raise in RUN the model escalates it as
well (log 31). A decrease of the ceiling in force at the same event then replaces the escalated watch (R161). -/
def State.watchAtChange (s : State) (new : SupState) : Option Watch :=
  match s.msv.watch with
  | none => none
  | some w =>
    if new = .held then none
    else if new = .stoppingFast then
      some { e0 := w.envelope s.now, decel := s.sst.active.rope.aFast, start := s.now,
             lastEnvelope := w.envelope s.now }
    else some w

/-- A change of the supervisor state: journal STATE_CHANGE with what brought it, CHAIN_OUT, the ceiling
target; the launch unit takes the change as an event (R149, R72). Where no cause brought it, nothing stands for the code
and the source in the detail (log 7). -/
def State.changeState (s : State) (new : SupState) (brought : List Byte) : State :=
  let old := s.msv.state
  (((s.updMsv fun m => { m with state := new, watch := s.watchAtChange new }).journal .stateChange .msv 0
    (byteOf old.code :: byteOf new.code :: brought)).setChain new.chainClosed).recomputeCeiling.gateEvent

/-- The code, block and index of a cause, as STATE_CHANGE carries them. -/
def broughtBy (code : CauseCode) (index : Nat) : List Byte :=
  [byteOf code.code, byteOf code.block.code, byteOf index]

/-- The supervisor acts on a change of the cause list (R147, R149). -/
def State.afterListChange (s : State) (code : CauseCode) (index : Nat) : State :=
  if s.msv.hasFast ∧ (s.msv.state = .run ∨ s.msv.state = .stoppingService) then
    s.changeState .stoppingFast (broughtBy code index)
  else if s.msv.hasLatched ∧ s.msv.state = .run then s.changeState .stoppingService (broughtBy code index)
  else s.recomputeCeiling

/-! ## Raise and end (R143 to R147) -/

/-- A change of an ordinary entry is published: NEWS CAUSE and a journal entry (R147). The entry's header names the source
of the cause, block and index, and the detail names it again (R174; log 7). -/
def State.publishCause (s : State) (kind : JKind) (c : Cause) (sub : Nat) : State :=
  (s.setNews .cause).journalAt kind c.code.block (byteOf c.index) 0
    [byteOf c.code.code, byteOf c.category.code, byteOf c.code.block.code, byteOf c.index, byteOf c.repeats,
     byteOf sub]

/-- A change of the aggregate entry is published (R147). -/
def State.publishAggregate (s : State) (kind : JKind) (a : Aggregate) (sub : Nat) : State :=
  s.publishCause kind ⟨.causeOverflow, .fast, 0, a.raised, a.repeats, .clearedUnacked⟩ sub

/-- The supervisor tells the line controller of a FAST raise, which queues a TRIP, and the call unit, which
may place a trip call (R147, R104, R137). -/
def State.tellFast (s : State) (code : CauseCode) (index : Nat) : State := (s.askTrip code).tripCall code index

/-- A raise that finds no room sets the aggregate entry (R145, R147). The TRIP of a FAST raise is asked for before that of
CAUSE_OVERFLOW (log 8). -/
def State.raiseOverflow (s : State) (code : CauseCode) (category : Category) (index : Nat) : State :=
  let a : Aggregate := match s.msv.aggregate with
    | none => ⟨s.clockTime, 0⟩
    | some a => { a with repeats := satInc 255 a.repeats }
  ((((s.updMsv fun m => { m with aggregate := some a }).publishAggregate .causeRaised a
    SubState.clearedUnacked.code).afterListChange .causeOverflow 0).when (decide (category = .fast))
      (·.tellFast code index)).when s.msv.aggregate.isNone (·.tellFast .causeOverflow 0)

/-- The cause list takes a raise: a repeat, an append, or no room; the entry is left in `sub` (R143, R151). -/
def State.listRaise (s : State) (code : CauseCode) (category : Category) (index : Nat) (sub : SubState) : State :=
  match s.msv.causes.find? (·.isOf code index) with
  | some c =>
    let c' := { c with repeats := satInc 255 c.repeats, sub := sub }
    (((s.updMsv fun m =>
        { m with causes := m.causes.map fun x => if x.isOf code index then c' else x }).publishCause .causeRaised
          c' sub.code).afterListChange code index).when (decide (category = .fast)) (·.tellFast code index)
  | none =>
    if s.msv.causes.length < 31 then
      let c : Cause := ⟨code, category, index, s.clockTime, 0, sub⟩
      (((s.updMsv fun m => { m with causes := m.causes ++ [c] }).publishCause .causeRaised c
        sub.code).afterListChange code index).when (decide (category = .fast)) (·.tellFast code index)
    else s.raiseOverflow code category index

/-- A block raises a cause; a LIMIT raise adds its pair to the LIMIT register (R143, R147), behind the pairs it holds
(log 29). -/
def State.raiseCause (s : State) (code : CauseCode) (category : Category) (index : Nat) : State :=
  (if category = .limit ∧ ¬ s.msv.limits.contains (code, index) then
    s.updMsv fun m => { m with limits := m.limits ++ [(code, index)] }
   else s).listRaise code category index .activeUnacked

/-- The entry of a cause is removed, and the removal published (R144, R146, R147). The new sub-state that CAUSE_REMOVED
carries is 0, the code of an empty slot (R187; log 7). -/
def State.removeCause (s : State) (c : Cause) : State :=
  ((s.updMsv fun m => { m with causes := m.causes.filter fun x => !x.isOf c.code c.index }).publishCause
    .causeRemoved c 0).afterListChange c.code c.index

/-- The cause list takes the end of a condition (R144). -/
def State.listEnd (s : State) (code : CauseCode) (index : Nat) : State :=
  match s.msv.causes.find? (·.isOf code index) with
  | none => s
  | some c =>
    if c.category = .limit ∨ c.sub = .activeAcked then s.removeCause c
    else if c.sub = .activeUnacked then
      let c' := { c with sub := .clearedUnacked }
      ((s.updMsv fun m =>
        { m with causes := m.causes.map fun x => if x.isOf code index then c' else x }).publishCause .causeCleared
          c' SubState.clearedUnacked.code).afterListChange code index
    else s

/-- A block reports the end of a condition; a LIMIT end removes its pair from the LIMIT register (R144, R147), whose
places close up (log 29). -/
def State.endCause (s : State) (code : CauseCode) (index : Nat) : State :=
  (if s.msv.limits.contains (code, index) then
    (s.updMsv fun m => { m with limits := m.limits.filter (· ≠ (code, index)) }).recomputeCeiling
   else s).listEnd code index

/-- A raise whose condition ends at the same event (R143). -/
def State.raiseOnce (s : State) (code : CauseCode) (category : Category) (index : Nat) : State :=
  (s.raiseCause code category index).endCause code index

/-- STOP and FAST_STOP make their cause directly in CLEARED_UNACKED (R151). -/
def State.operatorCause (s : State) (code : CauseCode) (category : Category) : State :=
  s.listRaise code category 0 .clearedUnacked

/-! ## Acknowledgement (R146) -/

/-- One ordinary entry is acknowledged. An acknowledgement that only marks the entry is published without a
journal entry, since R147 names none for it. -/
def State.ackCauseEntry (s : State) (c : Cause) : State :=
  match c.sub with
  | .activeUnacked =>
    ((s.updMsv fun m =>
      { m with causes := m.causes.map fun x =>
          if x.isOf c.code c.index then { x with sub := .activeAcked } else x }).setNews .cause).recomputeCeiling
  | .clearedUnacked => s.removeCause c
  | .activeAcked => s

/-- The aggregate entry is acknowledged: it is removed. The new sub-state that CAUSE_REMOVED carries is 0, the code of an
empty slot (R147, R187; log 7). -/
def State.ackAggregate (s : State) : State :=
  match s.msv.aggregate with
  | none => s
  | some a => ((s.updMsv fun m => { m with aggregate := none }).publishAggregate .causeRemoved a
      0).afterListChange .causeOverflow 0

/-- ACK_CAUSE of ALL: every ordinary entry and the aggregate entry, in slot order (R146; log 8). -/
def State.ackAll (s : State) : State := (s.msv.causes.foldl (fun t c => t.ackCauseEntry c) s).ackAggregate

/-- ACK_CAUSE of one slot with the code the host read there, or its refusal. -/
def State.ackSlot (s : State) (slot code : Nat) : State × OrderResult :=
  if 31 < slot then (s, refusal .badArg)
  else if slot = 31 then
    (if s.msv.aggregate.isSome ∧ code = CauseCode.causeOverflow.code then (s.ackAggregate, resultOk)
     else (s, refusal .wrongState))
  else
    match s.msv.causes[slot]? with
    | none => (s, refusal .wrongState)
    | some c => if c.code.code = code then (s.ackCauseEntry c, resultOk) else (s, refusal .wrongState)

end Sys2Proof.Machine
end

