-- ==== Sys2Proof/Machine/Doors.lean ====
section
/-! DEFINITION. The door drive unit: strokes, their ends, modes, engagements of the opener, the closer and the
boarding gate, and its three orders (R28 to R49). -/

namespace Sys2Proof.Machine

open Sys2Proof

/-! ## Writing the track from another block -/

/-- The condition of DOOR_NOT_PROVEN ends when the gate entry becomes proven, before the decision that the proof brings
(R72, R75; log 8). -/
def State.endNotProven (s : State) : State :=
  match s.gateEntry? with
  | none => s
  | some e => if s.proven e ∧ s.lch.proofExpired then s.endCause .doorNotProven 0 else s

/-- A write of the door state of an entry by another block than the launch unit. The launch unit keeps the
gate entry's proof in step with LATCH, and takes the write as an event (R4, R72, R75). -/
def State.writeDoor (s : State) (uid : Nat) (door : DoorState) : State :=
  let s1 := s.updEntry uid fun e => { e with door := door }
  if s.lch.gateEntry = some uid then
    ((s1.when s.pins.latch (·.updEntry uid fun e => { e with door := .latched })).endNotProven).gateEvent
  else s1

/-- Write the door state of an entry, if there is one. -/
def State.writeDoorOf (s : State) (uid : Option Nat) (door : DoorState) : State :=
  match uid with
  | none => s
  | some u => s.writeDoor u door

/-- Change the fleet record of an entry's cabin; none for cabin 0 or no entry. -/
def State.updFleetOf (s : State) (uid : Option Nat) (f : FleetRec → FleetRec) : State :=
  match uid with
  | none => s
  | some u => s.updFleetRec (s.entryCabin u) f

/-- The cabin number a channel serves, 0 if none or unknown (R28). -/
def State.engagedCabin (s : State) (c : Channel) : Nat :=
  match (s.ddu.get c).engaged with
  | none => 0
  | some u => s.entryCabin u

/-- Change one channel. -/
def State.updChan (s : State) (c : Channel) (f : Chan → Chan) : State :=
  s.updDdu fun d => d.set c (f (d.get c))

/-! ## Outputs (R29) -/

/-- OPEN_CMD of a channel. -/
def Chan.openCmd (c : Chan) : Bool := decide (c.state = .strokingOpen) || decide (c.state = .reversing)

/-- CLOSE_CMD of a channel. -/
def Chan.closeCmd (c : Chan) : Bool := decide (c.state = .strokingClose)

/-- A stroke is running. -/
def ChanState.stroking : ChanState → Bool
  | .strokingOpen | .strokingClose | .reversing => true
  | _ => false

/-- Directions of a stroke, as STROKE gives them: OPEN 0, CLOSE 1. A reversal belongs to a close stroke. -/
def ChanState.direction : ChanState → Nat
  | .strokingOpen => 0
  | _ => 1

/-! ## Modes (R30 to R32, R45) -/

/-- The channel is the opener or the closer. -/
def isDoor : Channel → Bool
  | .d0 | .d1 => true
  | _ => false

/-- OFF in effect on D2 releases its engagement and clears close due (R45, R31). It clears a close due that stands
without an engagement too, so that the close R36 asks for does not start (log 33). -/
def State.offReleases (s : State) (c : Channel) (mode : DriveMode) : State :=
  if c = .d2 ∧ mode = .off then s.updChan c fun x => { x with engaged := none, closeDue := false } else s

/-- DRIVE_OFF is active while the mode of D0 or D1 is OFF (R32). -/
def State.driveOffFollow (s : State) (c : Channel) (old new : DriveMode) : State :=
  if isDoor c then
    if new = .off then s.raiseCause .driveOff .service (channelCode c)
    else if old = .off then s.endCause .driveOff (channelCode c)
    else s
  else s

/-- A mode change that takes effect, at once or as the pending mode (R45, R31). DRIVE_OFF follows the STATE_CHANGE entry
(R32; log 8). -/
def State.setMode (s : State) (c : Channel) (mode : DriveMode) (reason : ChangeReason) : State :=
  let old := (s.ddu.get c).mode
  if old = mode then s
  else
    ((((s.updChan c fun x => { x with mode := mode }).offReleases c mode).journal .stateChange .ddu 0
      [byteOf (channelCode c), byteOf old.code, byteOf mode.code, byteOf reason.code])).driveOffFollow c old mode

/-- The pending mode is applied at the end of a stroke (R31). -/
def State.applyPending (s : State) (c : Channel) : State :=
  match (s.ddu.get c).pendingMode with
  | none => s
  | some m => (s.updChan c fun x => { x with pendingMode := none }).setMode c m .pending

/-! ## Ends of a stroke (R38 to R42, R46) -/

/-- A STROKE order whose stroke ended completes DONE, whatever the end, with the channel, the direction and the retry
count (R46, R173). -/
def State.completeStroke (s : State) (c : Channel) (x : Chan) (code : ResultCode) : State :=
  match x.origin with
  | .engagement => s
  | .order k =>
    (s.completeOrder k ⟨true, code, [byteOf (channelCode c), byteOf x.state.direction, byteOf x.retry]⟩).updChan c
      fun y => { y with origin := .engagement }

/-- The writes of a proven stroke into its engaged entry (R42, R43, R47). -/
def State.provenWrites (s : State) (c : Channel) (x : Chan) : State :=
  match c, x.state with
  | .d0, .strokingOpen => s.writeDoorOf x.engaged .opened
  | .d1, .strokingClose =>
    let s1 := s.updFleetOf x.engaged fun r => { r with doorCycles := satInc 65535 r.doorCycles }
    let s2 := match x.engaged, x.origin with
      | some u, .order _ => s1.updEntry u fun e => { e with missedByCloser := false }
      | _, _ => s1
    s2.writeDoorOf x.engaged .closed
  | .d2, .strokingOpen =>
    match x.engaged with
    | none => s
    | some u => s.updEntry u fun e => { e with gateServed := true }
  | _, _ => s

/-- A proven open stroke of D2 keeps its engagement; every other proof releases it (R34, R43, R44). -/
def keepsEngagement (c : Channel) (x : Chan) : Bool :=
  decide (c = .d2) && decide (x.state = .strokingOpen)

/-- A stroke is proven, up to what a D2 open with close due then starts (R38, R39). The writes of R42 come first, then
the STROKE order completes, then a pending mode is applied (R31, R46; log 8). A proof that keeps no engagement clears
close due (log 26). -/
def State.proveStroke (s : State) (c : Channel) : State :=
  let x := s.ddu.get c
  ((((s.updChan c fun y => { y with state := .idle, timer := none }).provenWrites c x).updChan c fun y =>
    { y with engaged := if keepsEngagement c x then y.engaged else none
             closeDue := keepsEngagement c x && y.closeDue }).completeStroke c x .proven).applyPending c

/-- The state after a failed stroke: only an open failure of D0 leaves the channel IDLE (R41). -/
def failedState (c : Channel) (x : Chan) : ChanState :=
  if c = .d0 ∧ x.state = .strokingOpen then .idle else .jammed

/-- The fault a failed stroke writes into the entry and the fleet record (R42). -/
def State.failWrites (s : State) (c : Channel) (x : Chan) : State :=
  match c with
  | .d0 =>
    if x.state = .strokingOpen then
      (s.updFleetOf x.engaged fun r => { r with lastDoorFault := .openFailed }).writeDoorOf x.engaged .openFailed
    else s
  | .d1 =>
    if x.state = .strokingOpen then s
    else (s.updFleetOf x.engaged fun r => { r with lastDoorFault := .obstructed }).writeDoorOf x.engaged .obstructed
  | _ => s

/-- The cause of a failed stroke (R41). -/
def State.failCause (s : State) (c : Channel) (x : Chan) : State :=
  if failedState c x = .idle then s.raiseOnce .doorOpenFail .service 0
  else if isDoor c then s.raiseCause .doorJam .service (channelCode c)
  else s.raiseCause .gateJam .service (channelCode c)

/-- A stroke fails (R41). The cabin number of its DOOR_FAULT stands in the entry's cabin field, not in the detail
(log 7). The writes of R42 come first, then the cause, DOOR_FAULT, the completion of the STROKE order, and a pending
mode (R31, R46; log 8). Close due is cleared (log 26). -/
def State.failStroke (s : State) (c : Channel) (fault : DoorFault) : State :=
  let x := s.ddu.get c
  let cabin := s.engagedCabin c
  ((((((s.updChan c fun y => { y with state := failedState c x, timer := none }).failWrites c x).updChan c fun y =>
    { y with engaged := none, closeDue := false }).failCause c x).journal .doorFault .ddu cabin
      [byteOf (channelCode c), byteOf fault.code, byteOf x.retry]).completeStroke c x .jammed).applyPending c

/-! ## Starting and reversing (R37, R39, R40) -/

/-- The levels of a channel's inputs. -/
def State.inputs (s : State) (c : Channel) : ChannelPins := s.pins.channels.get c

/-- The tests at a close start, and the reversals they lead to; each reversal that ends at once uses up a retry. -/
def State.closeTests (c : Channel) : Nat → State → State
  | 0, s => s
  | fuel + 1, s =>
    let pins := s.inputs c
    if pins.closedLim then s.proveStroke c
    else if pins.obstr then
      let s1 := s.updChan c fun x => { x with state := .reversing, timer := some (s.now + x.params.reverseTime) }
      if pins.openLim then
        if (s1.ddu.get c).retry < (s1.ddu.get c).params.recloseLimit then
          State.closeTests c fuel (s1.updChan c fun x =>
            { x with retry := x.retry + 1, state := .strokingClose, timer := some (s.now + x.params.closeTime) })
        else s1.failStroke c .obstructed
      else s1
    else s

/-- More reversals than this cannot end at once in one event. -/
def State.retriesLeft (s : State) (c : Channel) : Nat :=
  (s.ddu.get c).params.recloseLimit - (s.ddu.get c).retry + 2

/-- OBSTR is met while STROKING_CLOSE, or the tests of R37 at a close start are made. -/
def State.testClose (s : State) (c : Channel) : State := State.closeTests c (s.retriesLeft c) s

/-- The end of a reversal: another close attempt, or the retries are exhausted (R40). -/
def State.endReversal (s : State) (c : Channel) : State :=
  if (s.ddu.get c).retry < (s.ddu.get c).params.recloseLimit then
    (s.updChan c fun x =>
      { x with retry := x.retry + 1, state := .strokingClose, timer := some (s.now + x.params.closeTime) }).testClose c
  else s.failStroke c .obstructed

/-- The channel plan of a channel. -/
def State.channelPlan (s : State) (c : Channel) : ChannelPlan := s.sst.active.door.channels.get c

/-- A stroke begins: parameters copied, retry count 0, state, timer (R37). -/
def State.beginStroke (s : State) (c : Channel) (close : Bool) (origin : Origin) : State :=
  let p := s.channelPlan c
  s.updChan c fun x =>
    { x with params := ⟨p.openTime, p.closeTime, p.reverseTime, p.recloseLimit⟩, retry := 0, origin := origin
             state := if close then .strokingClose else .strokingOpen
             timer := some (s.now + if close then p.closeTime else p.openTime) }

/-- A close stroke of D2 starts for the gate itself: at the close point, or in place of it (R44, R36). It clears close due
(log 26). -/
def State.startGateClose (s : State) : State :=
  (((s.updChan .d2 fun x => { x with closeDue := false }).beginStroke .d2 true .engagement)).testClose .d2

/-- What follows the proof of an open stroke: the close stroke of D2 that is due (R43, R44). -/
def State.afterOpen (s : State) (c : Channel) : State :=
  if c = .d2 ∧ (s.ddu.get .d2).closeDue ∧ (s.ddu.get .d2).state = .idle then s.startGateClose else s

/-- The test at an open start (R37). -/
def State.testOpen (s : State) (c : Channel) : State :=
  if (s.inputs c).openLim then (s.proveStroke c).afterOpen c else s

/-! ## Engagements (R34 to R36, R43, R44) -/

/-- The channel serves an engagement: IDLE, unengaged, in AUTO or ONE_SHOT. -/
def Chan.serves (x : Chan) : Bool :=
  decide (x.state = .idle) && x.engaged.isNone && (decide (x.mode = .auto) || decide (x.mode = .oneShot))

/-- An engagement is accepted: ONE_SHOT becomes MANUAL (R30, R34; log 9). -/
def Chan.accept (x : Chan) (uid : Nat) : Chan :=
  { x with engaged := some uid, mode := if x.mode = .oneShot then .manual else x.mode }

/-- The reason an engagement of D0 or D1 cannot be served, as R187 numbers it (R35). -/
def Chan.missedReason (x : Chan) : Nat :=
  if x.state.stroking then 1
  else if x.state = .jammed then 2
  else if x.state = .halted then 3
  else if x.mode = .off then 4
  else if x.mode = .manual then 5
  else 0

/-- An engagement of D0 or D1 that cannot be served (R35). The cabin number of its DOOR_FAULT stands in the entry's
cabin field, not in the detail (log 7). -/
def State.missEngagement (s : State) (c : Channel) (uid : Nat) : State :=
  let cabin := s.entryCabin uid
  let reason := (s.ddu.get c).missedReason
  (((((s.when (decide (c = .d1)) (·.updEntry uid fun e => { e with missedByCloser := true })).updFleetRec cabin
    fun r => { r with lastDoorFault := .missed }).writeDoor uid .missed).raiseOnce .doorMissed .service (channelCode c)).journal
      .doorFault .ddu cabin [byteOf (channelCode c), byteOf DoorFault.missed.code, byteOf reason])

/-- An engagement of D0 for an entry matched at B1 (R34, R35). OPENING is written before the tests at the stroke's
start, so that a proof at once leaves OPEN (log 8). -/
def State.engageOpener (s : State) (uid : Nat) : State :=
  if (s.ddu.get .d0).serves then
    ((((s.updChan .d0 (·.accept uid)).beginStroke .d0 false .engagement).writeDoor uid .opening)).testOpen .d0
  else s.missEngagement .d0 uid

/-- An engagement of D1 for an entry matched at B3 (R34, R35). CLOSING is written before the tests at the stroke's
start, so that a proof at once leaves CLOSED (log 8). -/
def State.engageCloser (s : State) (uid : Nat) : State :=
  if (s.ddu.get .d1).serves then
    ((((s.updChan .d1 (·.accept uid)).beginStroke .d1 true .engagement).writeDoor uid .closing)).testClose .d1
  else s.missEngagement .d1 uid

/-- GATE_WITHHELD with its reason: DOOR_NOT_OPEN 0, GATE_BUSY 1, GATE_UNAVAILABLE 2; the cabin stands in the entry's
cabin field alone (R43, R187; log 7). -/
def State.withhold (s : State) (cabin reason : Nat) : State :=
  s.journal .gateWithheld .ddu cabin [byteOf reason]

/-- D2 holds an engagement and waits, IDLE with its gate proven open, for the close point. -/
def Chan.waitsToClose (x : Chan) : Bool := decide (x.state = .idle) && x.engaged.isSome

/-- An engagement of D2 for an entry matched at B2 (R43). -/
def State.engageGate (s : State) (e : TrackEntry) : State :=
  let x := s.ddu.get .d2
  if e.door ≠ .opened then
    (s.withhold e.cabin 0).when x.waitsToClose (·.startGateClose)
  else if x.serves then
    ((s.updChan .d2 (·.accept e.uid)).beginStroke .d2 false .engagement).testOpen .d2
  else if x.waitsToClose ∧ x.mode ≠ .off then
    (s.updChan .d2 fun y => { y with engaged := some e.uid, closeDue := false }).updEntry e.uid fun t =>
      { t with gateServed := true }
  else if x.state.stroking then s.withhold e.cabin 1
  else s.withhold e.cabin 2

/-- The engagement of D2 is to close: its close stroke starts if the gate stands open, and is due if the gate is
still opening (R44). -/
def State.gateCloseNow (s : State) : State :=
  match (s.ddu.get .d2).state with
  | .idle => s.startGateClose
  | .strokingOpen => s.updChan .d2 fun y => { y with closeDue := true }
  | _ => s

/-- The close point of an entry is reached (R44). -/
def State.closePoint (s : State) (uid : Nat) : State :=
  if (s.ddu.get .d2).engaged = some uid then s.gateCloseNow else s

/-- A B3 match of an entry is checked against the gate (R44). The DOOR_FAULT of GATE_LATE carries channel 2 and the
fault, and no retry count (log 7). -/
def State.gateLateCheck (s : State) (e : TrackEntry) : State :=
  if (s.ddu.get .d2).engaged = some e.uid then
    ((s.raiseOnce .gateLate .service 2).journal .doorFault .ddu e.cabin
      [2, byteOf DoorFault.gateLate.code]).gateCloseNow
  else s

/-- A channel loses its engaged entry without the writes of its stroke (R36). -/
def State.dropChannel (s : State) (c : Channel) : State :=
  let s1 := s.updChan c fun x => { x with engaged := none }
  if c = .d2 then s1.gateCloseNow else s1

/-- An entry leaves the track: each channel that holds it loses it (R36). -/
def State.dropEngagements (s : State) (uid : Nat) : State :=
  [Channel.d0, .d1, .d2, .d3].foldl (fun t c =>
    if (t.ddu.get c).engaged = some uid then t.dropChannel c else t) s

/-- A rebuild drops every engagement (R22, R36). -/
def State.dropAllEngagements (s : State) : State :=
  [Channel.d0, .d1, .d2, .d3].foldl (fun t c =>
    if (t.ddu.get c).engaged.isSome then t.dropChannel c else t) s

/-- The track enters LOST: D2 keeps its engagement and closes (R36). -/
def State.gateAtLost (s : State) : State :=
  if (s.ddu.get .d2).engaged.isSome then s.gateCloseNow else s

/-! ## Sensor changes and expiries (R38 to R41) -/

/-- OPEN_LIM becomes active (R38, R40). -/
def State.openLimit (s : State) (c : Channel) : State :=
  match (s.ddu.get c).state with
  | .strokingOpen => (s.proveStroke c).afterOpen c
  | .reversing => s.endReversal c
  | _ => s

/-- CLOSED_LIM becomes active (R39). -/
def State.closedLimit (s : State) (c : Channel) : State :=
  match (s.ddu.get c).state with
  | .strokingClose => s.proveStroke c
  | _ => s

/-- OBSTR becomes active: an obstruction while STROKING_CLOSE (R39); OPEN_LIM already active ends the reversal
at once (R40). -/
def State.obstructed (s : State) (c : Channel) : State :=
  match (s.ddu.get c).state with
  | .strokingClose =>
    let s1 := s.updChan c fun x => { x with state := .reversing, timer := some (s.now + x.params.reverseTime) }
    if (s.inputs c).openLim then s1.endReversal c else s1
  | _ => s

/-- The stroke timer expires in a given phase; an expiry that finds another phase finds its timer stopped. -/
def State.strokeTimeout (s : State) (c : Channel) (phase : ChanState) : State :=
  if (s.ddu.get c).state = phase ∧ (s.ddu.get c).timer.isSome then
    match phase with
    | .strokingOpen => s.failStroke c .openFailed
    | .strokingClose => s.failStroke c .closeTimeout
    | .reversing => s.endReversal c
    | _ => s
  else s

/-! ## Orders (R45 to R48) -/

/-- SET_DRIVE_MODE (R45). A jam's cause ends before the mode changes (R33; log 8). -/
def State.setDriveMode (s : State) (channel mode : Nat) : State × OrderResult :=
  match channelOf channel, driveModeOf mode with
  | some c, some m =>
    let x := s.ddu.get c
    if m = .off ∧ isDoor c ∧ ¬ (s.msv.state = .standby ∨ s.msv.state = .held) then (s, refusal .wrongState)
    else if x.state.stroking then (s.updChan c fun y => { y with pendingMode := some m }, resultOk)
    else
      let s1 := s.updChan c fun y => { y with state := .idle, timer := none }
      let s2 := if x.state = .jammed then
          s1.endCause (if isDoor c then .doorJam else .gateJam) (channelCode c)
        else s1
      (s2.setMode c m .atOnce, resultOk)
  | _, _ => (s, refusal .badArg)

/-- The entry a STROKE CLOSE on D1 serves: the back-most Z3 entry, if it was missed by the closer and does not
stand at the gate (R47). -/
def State.strokeEntry (s : State) : Option Nat :=
  match s.trk.entries.reverse.find? (·.zone = 3) with
  | none => none
  | some e => if e.missedByCloser ∧ ¬ e.atGate then some e.uid else none

/-- Why a STROKE is refused, if it is (R46). -/
def State.strokeRefusal (s : State) (channel direction : Nat) : Option ResultCode :=
  match channelOf channel with
  | none => some .badArg
  | some c =>
    let x := s.ddu.get c
    if 1 < direction then some .badArg
    else if x.state.stroking then some .busy
    else if x.mode ≠ .manual ∨ x.state = .jammed ∨ x.state = .halted then some .wrongState
    else if c = .d2 ∧ x.engaged.isSome then some .busy
    else none

/-- An accepted STROKE (R46, R47). -/
def State.startStrokeOrder (s : State) (context channel direction : Nat) : State :=
  match channelOf channel with
  | none => s
  | some c =>
    if direction = 0 then
      ((s.updChan c fun x => { x with engaged := none }).beginStroke c false (.order context)).testOpen c
    else
      let target := if c = .d1 then s.strokeEntry else none
      ((((s.updChan c fun x => { x with engaged := target }).beginStroke c true (.order context)).writeDoorOf
        target .closing)).testClose c

/-- HALT_DRIVE (R48). -/
def State.haltDrive (s : State) (channel : Nat) : State × OrderResult :=
  match channelOf channel with
  | none => (s, refusal .badArg)
  | some c =>
    let x := s.ddu.get c
    if x.state.stroking then
      let s1 := s.updChan c fun y => { y with state := .halted, timer := none, engaged := none, closeDue := false }
      let s2 := if isDoor c then s1.writeDoorOf x.engaged .unknown else s1
      ((s2.completeStroke c x .aborted).applyPending c, resultOk)
    else (s, refusal .wrongState)

end Sys2Proof.Machine
end

