-- ==== Sys2Proof/Machine/Hooks.lean ====
section
/-! DEFINITION. What the launch unit does when the track unit tells it of a change: the queue count, a cabin
come to stand at the gate, a gate emptied, a divert ended, a departure, a rebuild (R71, R78, R81, R87, R88). -/

namespace Sys2Proof.Machine

open Sys2Proof

/-- The number of track entries in Z3 (R78). -/
def State.countZ3 (s : State) : Nat := s.trk.entries.countP (·.zone = 3)

/-- The Z3 count is recomputed at a placement, move or removal; LAUNCH_QUEUE_FULL is raised as the count passes
above the launch queue limit, and its condition ends as it falls back (R78; log 14). -/
def State.z3Changed (s : State) : State :=
  let n := s.countZ3
  if n = s.lch.z3Count then s
  else
    let s1 := s.updLch fun l => { l with z3Count := n }
    if s.sst.active.zone.queueLimit < n ∧ ¬ s.lch.queueFull then
      (s1.updLch fun l => { l with queueFull := true }).raiseCause .launchQueueFull .service 0
    else if n ≤ s.sst.active.zone.queueLimit ∧ s.lch.queueFull then
      (s1.updLch fun l => { l with queueFull := false }).endCause .launchQueueFull 0
    else s1

/-- AT_GATE has been set on an entry: the gate becomes HOLDING with it (R71). Its door state becomes LATCHED if
LATCH is active (R4, R75), and the decision is made (R72). The view shows 65 535 until the next window end (R79). -/
def State.enterHolding (s : State) (uid : Nat) : State :=
  let s1 := s.when s.pins.latch (·.updEntry uid fun e => { e with door := .latched })
  if s.lch.gate = .empty then
    ((s1.updLch fun l => { l with gate := .holding, gateEntry := some uid, estimate := 65535 }).updHeld
      fun h => { h with gate := true }).gateEvent
  else s1

/-- The gate state becomes EMPTY: timer stopped, marks cleared, and the condition of DOOR_NOT_PROVEN ends (R71,
R75). -/
def State.gateEmpty (s : State) : State :=
  let s1 := s.updLch fun l =>
    { l with gate := .empty, gateEntry := none, proofTimer := none, barredNotice := false, proofExpired := false
             estimate := 65535 }
  s1.when s.lch.proofExpired (·.endCause .doorNotProven 0)

/-- The divert record returns to NONE, an event of R72 (R81). -/
def State.clearDivert (s : State) : State := (s.updLch fun l => { l with divert := none }).gateEvent

/-- An arrival resolved to a cabin ends a divert awaiting G_IN for it (R81). -/
def State.arrivalEndsDivert (s : State) (cabin : Nat) : State :=
  match s.lch.divert with
  | none => s
  | some d => if d.cabin = cabin then s.clearDivert else s

/-- The departure check (R87). -/
def State.departureCheck (s : State) (dist : DWord) : State :=
  let required := s.launchSpacing * s.sst.active.zone.departPct / 100
  let s1 := match s.lch.lastDeparture with
    | none => s
    | some d => if (dist - d).toNat < required then s.raiseOnce .departBunched .fast 0 else s
  s1.updLch fun l => { l with lastDeparture := some dist }

/-- An entry leaves the track: a grip test on it goes on with no test entry (R84). -/
def State.dropTestEntry (s : State) (uid : Nat) : State :=
  if s.lch.testEntry = some uid then s.updLch fun l => { l with testEntry := none } else s

/-- At an accepted rebuild the launch unit takes the gate afresh: EMPTY, then HOLDING with an entry at the gate, then
the Z3 count (R71, R88). -/
def State.gateRebuilt (s : State) : State :=
  let s1 := (s.updLch fun l => { l with testEntry := none }).gateEmpty
  let s2 : State := match s1.trk.entries.find? (fun e => e.atGate) with
    | none => s1
    | some e => s1.enterHolding e.uid
  s2.z3Changed

/-! ## BARRED and GARAGE_PENDING (R23, R25, R26, R85) -/

/-- A cabin stands at the gate as the gate entry. -/
def State.gateCabinIs (s : State) (cabin : Nat) : Bool :=
  match s.gateEntry? with
  | none => false
  | some e => decide (e.cabin = cabin)

/-- A change of a flag of a fleet record reaches the gate entry as an event of R72. -/
def State.flagEvent (s : State) (cabin : Nat) (changed : Bool) : State :=
  if changed ∧ s.gateCabinIs cabin then s.gateEvent else s

/-- BARRED of a fleet record takes a value. -/
def State.setBarred (s : State) (cabin : Nat) (value : Bool) : State :=
  (s.updFleetRec cabin fun r => { r with barred := value }).flagEvent cabin ((s.fleetRec cabin).barred != value)

/-- GARAGE_PENDING of a fleet record takes a value. -/
def State.setGarage (s : State) (cabin : Nat) (value : Bool) : State :=
  (s.updFleetRec cabin fun r => { r with garagePending := value }).flagEvent cabin
    ((s.fleetRec cabin).garagePending != value)

end Sys2Proof.Machine
end

