-- ==== Sys2Proof/Machine/Track.lean ====
section
/-! DEFINITION. The track unit and the fleet table: placement, arrivals, the tag window, boundary matching,
departures, zone travel, overdue checks, rebuilding, and the cabin orders (R1 to R27, R194). -/

namespace Sys2Proof.Machine

open Sys2Proof

/-! ## OVERDUE (R19) -/

/-- The condition of an entry's OVERDUE ends, its mark having been cleared or the entry having left: for cabin 0
only when no entry of cabin 0 is marked any more (R19). -/
def State.endOverdue (s : State) (e : TrackEntry) : State :=
  if e.overdue then
    if e.cabin ≠ 0 then s.endCause .overdue e.cabin
    else if s.trk.entries.any (fun x => decide (x.cabin = 0) && x.overdue) then s
    else s.endCause .overdue 0
  else s

/-- The conditions of every OVERDUE of a list end, from the front entry back (R6, R22; log 8). -/
def State.endAllOverdue (s : State) (es : List TrackEntry) : State :=
  es.foldl (fun t e => if e.overdue then t.endCause .overdue e.cabin else t) s

/-! ## Track states and placement (R3, R6) -/

/-- The track becomes LOST while the part runs, when a placement finds it full (R3, R6). The close of D2 that R36 starts
there comes after the effects R6 lists (log 8). -/
def State.enterLost (s : State) : State :=
  let old := s.trk.state
  let marked := s.trk.entries
  let s1 := s.updTrk fun t =>
    { t with state := .lost, window := none, entries := t.entries.map fun e => { e with overdue := false }
             lostEdges := {} }
  (((s1.raiseCause .trackLost .service 0).endAllOverdue marked).journal .stateChange .trk 0
    [byteOf old.code, byteOf TrackState.lost.code, byteOf ChangeReason.overflow.code]).gateAtLost

/-- Place an entry by its zone: behind every entry whose zone is the same or greater (R3). -/
def insertEntry (e : TrackEntry) : List TrackEntry → List TrackEntry
  | [] => [e]
  | x :: rest => if e.zone ≤ x.zone then x :: insertEntry e rest else e :: x :: rest

/-- The track holds 16 entries. -/
def State.trackFull (s : State) : Bool := decide (16 ≤ s.trk.entries.length)

/-- A placement finds the track full: it is refused, and the track becomes LOST (R3). -/
def State.refusePlacement (s : State) : State := (s.raiseOnce .trackOverflow .fast 0).enterLost

/-- A new entry with all flags and marks clear. -/
def State.newEntry (s : State) (cabin zone : Nat) (door : DoorState) : TrackEntry :=
  { uid := s.trk.nextUid, cabin := cabin, zone := zone, travel := 0, door := door, missedByCloser := false,
    gateServed := false, atGate := false, ownBarred := false, arrivalDist := s.rpm.dist, overdue := false,
    waiver := false }

/-- Place an entry in a track with room (R3). -/
def State.place (s : State) (e : TrackEntry) : State :=
  (s.updTrk fun t => { t with entries := insertEntry e t.entries, nextUid := t.nextUid + 1 }).z3Changed

/-- A placement by request of the launch unit, in TRACKING (R3). -/
def State.requestPlacement (s : State) (e : TrackEntry) : State :=
  if s.trackFull then s.refusePlacement else s.place e

/-- Remove an entry; the door drive unit and the launch unit are told, the end of its OVERDUE coming before the new Z3
count (R3, R36, R78, R84; log 8). -/
def State.removeEntry (s : State) (e : TrackEntry) : State :=
  ((((s.updTrk fun t =>
      { t with entries := t.entries.filter (·.uid ≠ e.uid) }).dropEngagements e.uid).dropTestEntry
        e.uid).endOverdue e).z3Changed

/-- Move an entry to a zone: zone travel 0, overdue mark cleared, AT_GATE cleared as it leaves Z3 (R3, R5, R14,
R19, R74). The end of its OVERDUE comes before the new Z3 count, with what LAUNCH_QUEUE_FULL makes of it (R78; log 8). -/
def State.moveEntry (s : State) (e : TrackEntry) (zone : Nat) : State :=
  ((s.updEntry e.uid fun x =>
    { x with zone := zone, travel := 0, overdue := false, atGate := false }).endOverdue e).z3Changed

/-! ## Resolution of the tag window (R11, R12) -/

/-- An unknown arrival is counted; at 3 TAG_READER is raised (R12). -/
def State.unknownArrival (s : State) : State :=
  let n := satInc 3 s.trk.unknownCount
  let s1 := s.updTrk fun t => { t with unknownCount := n }
  if n = 3 then s1.raiseCause .tagReader .limit 0 else s1

/-- An arrival resolved from a registered tag sets the count to 0 and ends the condition of TAG_READER (R12). -/
def State.knownArrival (s : State) : State :=
  (s.updTrk fun t => { t with unknownCount := 0 }).endCause .tagReader 0

/-- Journal CABIN_ARRIVED (R11); the cabin stands in the entry's cabin field alone (log 7). -/
def State.noteArrived (s : State) (cabin : Nat) (dist : DWord) : State :=
  s.journal .cabinArrived .trk cabin (le32 dist.toNat)

/-- Journal FLEET_MISMATCH with the cabin and its earlier state, for a record GARAGED or IN_TERMINAL (R11). The cabin
stands in the entry's cabin field alone, and the detail holds the state (log 7). -/
def State.noteMismatch (s : State) (cabin : Nat) : State :=
  let st := (s.fleetRec cabin).state
  if st = .garaged ∨ st = .inTerminal then s.journal .fleetMismatch .trk cabin [byteOf st.code] else s

/-- The entry of the tag window resolves to cabin 0 for a reason of TAG_UNREADABLE: UNREGISTERED 0 with the tag,
INVALID_FRAME 1, NO_FRAME 2 (R11, R187). TAG_READER is raised after CABIN_ARRIVED (R12; log 8). -/
def State.resolveUnknown (s : State) (e : TrackEntry) (reason : List Byte) : State :=
  (((s.updTrk fun t => { t with window := none }).journal .tagUnreadable .trk 0 reason).noteArrived 0
    e.arrivalDist).unknownArrival

/-- The entry resolves to a cabin number (R11, R19, R81). The effects come in this order: the end of OVERDUE source 0,
FLEET_MISMATCH, the end of a divert with the gate decision that follows, CABIN_ARRIVED, the end of TAG_READER
(log 8). -/
def State.resolveKnown (s : State) (e : TrackEntry) (cabin : Nat) : State :=
  let s1 := (s.updTrk fun t => { t with window := none }).updEntry e.uid fun x =>
    { x with cabin := cabin, overdue := false }
  let s2 := (s1.endOverdue e).noteMismatch cabin
  ((((s2.updFleetRec cabin fun r => { r with state := .inTerminal, lastArrival := some e.arrivalDist }).arrivalEndsDivert
    cabin).noteArrived cabin e.arrivalDist)).knownArrival

/-- The tag names a cabin that is already in another entry (R11). In TAG_DUPLICATE that cabin stands in the
entry's cabin field alone, and the detail holds the tag (log 7). TAG_READER ends after CABIN_ARRIVED (R12; log 8). -/
def State.resolveDuplicate (s : State) (e : TrackEntry) (tag : Word) (cabin : Nat) : State :=
  ((((s.updTrk fun t => { t with window := none }).journal .tagDuplicate .trk cabin (le16 tag.toNat)).noteArrived 0
    e.arrivalDist)).knownArrival

/-- A valid frame resolves the entry of the open window (R11). -/
def State.resolveTag (s : State) (e : TrackEntry) (tag : Word) : State :=
  match s.tagCabin tag with
  | none => s.resolveUnknown e (0 :: le16 tag.toNat)
  | some n =>
    if s.trk.entries.any (fun x => decide (x.cabin = n) && decide (x.uid ≠ e.uid)) then s.resolveDuplicate e tag n
    else s.resolveKnown e n

/-- The open window closes with no valid frame (R9, R11, R15). -/
def State.closeWindow (s : State) : State :=
  match s.trk.window with
  | none => s
  | some w =>
    match s.entry w.uid with
    | none => s.updTrk fun t => { t with window := none }
    | some e => s.resolveUnknown e [if w.invalidSeen then 1 else 2]

/-! ## The tag reader (R10, R194) -/

/-- An invalid frame has been received: an open window remembers it (R10). -/
def State.invalidFrame (s : State) : State :=
  s.updTrk fun t => { t with window := t.window.map fun w => { w with invalidSeen := true } }

/-- A valid frame with a tag has been received; it is discarded while the window is closed (R10). -/
def State.validFrame (s : State) (tag : Word) : State :=
  match s.trk.window with
  | none => s
  | some w =>
    match s.entry w.uid with
    | none => s
    | some e => s.resolveTag e tag

/-- Four bytes are a complete frame: tag, high byte first, then its complement (R194). -/
def tagOf (bytes : List Byte) : Option Word :=
  match bytes with
  | [a, b, c, d] => if c = ~~~a ∧ d = ~~~b then some (a ++ b) else none
  | _ => none

/-- One byte from the tag reader (R194). -/
def State.tagByte (s : State) (b : TagByte) : State :=
  if ¬ b.stopOk then (s.updTrk fun t => { t with tagBytes := [] }).invalidFrame
  else
    let held := s.trk.tagBytes ++ [b.data]
    if held.length < 4 then s.updTrk fun t => { t with tagBytes := held }
    else
      let s1 := s.updTrk fun t => { t with tagBytes := [] }
      match tagOf held with
      | some tag => s1.validFrame tag
      | none => s1.invalidFrame

/-- A gap longer than two byte times discards the bytes of an incomplete frame, which counts as an invalid
frame (R194). -/
def State.tagGap (s : State) : State :=
  if s.trk.tagBytes.isEmpty then s else (s.updTrk fun t => { t with tagBytes := [] }).invalidFrame

/-! ## Edges (R1, R7, R9, R13, R14, R17) -/

/-- The boundary of an edge of BOUNDARY_EDGE. -/
def boundaryOf : EdgeAt → Nat
  | .b1 => 1 | .b2 => 2 | .b3 => 3 | .b5 => 5 | .b6 => 6

/-- Count a LOST edge at a boundary (R7). -/
def EdgeCounts.bump (c : EdgeCounts) : Nat → EdgeCounts
  | 0 => { c with b0 := c.b0 + 1 } | 1 => { c with b1 := c.b1 + 1 } | 2 => { c with b2 := c.b2 + 1 }
  | 3 => { c with b3 := c.b3 + 1 } | 4 => { c with b4 := c.b4 + 1 } | 5 => { c with b5 := c.b5 + 1 }
  | 6 => { c with b6 := c.b6 + 1 } | _ => c

/-- An edge taken while the track is LOST is counted (R7). -/
def State.countEdge (s : State) (boundary : Nat) : State :=
  s.updTrk fun t => { t with lostEdges := t.lostEdges.bump boundary }

/-- Journal BOUNDARY_CHATTER, with the front-most entry of the zone behind the boundary (R14). Its cabin stands in the
entry's cabin field alone, and the detail holds the boundary and the travel (log 7). -/
def State.chatter (s : State) (boundary : Nat) (e : Option TrackEntry) : State :=
  s.journal .boundaryChatter .trk ((e.map (·.cabin)).getD 0)
    (byteOf boundary :: le32 ((e.map (·.travel)).getD 0))

/-- An edge at standstill is chatter, whatever the track holds (R14). -/
def State.standstillChatter (s : State) (boundary : Nat) : State :=
  s.chatter boundary (if boundary = 0 then none else s.frontOf (boundary - 1))

/-- The arrival spacing check (R13). -/
def State.arrivalSpacing (s : State) : State :=
  let s1 := match s.trk.lastArrival with
    | none => s
    | some d =>
      if (s.rpm.dist - d).toNat < s.sst.active.zone.arrivalMin * 10 then s.raiseOnce .arrivalBunched .service 0
      else s
  s1.updTrk fun t => { t with lastArrival := some s.rpm.dist }

/-- An arrival in TRACKING with the rope moving (R9, steps 2 to 6). -/
def State.arrive (s : State) : State :=
  if s.trackFull then s.refusePlacement
  else
    let s1 := s.closeWindow
    let e := s1.newEntry 0 0 .latched
    ((s1.place e).arrivalSpacing).updTrk fun t => { t with window := some ⟨e.uid, false⟩ }

/-- B0 rising (R1, R9). -/
def State.edgeB0 (s : State) : State :=
  if s.trk.state = .lost then s.countEdge 0
  else if s.rpm.standstill then s.standstillChatter 0
  else s.arrive

/-- A departure (R16); CABIN_DEPARTED has the cabin in its cabin field alone (log 7). -/
def State.depart (s : State) (e : TrackEntry) : State :=
  (((s.removeEntry e).setFleetState e.cabin .inLine).journal .cabinDeparted .trk e.cabin
    (le32 s.rpm.dist.toNat)).departureCheck s.rpm.dist

/-- The entry as the list holds it now. -/
def State.refresh (s : State) (e : TrackEntry) : TrackEntry := (s.entry e.uid).getD e

/-- A match at B1, B2, B3 or B5: the entry moves and the zone-entry action runs (R14, R15). -/
def State.matchAt (s : State) (boundary : Nat) (e : TrackEntry) : State :=
  let s1 := (s.updEntry e.uid fun x => { x with waiver := false }).moveEntry e boundary
  match boundary with
  | 1 =>
    (if s1.trk.window.any (·.uid = e.uid) then s1.closeWindow else s1).engageOpener e.uid
  | 2 => s1.engageGate (s1.refresh e)
  | 3 => let s2 := s1.engageCloser e.uid; s2.gateLateCheck (s2.refresh e)
  | _ => s1

/-- An entry has covered half its zone, or its first-match waiver is set (R14). -/
def State.halfWay (s : State) (e : TrackEntry) : Bool := decide (s.zoneLen e.zone * 5000 ≤ e.travel) || e.waiver

/-- An edge at B1, B2, B3, B5 or B6 in TRACKING with the rope moving (R14). -/
def State.testEdge (s : State) (boundary : Nat) : State :=
  match s.frontOf (boundary - 1) with
  | none => s.raiseOnce .phantom .service boundary
  | some e =>
    if s.halfWay e then (if boundary = 6 then s.depart e else s.matchAt boundary e)
    else s.chatter boundary (some e)

/-- The track unit's part of an edge at B1, B2, B3, B5 or B6 (R1, R14). -/
def State.edgeAt (s : State) (boundary : Nat) : State :=
  if s.trk.state = .lost then s.countEdge boundary
  else if s.rpm.standstill then s.standstillChatter boundary
  else s.testEdge boundary

/-- A cabin comes to stand at the launch gate, in TRACKING with the rope moving (R17). -/
def State.standAtGate (s : State) : State :=
  match s.frontOf 3 with
  | none => s.raiseOnce .phantom .service 4
  | some e =>
    if e.atGate then s.chatter 4 (some e)
    else (s.updEntry e.uid fun x => { x with atGate := true }).enterHolding e.uid

/-- B4 rising (R1, R17). -/
def State.edgeB4 (s : State) : State :=
  let s1 := s.updPins fun p => { p with b4 := true }
  if s1.trk.state = .lost then s1.countEdge 4
  else if s1.rpm.standstill then s1.standstillChatter 4
  else s1.standAtGate

/-! ## Window ends (R18, R19, R44) -/

/-- Zone travel grows by the window travel at the zone's ratio; entries in Z3 accrue nothing (R18). -/
def State.accrue (s : State) (e : TrackEntry) : TrackEntry :=
  if e.zone = 3 then e
  else { e with travel := min 4294967295 (e.travel + s.rpm.dWin * s.zoneRatio e.zone / 1000) }

/-- The overdue check of one entry (R19). -/
def State.overdueCheck (s : State) (uid : Nat) : State :=
  match s.entry uid with
  | none => s
  | some e =>
    if e.zone ≠ 3 ∧ ¬ e.overdue ∧ s.zoneLen e.zone * 12500 < e.travel then
      (s.updEntry uid fun x => { x with overdue := true }).raiseCause .overdue .service e.cabin
    else s

/-- The close point of the entry engaged with D2 (R44). -/
def State.closePointCheck (s : State) : State :=
  match (s.ddu.get .d2).engaged.bind s.entry with
  | none => s
  | some e =>
    if e.zone = 2 ∧ s.zoneLen 2 * s.sst.active.zone.gateClosePct * 100 ≤ e.travel then s.closePoint e.uid else s

/-- The track unit's window end: accrual, the overdue checks from the front entry back, the close point (R18, R19, R44;
log 8). -/
def State.trackWindow (s : State) : State :=
  if s.trk.state = .lost then s
  else
    let s1 := s.updTrk fun t => { t with entries := t.entries.map s.accrue }
    ((s1.trk.entries.map (·.uid)).foldl (fun t u => t.overdueCheck u) s1).closePointCheck

/-! ## Rebuilding (R21, R22) -/

/-- The cabin numbers and zones of a rebuild are in range, in order, registered and without repeats (R21). -/
def State.pairsOk (s : State) (pairs : List (Nat × Nat)) : Bool :=
  decide (pairs.length ≤ 16) && pairs.all (fun p => decide (p.2 ≤ 5) && decide (p.1 ≤ 96)) &&
    decide ((pairs.map (·.2)).Pairwise (· ≥ ·)) &&
    decide (((pairs.map (·.1)).filter (· ≠ 0)).Nodup) &&
    pairs.all (fun p => decide (p.1 = 0) || s.registered p.1)

/-- Why a REBUILD_TRACK is refused, if it is (R21). -/
def State.rebuildRefusal (s : State) (pairs : List (Nat × Nat)) : Option ResultCode :=
  if ¬ (s.msv.state = .standby ∨ s.msv.state = .held) then some .wrongState
  else if ¬ s.rpm.standstill then some .notAtStandstill
  else if ¬ s.pairsOk pairs then some .badArg
  else if s.lch.divert.any (fun d => decide (d.cabin ≠ 0) && pairs.any (fun p => decide (p.1 = d.cabin))) then
    some .wrongState
  else none

/-- The new list, each entry with the next name and the first-match waiver set (R22). -/
def rebuiltEntries (dist : DWord) : Nat → List (Nat × Nat) → List TrackEntry
  | _, [] => []
  | uid, (cabin, zone) :: rest =>
    { uid := uid, cabin := cabin, zone := zone, travel := 0, door := .unknown, missedByCloser := false,
      gateServed := false, atGate := false, ownBarred := false, arrivalDist := dist, overdue := false,
      waiver := true } :: rebuiltEntries dist (uid + 1) rest

/-- While B4 is high, AT_GATE is set on the front-most Z3 entry of the rebuilt list (R22). -/
def State.rebuildAtGate (s : State) : State :=
  if s.pins.b4 then
    match s.frontOf 3 with
    | none => s
    | some e =>
      s.updEntry e.uid fun x => { x with atGate := true, door := if s.pins.latch then .latched else x.door }
  else s

/-- A cabin named in a rebuild takes state IN_TERMINAL; FLEET_MISMATCH is laid out as in `noteMismatch` (R22; log 7). -/
def State.rebuildNamed (s : State) (cabin : Nat) : State :=
  (if (s.fleetRec cabin).state = .garaged then
    s.journal .fleetMismatch .trk cabin [byteOf FleetState.garaged.code] else s).setFleetState cabin .inTerminal

/-- The fleet record of a cabin after a rebuild that does not name it (R22). -/
def unplaceUnnamed (named : List Nat) (waiting : Option Nat) (cabin : Nat) (r : FleetRec) : FleetRec :=
  if r.state = .inTerminal ∧ ¬ named.contains cabin ∧ waiting ≠ some cabin then { r with state := .unplaced } else r

/-- The fleet after a rebuild; the named cabins are taken in list order, so their FLEET_MISMATCH entries are in that
order (R22; log 8). -/
def State.rebuildFleet (s : State) (pairs : List (Nat × Nat)) : State :=
  let named := (pairs.map (·.1)).filter (· ≠ 0)
  (named.foldl (fun t n => t.rebuildNamed n) s).updFleet fun f =>
    f.mapIdx fun i r => unplaceUnnamed named (s.lch.divert.map (·.cabin)) (i + 1) r

/-- An accepted REBUILD_TRACK (R22). -/
def State.rebuild (s : State) (pairs : List (Nat × Nat)) : State :=
  let old := s.trk
  let s1 := ((s.updTrk fun t => { t with window := none }).dropAllEngagements).endAllOverdue old.entries
  let s2 := (s1.updTrk fun t =>
    { t with entries := rebuiltEntries s.rpm.dist t.nextUid pairs, nextUid := t.nextUid + pairs.length }).rebuildAtGate
  let s3 := (s2.rebuildFleet pairs).updTrk fun t => { t with lastArrival := none, state := .tracking }
  let s4 := (s3.endCause .trackLost 0).journal .trackRebuilt .trk 0 [byteOf pairs.length]
  let s5 := if old.state = .lost then
      s4.journal .stateChange .trk 0
        [byteOf old.state.code, byteOf TrackState.tracking.code, byteOf ChangeReason.rebuild.code]
    else s4
  s5.gateRebuilt

/-! ## Cabin orders (R25, R26) -/

/-- A cabin number of an order is in range. -/
def cabinOk (n : Nat) : Bool := decide (1 ≤ n) && decide (n ≤ 96)

/-- BAR_CABIN (R25). -/
def State.barCabin (s : State) (n : Nat) : State × OrderResult :=
  if cabinOk n then (s.setBarred n true, resultOk) else (s, refusal .badArg)

/-- UNBAR_CABIN (R25). -/
def State.unbarCabin (s : State) (n : Nat) : State × OrderResult :=
  if ¬ cabinOk n then (s, refusal .badArg)
  else if 3 ≤ (s.fleetRec n).weakCount then (s, refusal .wrongState)
  else (s.setBarred n false, resultOk)

/-- GARAGE_CABIN (R26). -/
def State.garageCabin (s : State) (n : Nat) : State × OrderResult :=
  if ¬ cabinOk n ∨ ¬ s.registered n then (s, refusal .badArg)
  else if (s.fleetRec n).state = .garaged then (s, refusal .wrongState)
  else (s.setGarage n true, resultOk)

end Sys2Proof.Machine
end

