-- ==== Sys2Proof/Machine/Launch.lean ====
section
/-! DEFINITION. The launch unit: passages of the gate, diverts, insertions from the garage, the grip test, LATCH,
the proof timer and the launch window end (R70 to R89). -/

namespace Sys2Proof.Machine

open Sys2Proof

/-! ## Outputs (R70) -/

/-- LAUNCH_HOLD is engaged. -/
def Lch.holdEngaged (l : Lch) : Bool := decide (l.gate = .empty) || decide (l.gate = .holding)

/-- DIVERT is asserted. -/
def Lch.divertAsserted (l : Lch) : Bool := decide (l.gate = .diverting) || l.divert.isSome

/-! ## B4 falling (R74, R77, R80, R88) -/

/-- A launch is completed: while TRACKING the gate entry moves to Z4 (R74, R88). -/
def State.completeLaunch (s : State) : State :=
  (match s.trk.state, s.gateEntry? with
    | .tracking, some e => s.moveEntry e 4
    | _, _ => s).gateEmpty

/-- A divert's cabin passes B4: its entry is kept in the divert record and removed from the track (R80, R88). -/
def State.completeDivert (s : State) : State :=
  (match s.gateEntry? with
    | none => s
    | some e =>
      ((s.updLch fun l =>
        { l with divert := some ⟨e.cabin, e.door, e.gateServed, e.missedByCloser⟩ }).updHeld fun h =>
          { h with divert := true }).removeEntry e).gateEmpty

/-- An uncommanded launch (R77). -/
def State.uncommandedLaunch (s : State) : State :=
  let s1 := s.raiseOnce .uncommandedLaunch .fast 0
  (match s1.trk.state, s1.frontOf 3 with
    | .tracking, some e => s1.moveEntry e 4
    | _, _ => s1).gateEmpty

/-- B4 falling (R71). -/
def State.b4Falling (s : State) : State :=
  let s1 := s.updPins fun p => { p with b4 := false }
  match s1.lch.gate with
  | .launching => s1.completeLaunch
  | .diverting => s1.completeDivert
  | .holding | .empty => s1.uncommandedLaunch

/-! ## B5 (R81, R84 to R86) -/

/-- The diverted cabin has passed the garage switch onto the line side (R81, R88; log 24). -/
def State.divertFails (s : State) : State :=
  match s.lch.divert with
  | none => s
  | some d =>
    let s1 := s.raiseOnce .divertFail .service d.cabin
    let s2 := if s1.trk.state = .tracking then
        s1.requestPlacement { s1.newEntry d.cabin 4 d.door with gateServed := d.gateServed, missedByCloser := d.missedByCloser }
      else s1
    s2.clearDivert

/-- A grip test starts on the front-most Z4 entry, if the track is TRACKING (R84). -/
def State.startGripTest (s : State) : State :=
  let test := if s.trk.state = .tracking then (s.frontOf 4).map (·.uid) else none
  s.updLch fun l => { l with sampling := true, testEntry := test, peak := 0 }

/-- B5 rising (R81, R84). -/
def State.b5Rising (s : State) : State :=
  let s1 := s.updPins fun p => { p with b5 := true }
  if s1.rpm.standstill then s1
  else
    let s2 := s1.divertFails
    if s2.lch.sampling then s2 else s2.startGripTest

/-- The grade of a reading (R85). -/
def gradeOf (p : RopePlan) (f : Nat) : Grade :=
  if f < 20 then .noReading
  else if f < p.fFail then .fail
  else if f < p.fWarn then .weak
  else if p.fHigh < f then .high
  else .good

/-- A reading is pushed onto a grip history (R86). -/
def FleetRec.push (r : FleetRec) (f : Nat) (g : Grade) : FleetRec := { r with history := ((f, g) :: r.history).take 4 }

/-- A NO_READING or FAIL grade bars the cabin (R85). -/
def Grade.bars : Grade → Bool
  | .noReading | .fail => true
  | _ => false

/-- The reading enters the history of a numbered cabin, which a failed grade or three weak grades bar; an entry
of cabin 0 is barred directly (R85, R86). -/
def State.recordGrip (s : State) (test : Option Nat) (cabin f : Nat) (g : Grade) : State :=
  if cabin = 0 then
    match test with
    | none => s
    | some u => if g.bars then s.updEntry u fun e => { e with ownBarred := true } else s
  else
    let s1 := s.updFleetRec cabin (·.push f g)
    if g.bars ∨ 3 ≤ (s1.fleetRec cabin).weakCount then s1.setBarred cabin true else s1

/-- The cause of a grade (R85). -/
def State.gripCause (s : State) (g : Grade) (cabin : Nat) : State :=
  match g with
  | .noReading | .fail => s.raiseOnce .gripFail .fast cabin
  | .high => s.raiseOnce .gripHigh .service cabin
  | .weak | .good => s

/-- B5 falling while SAMPLING ends the test and grades the peak (R84, R85); GRIP_TEST has the cabin in its cabin field
alone (log 7). -/
def State.endGripTest (s : State) : State :=
  if s.lch.sampling then
    let f := s.lch.peak
    let g := gradeOf s.sst.active.rope f
    let cabin := (s.lch.testEntry.map s.entryCabin).getD 0
    let s1 := s.updLch fun l => { l with sampling := false, testEntry := none, lastReading := some ⟨f, cabin, g⟩ }
    let s2 := (s1.recordGrip s.lch.testEntry cabin f g).gripCause g cabin
    s2.journal .gripTest .lch cabin
      (le16 f ++ [byteOf g.code, byteOf (if cabin = 0 then 0 else (s2.fleetRec cabin).weakCount)])
  else s

/-- A force sample (R84). -/
def State.forceSample (s : State) (force : Nat) : State :=
  if s.lch.sampling then s.updLch fun l => { l with peak := max l.peak force } else s

/-! ## G_IN, G_OUT, insertions (R81 to R83) -/

/-- G_IN rising (R81); the entries' cabin stands in their cabin field alone (log 7). -/
def State.gIn (s : State) : State :=
  match s.lch.divert with
  | none => s.journal .fleetMismatch .lch 0 [Config.garageBoundary false]
  | some d =>
    (((s.setFleetState d.cabin .garaged).setGarage d.cabin false).journal .stateChange .lch d.cabin
      [byteOf FleetState.inTerminal.code, byteOf FleetState.garaged.code]).clearDivert

/-- Why a RELEASE_CABIN is refused, if it is (R82). -/
def State.releaseRefusal (s : State) (n : Nat) : Option ResultCode :=
  if ¬ cabinOk n then some .badArg
  else if ¬ (s.msv.state = .run ∨ s.msv.state = .held) then some .wrongState
  else if s.trk.state = .lost then some .trackLost
  else if (s.fleetRec n).state ≠ .garaged then some .wrongState
  else if s.lch.insertion.isSome then some .busy
  else none

/-- An accepted RELEASE_CABIN (R82). -/
def State.startRelease (s : State) (context n : Nat) : State :=
  (s.updLch fun l => { l with insertion := some ⟨n, context, s.now + 60000⟩ }).updHeld fun h =>
    { h with insertion := true }

/-- The insertion ends, and its order completes. -/
def State.endInsertion (s : State) (i : Insertion) (r : OrderResult) : State :=
  (s.updLch fun l => { l with insertion := none }).completeOrder i.context r

/-- An unexpected G_OUT (R83); cabin 0 stands in the entry's cabin field alone (log 7). -/
def State.gOutUnexpected (s : State) : State :=
  (if s.trk.state = .tracking then s.requestPlacement (s.newEntry 0 3 .unknown) else s).journal
    .fleetMismatch .lch 0 [Config.garageBoundary true]

/-- G_OUT rising (R83, R88); STATE_CHANGE has the cabin in its cabin field alone (log 7). -/
def State.gOut (s : State) : State :=
  match s.lch.insertion with
  | none => s.gOutUnexpected
  | some i =>
    if (s.fleetRec i.cabin).state ≠ .garaged then (s.endInsertion i (refusal .wrongState)).gOutUnexpected
    else if s.trk.state = .lost then
      (s.setFleetState i.cabin .unplaced).endInsertion i (refusal .trackLost)
    else if s.trackFull then
      (s.refusePlacement.setFleetState i.cabin .unplaced).endInsertion i (refusal .full)
    else
      (((s.setFleetState i.cabin .inTerminal).place (s.newEntry i.cabin 3 .unknown)).journal .stateChange .lch i.cabin
        [byteOf FleetState.garaged.code, byteOf FleetState.inTerminal.code]).endInsertion i resultOk

/-- The insertion timer expires (R83). -/
def State.insertionExpires (s : State) : State :=
  match s.lch.insertion with
  | none => s
  | some i => s.endInsertion i (refusal .timeout)

/-! ## LATCH and the proof timer (R4, R75) -/

/-- LATCH changes (R4, R72, R75). -/
def State.latchChange (s : State) (active : Bool) : State :=
  if s.pins.latch = active then s
  else
    let s1 := s.updPins fun p => { p with latch := active }
    let s2 := if active then
        s1.updTrk fun t =>
          { t with entries := t.entries.map fun e => if e.atGate then { e with door := .latched } else e }
      else s1
    s2.endNotProven.gateEvent

/-- The proof timer expires (R75). -/
def State.proofExpires (s : State) : State :=
  if s.lch.proofTimer.isSome then
    (s.updLch fun l => { l with proofTimer := none, proofExpired := true }).raiseCause .doorNotProven .service 0
  else s

/-! ## The launch window end (R73, R79) -/

/-- The launch estimate of the gate entry (R79). -/
def State.launchEstimate (s : State) : Nat :=
  if s.lch.gateEntry.isNone then 65535
  else if s.lch.gate = .launching ∨ s.launchSpacing ≤ s.lch.dL.toNat then 0
  else if s.rpm.v = 0 then 65535
  else
    let t := ((s.launchSpacing - s.lch.dL.toNat) * 100 + s.rpm.v - 1) / s.rpm.v
    if 65534 < t then 65535 else t

/-- The launch unit's window end: D_L, the decision, the estimate (R73, R79). -/
def State.launchWindow (s : State) : State :=
  let s1 := (s.updLch fun l => { l with dL := s.rpm.dist - l.lastLaunch }).gateEvent
  s1.updLch fun l => { l with estimate := s1.launchEstimate }

end Sys2Proof.Machine
end

