-- ==== Sys2Proof/Machine/Frames.lean ====
section
/-! DEFINITION. The bits of a line frame: fields, check, stuffing, and what a receiver makes of a received
bit sequence (R92, R93, R94, R97). A dominant bit is `false` (0), a recessive bit is `true` (1) (R90). -/

namespace Sys2Proof.Machine

open Sys2Proof

/-- The `width` low bits of a number, most significant first (R92). -/
def bitsMsb : Nat → Nat → List Bool
  | 0, _ => []
  | width + 1, n => (n / 2 ^ width % 2 == 1) :: bitsMsb width n

/-- The number that bits spell, most significant first. -/
def numberOf (bits : List Bool) : Nat := bits.foldl (fun n b => 2 * n + flagNat b) 0

/-- The fields of a frame, less the ones every frame has alike (R92). -/
structure LineFrame where
  priority : Nat
  sender : Nat
  dest : Nat
  kind : Nat
  payload : List Byte
  deriving DecidableEq, Repr

/-- The bits of a payload, byte by byte, most significant bit first. -/
def payloadBits : List Byte → List Bool
  | [] => []
  | b :: rest => bitsMsb 8 b.toNat ++ payloadBits rest

/-- The bits from the first bit of the priority field to the last bit of the payload (R92). -/
def LineFrame.message (f : LineFrame) : List Bool :=
  bitsMsb 4 f.priority ++ bitsMsb 4 f.sender ++ bitsMsb 4 f.dest ++ bitsMsb 4 f.kind ++
    bitsMsb 5 f.payload.length ++ payloadBits f.payload

/-- One message bit taken into the check register (R93). -/
def crcStep (r : Word) (b : Bool) : Word :=
  let shifted := r <<< 1
  if (r.msb ^^ b) then shifted ^^^ 0x1021#16 else shifted

/-- The check of a message: the register starts with all bits 1, with no final inversion (R93). -/
def crcOf (message : List Bool) : Word := message.foldl crcStep 0xFFFF#16

/-- Insert a stuff bit of the opposite level after every run of six equal bits; `run` bits equal to `last`
have been sent (R94). -/
def stuffFrom : Bool → Nat → List Bool → List Bool
  | _, _, [] => []
  | last, run, b :: rest =>
    if b = last then
      if run + 1 = 6 then b :: (!b) :: stuffFrom (!b) 1 rest else b :: stuffFrom last (run + 1) rest
    else b :: stuffFrom b 1 rest

/-- The stuffed region of a frame: from the start bit to the check field (R94). -/
def stuff (bits : List Bool) : List Bool := stuffFrom true 0 bits

/-- The bits of the stuffed region before stuffing: start bit, message, check. -/
def LineFrame.region (f : LineFrame) : List Bool :=
  false :: (f.message ++ bitsMsb 16 (crcOf f.message).toNat)

/-- The whole frame as its sender drives it: the stuffed region, the ACK slot and the ACK delimiter
recessive, and the end field (R92). -/
def LineFrame.bits (f : LineFrame) : List Bool := stuff f.region ++ [true, true, true, true, true]

/-- Remove the bit that follows each run of six; a bit of the same level there is a stuff violation (R94).
A stuff bit after the last bit of the region is removed too. -/
def unstuffFrom : Bool → Nat → List Bool → Option (List Bool)
  | _, _, [] => some []
  | last, run, b :: rest =>
    if run = 6 then
      if b = last then none else unstuffFrom b 1 rest
    else
      (unstuffFrom b (if b = last then run + 1 else 1) rest).map (b :: ·)

/-- The region that stuffed bits carry, or none on a stuff violation. -/
def unstuff (bits : List Bool) : Option (List Bool) := unstuffFrom true 0 bits

/-- The bytes that bits spell, eight at a time. -/
def bytesOf : Nat → List Bool → List Byte
  | 0, _ => []
  | n + 1, bits => BitVec.ofNat 8 (numberOf (bits.take 8)) :: bytesOf n (bits.drop 8)

/-- What a receiver makes of a frame's region, in the order of R97's checks. -/
inductive RxVerdict where
  | lengthError
  | checkError
  | senderError
  | ignored
  | valid (frame : LineFrame)
  deriving DecidableEq, Repr

/-- Check the unstuffed region of a received frame (R97). -/
def checkRegion (region : List Bool) : RxVerdict :=
  let fields := region.drop 1
  let priority := numberOf (fields.take 4)
  let sender := numberOf ((fields.drop 4).take 4)
  let dest := numberOf ((fields.drop 8).take 4)
  let kind := numberOf ((fields.drop 12).take 4)
  let length := numberOf ((fields.drop 16).take 5)
  let message := fields.take (21 + 8 * length)
  let check := numberOf ((fields.drop (21 + 8 * length)).take 16)
  if 16 < length then .lengthError
  else if (crcOf message).toNat ≠ check then .checkError
  else if sender = 0 ∨ sender = 14 ∨ sender = 15 then .senderError
  else if dest = 14 then .ignored
  else .valid ⟨priority, sender, dest, kind, bytesOf length (fields.drop 21)⟩

/-- The part drives the ACK slot dominant for a valid frame addressed to 0 or to 15 (R97). -/
def RxVerdict.acknowledged : RxVerdict → Bool
  | .valid f => f.dest = 0 || f.dest = 15
  | _ => false

/-- The frame of the attempt on the line: priority by kind, sender 0 (R92, R95). -/
def Attempt.frame (a : Attempt) : LineFrame :=
  ⟨a.kind.priority, 0, a.dest, a.kind.code, a.payload⟩

/-- The bits the part drives on LINE_TX in its attempt (R95). -/
def State.txBits (s : State) : List Bool :=
  match s.lnc.attempt with
  | none => []
  | some a => a.frame.bits

end Sys2Proof.Machine
end

