-- ==== Sys2Proof/Machine/Stations.lean ====
section
/-! DEFINITION. The station table: states and silence timers, frames from stations, their reports and stop
requests, exclusion and inclusion, breaks, and the update at a new line plan (R109 to R124). -/

namespace Sys2Proof.Machine

open Sys2Proof

/-! ## States and timers (R111 to R113) -/

/-- The period a record's silence timer starts with in a state: the join grace in UNHEARD, the silence timeout in
LIVE, for a present station and outside a break; otherwise it is stopped (R112, R113). -/
def State.silencePeriod (s : State) (address : Nat) (st : StationState) : Timer :=
  let timeout := s.sst.active.line.silence address
  if address = 0 ∨ ¬ s.present address ∨ s.lnc.state = .inBreak then none
  else
    match st with
    | .unheard => some (s.now + 2 * timeout)
    | .live => some (s.now + timeout)
    | .silent | .excluded => none

/-- Up-since after a change of state (R111). -/
def upSinceAfter (old new : StationState) (seconds before : DWord) : DWord :=
  if new = .live then seconds else if old = .live then 0 else before

/-- The call unit is told of a station's new state (R111, R134). -/
def State.tellStation (s : State) (address : Nat) (new : StationState) : State :=
  match new with
  | .silent | .excluded => s.stationUnavailable address
  | .unheard | .live => s

/-- STATION_SILENT follows the state of a station: raised when a supervised station enters SILENT, ended when it
leaves SILENT (R117). -/
def State.silentCause (s : State) (address : Nat) (old new : StationState) : State :=
  if new = .silent then
    (if s.sst.active.line.supervised address then s.raiseCause .stationSilent .fast address else s)
  else if old = .silent then s.endCause .stationSilent address
  else s

/-- A station changes its state (R111). -/
def State.setStation (s : State) (address : Nat) (new : StationState) (event : StationEvent) : State :=
  let old := (s.stationRec address).state
  let t := s.silencePeriod address new
  let s1 := s.updStation address fun r =>
    { r with state := new, timer := t, upSince := upSinceAfter old new s.sst.clock.seconds r.upSince }
  (((s1.journal .stationState .stn 0
    [byteOf address, byteOf old.code, byteOf new.code, byteOf event.code]).tellStation address new)).silentCause
      address old new

/-- A timer runs, and the time at which it expires is reached. -/
def timerReached (now : Nat) (t : Timer) : Bool :=
  match t with
  | some d => decide (d ≤ now)
  | none => false

/-- A station's silence timer expires (R112). A frame restarts the same timer, so an expiry that was due when the
frame was taken finds a later deadline and is not acted on. -/
def State.silenceExpires (s : State) (address : Nat) : State :=
  if timerReached s.now (s.stationRec address).timer then s.setStation address .silent .timeout else s

/-- The addresses of stations. -/
def stationAddresses : List Nat := [1, 2, 3, 4, 5, 6, 7, 8, 9, 10, 11, 12, 13]

/-- A break begins: every silence timer stops (R113). -/
def State.stationsBreakBegin (s : State) : State :=
  s.updStn fun t => { t with records := t.records.map fun r => { r with timer := none } }

/-- A break has ended: each UNHEARD or LIVE station that is present starts its timer with its full period (R113). -/
def State.stationsBreakEnd (s : State) : State :=
  stationAddresses.foldl (fun t a =>
    t.updStation a fun r => { r with timer := t.silencePeriod a r.state }) s

/-! ## Frames (R110, R114, R119) -/

/-- A frame from a station is counted, and last heard set (R114, R119). -/
def State.hear (s : State) (address : Nat) : State :=
  (s.updStation address fun r => { r with frames := r.frames + 1, lastHeard := some s.clockTime }).updHeld fun h =>
    { h with heard := h.heard.set address true }

/-- The first frame from an absent station is noted (R110). -/
def State.noteUnexpected (s : State) (address : Nat) : State :=
  if (s.stationRec address).unexpected then s
  else
    (s.updStation address fun r => { r with unexpected := true }).journal .stationState .stn 0
      [byteOf address, byteOf StationEvent.unexpected.code]

/-- The state after a frame from a present station that is not EXCLUDED; `report` tells a STATUS addressed to 0 or
15 (R114). -/
def State.frameState (s : State) (address : Nat) (report : Bool) : State :=
  match (s.stationRec address).state with
  | .unheard => s.setStation address .live .frame
  | .live => let t := s.silencePeriod address .live; s.updStation address fun r => { r with timer := t }
  | .silent => if report then s.setStation address .live .frame else s
  | .excluded => s

/-- A valid frame is handed to the station table, for liveness and counts (R98, R110, R114). -/
def State.stationFrame (s : State) (address : Nat) (report : Bool) : State :=
  let s1 := s.hear address
  if s.present address then s1.frameState address report else s1.noteUnexpected address

/-! ## Reports (R115, R116, R118) -/

/-- The source index of RPD_REMOTE for a sheave, counted from 0 (R115). -/
def sheaveIndex (address sheave : Nat) : Nat := 4 * address + sheave

/-- The condition of RPD_REMOTE of a sheave follows its reported state (R115). -/
def State.sheaveFollow (s : State) (address sheave : Nat) (report : SheaveState) : State :=
  let active := ((s.stationRec address).sheaveActive[sheave]?).getD false
  let bad := decide (report ≠ .ok)
  let s1 := s.updStation address fun r => { r with sheaveActive := r.sheaveActive.set sheave bad }
  if bad ∧ ¬ active then s1.raiseCause .rpdRemote .fast (sheaveIndex address sheave)
  else if active ∧ ¬ bad then s1.endCause .rpdRemote (sheaveIndex address sheave)
  else s1

/-- The sheave states of a STATUS payload's first byte: sheave 1 in bits 7 and 6 (R193). -/
def reportedSheaves (b : Byte) : List SheaveState :=
  [sheaveOf (b.toNat / 64), sheaveOf (b.toNat / 16 % 4), sheaveOf (b.toNat / 4 % 4), sheaveOf (b.toNat % 4)]

/-- The recorded sheave states: those of sheaves 1 to the sheave count (R115). -/
def recordSheaves (count : Nat) (old report : List SheaveState) : List SheaveState :=
  report.take count ++ old.drop count

/-- The stop request of a STATUS payload's second byte: NONE 0, SERVICE 1, otherwise FAST (R193, R116). -/
def reportedRequest (b : Byte) : Nat := b.toNat / 64

/-- The source index of REMOTE_TRIP (R116). -/
def remoteIndex (address : Nat) (category : Category) : Nat := if category = .fast then 16 + address else address

/-- A request of one category that is not already active is raised (R116). -/
def State.requestRaise (s : State) (address : Nat) (category : Category) (was wanted : Bool) : State :=
  if wanted ∧ ¬ was then s.raiseCause .remoteTrip category (remoteIndex address category) else s

/-- An active request of one category that is not reported has its condition end (R116). -/
def State.requestEnd (s : State) (address : Nat) (category : Category) (was wanted : Bool) : State :=
  if was ∧ ¬ wanted then s.endCause .remoteTrip (remoteIndex address category) else s

/-- The fields a STATUS reports are recorded (R114, R118). -/
def recordStatus (count : Nat) (b0 b1 : Byte) (r : StationRec) : StationRec :=
  { r with
    sheaves := recordSheaves count r.sheaves (reportedSheaves b0)
    reqService := decide (reportedRequest b1 = 1), reqFast := decide (2 ≤ reportedRequest b1)
    hook := if b1.toNat / 32 % 2 = 1 then .offHook else .onHook
    fault := decide (b1.toNat / 16 % 2 = 1) }

/-- A change of the recorded station fault is journalled (R118). -/
def State.faultChange (s : State) (address : Nat) (was now : Bool) : State :=
  if was = now then s
  else s.journal .stationState .stn 0
    [byteOf address, byteOf (if now then StationEvent.faultSet.code else StationEvent.faultCleared.code)]

/-- A STATUS of a station addressed to 0 or 15 is taken; from an EXCLUDED station it is recorded only. The reported
request is raised before another one ends, as R116 lists the two (R114 to R116, R118). The sheaves are taken from sheave
1 up, and of two requests that end SERVICE ends first (log 8). -/
def State.takeStatus (s : State) (address : Nat) (b0 b1 : Byte) : State :=
  let old := s.stationRec address
  let count := s.sst.active.line.sheaveCount address
  if ¬ s.present address then s
  else
    let s1 := s.updStation address (recordStatus count b0 b1)
    if old.state = .excluded then s1
    else
      let reports := (List.range 4).zip (reportedSheaves b0)
      let s2 := (reports.take count).foldl (fun t p => t.sheaveFollow address p.1 p.2) s1
      let service := decide (reportedRequest b1 = 1)
      let fast := decide (2 ≤ reportedRequest b1)
      let s3 := (s2.requestRaise address .service old.reqService service).requestRaise address .fast old.reqFast fast
      let s4 := (s3.requestEnd address .service old.reqService service).requestEnd address .fast old.reqFast fast
      s4.faultChange address old.fault (decide (b1.toNat / 16 % 2 = 1))

/-- A TRIP adds its request to the station's set (R116). -/
def State.addRequest (s : State) (address : Nat) (category : Category) : State :=
  let old := s.stationRec address
  if category = .fast then
    (s.updStation address fun r => { r with reqFast := true }).requestRaise address .fast old.reqFast true
  else
    (s.updStation address fun r => { r with reqService := true }).requestRaise address .service old.reqService true

/-- A TRIP of a station addressed to 0 or 15 is taken (R114, R116). -/
def State.takeTrip (s : State) (address : Nat) (b0 b1 : Byte) : State :=
  let category : Category := if b0 = 1 then .service else .fast
  if ¬ s.present address then s
  else
    (s.when (decide ((s.stationRec address).state ≠ .excluded)) (·.addRequest address category)).journal
      .stationState .stn 0
      [byteOf address, byteOf StationEvent.tripReceived.code, byteOf category.code, b1]

/-! ## Exclusion (R120 to R122) -/

/-- The conditions of every cause a station holds end (R120, R123), its sheaves from sheave 1 up and SERVICE before FAST
(log 8). -/
def State.endStationCauses (s : State) (address : Nat) : State :=
  let s1 := s.updStation address fun r => { r with sheaveActive := List.replicate 4 false }
  let s2 := s1.endCause .stationSilent address
  let s3 := [0, 1, 2, 3].foldl (fun t i => t.endCause .rpdRemote (sheaveIndex address i)) s2
  (s3.endCause .remoteTrip (remoteIndex address .service)).endCause .remoteTrip (remoteIndex address .fast)

/-- A station's reported fields are cleared (R121, R123). -/
def clearReports (r : StationRec) : StationRec :=
  { r with sheaves := List.replicate 4 .unreported, reqService := false, reqFast := false, hook := .unreported
           fault := false }

/-- A station address of an order is in range. -/
def addressOk (a : Nat) : Bool := decide (1 ≤ a) && decide (a ≤ 13)

/-- EXCLUDE_STATION (R120, R122). -/
def State.excludeStation (s : State) (address : Nat) : State × OrderResult :=
  if ¬ addressOk address ∨ ¬ s.present address then (s, refusal .badArg)
  else if ¬ s.pins.setupKey then (s, refusal .keyRequired)
  else if ¬ (s.msv.state = .standby ∨ s.msv.state = .held) then (s, refusal .wrongState)
  else if (s.stationRec address).state = .excluded then (s, resultOk)
  else
    (((s.setStation address .excluded .excludeStation).endStationCauses address).when
      (decide (s.excludedCount = 0)) (·.raiseCause .exclusionActive .limit 0), resultOk)

/-- The condition of EXCLUSION_ACTIVE ends when no station is EXCLUDED any more (R122). -/
def State.exclusionFollow (s : State) : State :=
  if s.excludedCount = 0 then s.endCause .exclusionActive 0 else s

/-- INCLUDE_STATION (R121, R122). -/
def State.includeStation (s : State) (address : Nat) : State × OrderResult :=
  if ¬ addressOk address then (s, refusal .badArg)
  else if ¬ s.pins.setupKey then (s, refusal .keyRequired)
  else if (s.stationRec address).state ≠ .excluded then (s, resultOk)
  else
    (((s.setStation address .unheard .includeStation).updStation address clearReports).exclusionFollow, resultOk)

/-! ## A new line plan (R123) -/

/-- The line plan's entry of an address is shown in its record (log 6). -/
def State.markPlanned (s : State) (address : Nat) : State :=
  s.updHeld fun h => { h with planned := h.planned.set address true }

/-- A station that was absent and is present now. -/
def State.stationAppears (s : State) (address : Nat) : State :=
  let t := s.silencePeriod address .unheard
  (s.updStation address fun r => { clearReports r with unexpected := false, timer := t }).markPlanned address

/-- A station that was present and is absent now: its state, and the calls it was in (R134), then the ends of its
conditions (R123; log 8). -/
def State.stationVanishes (s : State) (address : Nat) : State :=
  let s1 := if (s.stationRec address).state = .unheard then
      s.updStation address fun r => { r with timer := none }
    else s.setStation address .unheard .adoption
  ((s1.stationUnavailable address).endStationCauses address).updStation address fun r =>
    { clearReports r with unexpected := false }

/-- The sheaves a smaller sheave count no longer supervises, the lowest first (R123; log 8). -/
def State.dropSheaves (s : State) (address oldCount newCount : Nat) : State :=
  ((List.range 4).filter fun i => decide (newCount ≤ i) && decide (i < oldCount)).foldl (fun t i =>
    (t.updStation address fun r =>
      { r with sheaves := r.sheaves.set i .unreported, sheaveActive := r.sheaveActive.set i false }).endCause
        .rpdRemote (sheaveIndex address i)) s

/-- A station that stays present: a smaller sheave count, and a change of supervision while SILENT. -/
def State.stationStays (s : State) (old : LinePlan) (address : Nat) : State :=
  let new := s.sst.active.line
  let s1 := s.dropSheaves address (old.sheaveCount address) (new.sheaveCount address)
  if (s.stationRec address).state = .silent then
    if new.supervised address ∧ ¬ old.supervised address then s1.raiseCause .stationSilent .fast address
    else if old.supervised address ∧ ¬ new.supervised address then s1.endCause .stationSilent address
    else s1
  else s1

/-- One record at a new line plan; that of a station absent before and now stays as it is (R110, R123). -/
def State.stationPlan (s : State) (old : LinePlan) (address : Nat) : State :=
  match (old.station address).isSome, s.present address with
  | false, true => s.stationAppears address
  | true, false => s.stationVanishes address
  | true, true => s.stationStays old address
  | false, false => s

/-- The station table takes the active line plan in place of an old one (R123, R122): the stations in address order, and
the end of EXCLUSION_ACTIVE after all of them (log 8). -/
def State.stationsUpdate (s : State) (old : LinePlan) : State :=
  (stationAddresses.foldl (fun t a => t.stationPlan old a) s).when (decide (s.excludedCount ≠ 0)) (·.exclusionFollow)

end Sys2Proof.Machine
end

