-- ==== Sys2Proof/Machine/LineUnit.lean ====
section
/-! DEFINITION. The line controller: line states, attempts and their outcomes, reception, breaks, periodic frames,
notes, and the timers of calls (R90 to R108, R133, R135, R136, R141). -/

namespace Sys2Proof.Machine

open Sys2Proof

/-! ## Line states (R90, R91) -/

/-- The line controller enters GAP, IDLE or BREAK, where a new bit rate takes effect (R90, R91). -/
def State.enterLine (s : State) (state : LineState) (recessive dominant : Nat) : State :=
  s.updLnc fun l =>
    { l with state := state, bitRate := s.sst.active.line.bitRate
             recessive := if l.bitRate = s.sst.active.line.bitRate then recessive else 0
             dominantRun := if l.bitRate = s.sst.active.line.bitRate then dominant else 0 }

/-- Reception ends, with its end field or by being given up (R91; log 12). -/
def State.endReception (s : State) : State :=
  if s.lnc.state = .receiving then s.enterLine .gap 0 0 else s

/-! ## Outcomes (R96, R99, R102, R103) -/

/-- The queued frame of a name. -/
def State.queued (s : State) (fid : Nat) : Option TxFrame := s.lnc.queue.find? (·.fid = fid)

/-- A periodic frame at the end of an attempt: renewed, it stays with its mark cleared; otherwise it is removed
(R103). That of a cut attempt is looked at when the attempt is counted, so a renewal up to then keeps it (log 13). -/
def State.periodicEnd (s : State) (f : TxFrame) : State :=
  if f.renewed then
    s.updLnc fun l =>
      { l with queue := l.queue.map fun g => if g.fid = f.fid then { g with renewed := false } else g }
  else s.unqueue f.fid

/-- A frame is dropped as undelivered after its retries (R102, R105, R119, R136). -/
def State.dropUndelivered (s : State) (f : TxFrame) : State :=
  let s1 := (s.unqueue f.fid).when (addressOk f.dest) (·.updStation f.dest fun r =>
    { r with undelivered := r.undelivered + 1 })
  let s2 := s1.journal .lineUndelivered .lnc 0 [byteOf f.kind.code, byteOf f.dest, byteOf (f.retry + 1), 1]
  let s3 := s2.pairUndelivered f.kind
  match f.context with
  | none => s3
  | some k => s3.completeOrder k (refusal .undelivered)

/-- A counted attempt has failed, with the retry limit at its end (R102; log 13). -/
def State.attemptFailed (s : State) (f : TxFrame) (limit : Nat) : State :=
  if f.kind.periodic then s.periodicEnd f
  else if f.retry < limit then
    s.updLnc fun l =>
      { l with queue := l.queue.map fun g => if g.fid = f.fid then { g with retry := g.retry + 1 } else g }
  else s.dropUndelivered f

/-- An attempt is delivered (R96, R103, R105). -/
def State.attemptDelivered (s : State) (f : TxFrame) : State :=
  let s1 := s.updLnc fun l => { l with sent := l.sent + 1 }
  let s2 := if f.kind.periodic then s1.periodicEnd f else s1.unqueue f.fid
  match f.context with
  | none => s2
  | some k => s2.completeOrder k resultOk

/-- The recessive count reaches 11 in GAP: the line is IDLE, and a cut attempt is counted (R91, R99). -/
def State.idleGap (s : State) : State :=
  if s.lnc.state = .gap then
    let s1 := (s.enterLine .idle 11 0).updLnc fun l => { l with cut := none }
    match s.lnc.cut.bind s.queued with
    | none => s1
    | some f => s1.attemptFailed f s.lnc.cutLimit
  else s

/-- A dominant edge on the line that the part does not drive (R91). Restarting the count of GAP is no entry into GAP, at
which a new bit rate would take effect (R90; log 12). -/
def State.startBit (s : State) (recessive : Nat) : State :=
  match s.lnc.state with
  | .idle => s.updLnc fun l => { l with state := .receiving }
  | .gap =>
    if 10 ≤ recessive then s.updLnc fun l => { l with state := .receiving }
    else s.updLnc fun l => { l with recessive := 0 }
  | _ => s

/-- The payload of a frame in an attempt; that of a periodic kind is formed from the values of the moment (R103,
R193). -/
def State.payloadOf (s : State) (f : TxFrame) : List Byte :=
  match f.kind with
  | .status =>
    byteOf s.msv.state.code :: (be16 s.msv.ceiling ++ be16 s.rpm.v ++ [byteOf (flagNat s.msv.chainOut)])
  | .time => be32 s.sst.clock.seconds.toNat ++ [byteOf (flagNat s.sst.clock.valid)]
  | _ => f.payload

/-- The part starts an attempt of the front frame (R95, R103). -/
def State.transmit (s : State) : State :=
  if s.lnc.state = .idle then
    match s.lnc.queue with
    | [] => s
    | f :: rest =>
      s.updLnc fun l =>
        { l with state := .transmitting, attempts := l.attempts + 1
                 attempt := some ⟨f.fid, f.kind, f.dest, s.payloadOf f⟩
                 queue := { f with renewed := false } :: rest }
  else s

/-- The arbitration is lost (R95). -/
def State.loseArbitration (s : State) : State :=
  if s.lnc.state = .transmitting then
    s.updLnc fun l => { l with state := .receiving, attempt := none, arbLoss := l.arbLoss + 1 }
  else s

/-- A bit error cuts the attempt, which ends there with the retry limit of the moment (R95, R99, R102). -/
def State.bitErrorCut (s : State) : State :=
  if s.lnc.state = .transmitting then
    (s.updLnc fun l =>
      { l with bitErrors := l.bitErrors + 1, cut := l.attempt.map (·.fid), attempt := none
               cutLimit := s.sst.active.line.retryLimit }).enterLine .gap 0 0
  else s

/-- The ACK slot decides the attempt, and after its end field the line is in GAP (R91, R96; log 12). -/
def State.ackOutcome (s : State) (acknowledged : Bool) : State :=
  if s.lnc.state = .transmitting then
    let s1 := (s.updLnc fun l => { l with attempt := none }).enterLine .gap 0 0
    match (s.lnc.attempt.map (·.fid)).bind s.queued with
    | none => s1
    | some f => if acknowledged then s1.attemptDelivered f else s1.attemptFailed f s.sst.active.line.retryLimit
  else s

/-! ## Reception (R97, R98, R106) -/

/-- A receive error is counted for its sender, if it is a station, and otherwise unattributed (R97, R119). -/
def State.countReceiveError (s : State) (sender : Option Nat) : State :=
  match sender with
  | some a =>
    if addressOk a then s.updStation a fun r => { r with crcErrors := r.crcErrors + 1 }
    else s.updLnc fun l => { l with unattributed := l.unattributed + 1 }
  | none => s.updLnc fun l => { l with unattributed := l.unattributed + 1 }

/-- A receive error ends the reception (R97). -/
def State.receiveError (s : State) (sender : Option Nat) : State := (s.countReceiveError sender).endReception

/-- A frame is addressed to the part or to all (R97). -/
def frameForUs (f : RxFrame) : Bool := decide (f.dest = 0) || decide (f.dest = 15)

/-- Reception of a frame as the bits gave it: checked for length and sender, ignored when addressed to 14, counted,
and handed to the station table (R97, R98). `report` tells that its kind and length make it a STATUS. -/
def State.receive (s : State) (f : RxFrame) (report : Bool) (contents : State → State) : State :=
  if 16 < f.payload.length ∨ ¬ addressOk f.sender then s.receiveError (some f.sender)
  else if f.dest = 14 then s.endReception
  else
    (((s.updLnc fun l => { l with received := l.received + 1 }).stationFrame f.sender
      (report && frameForUs f)).when (frameForUs f) contents).endReception

/-- A STATUS is received (R114). -/
def State.receiveStatus (s : State) (f : RxFrame) : State :=
  match f.payload with
  | b0 :: b1 :: _ :: _ => s.receive f true (·.takeStatus f.sender b0 b1)
  | _ => s.receive f false id

/-- A TRIP is received (R116). -/
def State.receiveTrip (s : State) (f : RxFrame) : State :=
  match f.payload with
  | b0 :: b1 :: _ => s.receive f false (·.takeTrip f.sender b0 b1)
  | _ => s.receive f false id

/-- A NOTE is received (R106). -/
def State.receiveNote (s : State) (f : RxFrame) : State :=
  match f.payload with
  | b0 :: b1 :: text =>
    s.receive f false fun t =>
      if text.length ≤ 12 then
        t.journal .noteReceived .lnc 0 ([byteOf f.sender, b1, b0, byteOf text.length] ++ text)
      else t
  | _ => s.receive f false id

/-- A PAIR_REQ is received (R127). -/
def State.receivePairReq (s : State) (f : RxFrame) : State :=
  match f.payload with
  | b0 :: b1 :: _ => s.receive f false (·.pairRequest f.sender b0.toNat (decide (b1 = 1)))
  | _ => s.receive f false id

/-- A HOOK is received (R131; log 27). -/
def State.receiveHook (s : State) (f : RxFrame) : State :=
  match f.payload with
  | b0 :: b1 :: _ => s.receive f false (·.hookFrame f.sender b0.toNat (decide (b1 = 1)))
  | _ => s.receive f false id

/-! ## Breaks (R99, R113, R135) -/

/-- The call unit is told that a break has begun (R135). -/
def State.callsBreakBegin (s : State) : State := s.updCal fun c => { c with breakMark := true }

/-- The call unit is told that the break has ended: one frame states the pair state (R135). The re-announce mark is
cleared before that frame is asked for, so a frame that finds no place sets the mark again (R136; log 30). -/
def State.callsBreakEnd (s : State) : State :=
  (s.updCal fun c => { c with breakMark := false, reannounce := none }).announcePair

/-- The dominant run reaches 32 bit times (R99). While the line is in BREAK already, a further run is no event: no raise and
no count (log 12). -/
def State.beginBreak (s : State) (sender : Option Nat) : State :=
  if s.lnc.state = .inBreak then s
  else
    let s1 := (s.updLnc fun l =>
      { l with attempt := none, cut := none, breaks := l.breaks + 1 }).enterLine .inBreak 0 32
    let s2 := s1.raiseCause .lineBreak .fast 0
    ((s2.when (decide (s.lnc.state = .receiving)) (·.countReceiveError sender)).stationsBreakBegin).callsBreakBegin

/-- The line has been recessive for 11 bit times in BREAK (R99). -/
def State.endBreak (s : State) : State :=
  if s.lnc.state = .inBreak then
    (((s.enterLine .idle 11 0).endCause .lineBreak 0).stationsBreakEnd).callsBreakEnd
  else s

/-! ## Periodic frames (R103) and notes (R105) -/

/-- A status period begins (R103). -/
def State.statusPeriod (s : State) : State :=
  (s.updLnc fun l => { l with statusTimer := s.now + s.sst.active.line.statusPeriod }).askPeriodic .status

/-- A time period of 60 s begins (R103). -/
def State.timePeriod (s : State) : State :=
  (s.updLnc fun l => { l with timeTimer := s.now + 60000 }).askPeriodic .time

/-- Why a SEND_NOTE is refused, if it is (R105). -/
def State.noteRefusal (s : State) (dest : Nat) (text : List Byte) : Option ResultCode :=
  if dest = 0 ∨ dest = 14 ∨ 15 < dest ∨ 12 < text.length then some .badArg
  else if dest ≠ 15 ∧ ¬ s.present dest then some .badArg
  else if ¬ ordinaryPlace s.lnc.queue then some .lineBusy
  else none

/-- An accepted SEND_NOTE (R105). -/
def State.startNote (s : State) (context dest : Nat) (code : Word) (text : List Byte) : State :=
  s.enqueue .note dest (be16 code.toNat ++ text) .obc (some context)

/-! ## Timers of calls (R133, R136, R141) -/

/-- A waiting call's wait timer expires (R133). -/
def State.waitExpires (s : State) (id : Nat) : State :=
  match s.cal.find id with
  | none => s
  | some r => if r.state = .waiting ∧ r.waitTimer.isSome then s.endCall id .notConnected false else s

/-- A ringing call's ring timer expires (R133). -/
def State.ringExpires (s : State) (id : Nat) : State :=
  match s.cal.find id with
  | none => s
  | some r => if r.state = .ringing ∧ r.ringTimer.isSome then s.endCall id .noAnswer false else s

/-- The re-announce timer expires (R136). -/
def State.reannounceExpires (s : State) : State :=
  if s.cal.reannounce.isSome then (s.updCal fun c => { c with reannounce := none }).announcePair else s

/-- The remaining times of the call view are brought up to date (R141; log 22). -/
def State.callSeconds (s : State) : State :=
  s.updCal fun c =>
    { c with table := c.table.map fun r =>
        { r with shownWait := s.remaining r.waitTimer / 1000, shownRing := s.remaining r.ringTimer / 1000 } }

end Sys2Proof.Machine
end

