-- ==== Sys2Proof/Machine/Rope.lean ====
section
/-! DEFINITION. The rope monitor: pulses, the rope window end, tachometer supervision, standstill, tension and
the local loops (R51 to R69). -/

namespace Sys2Proof.Machine

open Sys2Proof

/-- A rising edge of a tachometer (R52). -/
def State.pulse (s : State) (t : Tach) : State :=
  match t with
  | .a => s.updRpm fun r => { r with nA := satInc 4095 r.nA }
  | .b => s.updRpm fun r => { r with nB := satInc 4095 r.nB }

/-- The speed of a tachometer in a window, clamped to 999 cm/s (R53). -/
def tachSpeed (n travel : Nat) : Nat := min 999 (n * travel / 1000)

/-- The time base moves to the end of the running window (log 2). -/
def State.windowTime (s : State) : State :=
  { s with now := max s.now (s.rpm.windowStart + 100) }

/-- Counts, speeds and travel of the closing window; the counts restart at 0 (R51 to R54). -/
def closeWindow (p : RopePlan) (now : Nat) (r : Rpm) : Rpm :=
  { r with
    nA := 0, nB := 0, windowStart := now, lastA := r.nA, lastB := r.nB
    satA := decide (r.nA = 4095), satB := decide (r.nB = 4095)
    vA := tachSpeed r.nA p.tA, vB := tachSpeed r.nB p.tB
    v := max (tachSpeed r.nA p.tA) (tachSpeed r.nB p.tB)
    dWin := max (r.nA * p.tA) (r.nB * p.tB) }

/-- The rope distance advances by the window travel, with the remainder kept (R55). -/
def advanceDistance (r : Rpm) : Rpm :=
  { r with dist := r.dist + BitVec.ofNat 32 ((r.rem + r.dWin) / 1000), rem := (r.rem + r.dWin) % 1000 }

/-- The disagreement limit D (R56). -/
def disagreeLimit (p : RopePlan) (r : Rpm) : Nat := max 10 (max r.vA r.vB * p.tol / 100)

/-- The window disagrees (R56). -/
def windowDisagrees (p : RopePlan) (r : Rpm) : Bool :=
  decide (disagreeLimit p r < max r.vA r.vB - min r.vA r.vB)

/-- The two counts of R56. -/
def countDisagree (p : RopePlan) (r : Rpm) : Rpm :=
  if windowDisagrees p r then { r with disagreeCount := satInc 10 r.disagreeCount, agreeCount := 0 }
  else { r with agreeCount := satInc 10 r.agreeCount, disagreeCount := 0 }

/-- The disagreement state follows the counts (R57). -/
def State.tachoFollow (s : State) : State :=
  if s.rpm.disagreeing then
    (if s.rpm.agreeCount = 10 then
      (s.updRpm fun r => { r with disagreeing := false }).endCause .tachoDisagree 0
     else s)
  else if 3 ≤ s.rpm.disagreeCount then
    (s.updRpm fun r => { r with disagreeing := true }).raiseCause .tachoDisagree .service 0
  else s

/-- STANDSTILL takes a value; a change is journalled with the rope distance (R58). -/
def State.setStandstill (s : State) (value : Bool) : State :=
  if s.rpm.standstill = value then s
  else
    (s.updRpm fun r => { r with standstill := value }).journal .stateChange .rpm 0
      ([byteOf (flagNat s.rpm.standstill), byteOf (flagNat value)] ++ le32 s.rpm.dist.toNat)

/-- The zero-window count and STANDSTILL (R58). -/
def State.standstillCount (s : State) : State :=
  if s.rpm.v = 0 then
    let n := satInc 10 s.rpm.zeroCount
    (s.updRpm fun r => { r with zeroCount := n }).setStandstill (decide (n = 10) || s.rpm.standstill)
  else (s.updRpm fun r => { r with zeroCount := 0 }).setStandstill false

/-! ## Tension (R62 to R66) -/

/-- A sample is good (R62). -/
def sampleGood (c : Nat) : Bool := decide (40 ≤ c) && decide (c ≤ 4055)

/-- A condition of one side follows whether the position is outside on that side: raised as it begins, ended as it
ends (R64, R65). -/
def State.sideFollow (s : State) (code : CauseCode) (category : Category) (index : Nat) (held outside : Bool) :
    State :=
  if outside ∧ ¬ held then s.raiseCause code category index
  else if held ∧ ¬ outside then s.endCause code index
  else s

/-- The threshold tests of a good sample, in the order WARN low, WARN high, TRIP low, TRIP high (R64, R65; log 8). -/
def State.thresholds (s : State) (p : Nat) : State :=
  let plan := s.sst.active.rope
  let r := s.rpm
  let s1 := s.updRpm fun x =>
    { x with warnLow := decide (p < plan.warnLow), warnHigh := decide (plan.warnHigh < p)
             tripLow := decide (p < plan.tripLow), tripHigh := decide (plan.tripHigh < p) }
  (((s1.sideFollow .tensionWarn .limit 0 r.warnLow (decide (p < plan.warnLow))).sideFollow .tensionWarn .limit 1
    r.warnHigh (decide (plan.warnHigh < p))).sideFollow .tensionTrip .fast 0 r.tripLow
      (decide (p < plan.tripLow))).sideFollow .tensionTrip .fast 1 r.tripHigh (decide (plan.tripHigh < p))

/-- The tension sample of a window end (R62, R63). At a good one TENSION_SENSOR ends before the sides are followed
(log 8). -/
def State.tensionSample (s : State) (c : Nat) : State :=
  let old := s.rpm.sensor
  if sampleGood c then
    let p := c * s.sst.active.rope.span / 4095
    let s1 := s.updRpm fun r => { r with tensionC := c, tensionP := some p, sensor := .good }
    (s1.when (decide (old = .faulty)) (·.endCause .tensionSensor 0)).thresholds p
  else
    let s1 := s.updRpm fun r => { r with tensionC := c, sensor := .faulty }
    s1.when (decide (old ≠ .faulty)) (·.raiseCause .tensionSensor .service 0)

/-- The rope window end (R51). -/
def State.ropeWindow (s : State) (tension : Nat) : State :=
  let s1 := s.windowTime
  let s2 := s1.updRpm fun r =>
    countDisagree s.sst.active.rope (advanceDistance (Machine.closeWindow s.sst.active.rope s1.now r))
  (s2.tachoFollow.standstillCount).tensionSample tension

/-! ## Local loops (R67 to R69) -/

/-- A loop takes a state and a timer. -/
def State.setLoop (s : State) (l : RopeLoop) (u : LoopUnit) : State :=
  s.updRpm fun r => { r with loops := r.loops.set l u }

/-- A loop input changes level (R67). -/
def State.loopInput (s : State) (l : RopeLoop) (closed : Bool) : State :=
  if s.pins.loops.get l = closed then s
  else
    let s1 := s.updPins fun p => { p with loops := p.loops.set l closed }
    match (s.rpm.loops.get l).state, closed with
    | .closed, false => s1.setLoop l ⟨.openPending, some (s.now + 20)⟩
    | .openPending, true => s1.setLoop l ⟨.closed, none⟩
    | .opened, true => s1.setLoop l ⟨.closePending, some (s.now + 20)⟩
    | .closePending, false => s1.setLoop l ⟨.opened, none⟩
    | _, _ => s1

/-- A loop's 20 ms timer expires (R67, R68). -/
def State.loopExpiry (s : State) (l : RopeLoop) : State :=
  match (s.rpm.loops.get l).state with
  | .openPending => (s.setLoop l ⟨.opened, none⟩).raiseCause .rpdLocal .fast (loopCode l)
  | .closePending => (s.setLoop l ⟨.closed, none⟩).endCause .rpdLocal (loopCode l)
  | _ => s

/-- The state a loop takes from its input level as a reset ends (R69). -/
def loopAtReset (now : Nat) (closed : Bool) : LoopUnit :=
  if closed then ⟨.closed, none⟩ else ⟨.openPending, some (now + 20)⟩

end Sys2Proof.Machine
end

