-- ==== Sys2Proof/Machine/Setup.lean ====
section
/-! DEFINITION. The setup store: reading a pending table, validation and clamping, adoption, locks, stored sets and
the terminal clock (R177 to R185, R192). -/

namespace Sys2Proof.Machine

open Sys2Proof

/-! ## The pending copies (R177, R192) -/

/-- The offset of the pending tables region. -/
def pendingBase : Nat := 0x4C00

/-- The offset of a table in the active and pending regions (R192). -/
def tableOffset : Nat → Nat
  | 0 => 0x000 | 1 => 0x040 | 2 => 0x080 | 3 => 0x0C0 | 4 => 0x100 | _ => 0x200

/-- A 1-byte field of the pending region. -/
def pend8 (m : List Host.Cell) (table field : Nat) : Nat :=
  (memRead m (pendingBase + tableOffset table + field)).toNat

/-- A 2-byte field of the pending region. -/
def pend16 (m : List Host.Cell) (table field : Nat) : Nat := memRead16 m (pendingBase + tableOffset table + field)

/-- The pending zone plan. -/
def pendingZone (m : List Host.Cell) : ZonePlan :=
  { len := (List.range 6).map fun k => pend16 m 0 (4 * k)
    ratio := (List.range 6).map fun k => pend16 m 0 (4 * k + 2)
    launchSpacing := pend16 m 0 24, arrivalMin := pend16 m 0 26, departPct := pend8 m 0 28
    queueLimit := pend8 m 0 29, launchMin := pend16 m 0 30, gateClosePct := pend8 m 0 32
    proofWait := pend16 m 0 33 }

/-- One channel's row of the pending door plan. -/
def pendingChannel (m : List Host.Cell) (c : Nat) : ChannelPlan :=
  ⟨pend16 m 1 (8 * c), pend16 m 1 (8 * c + 2), pend16 m 1 (8 * c + 4), pend8 m 1 (8 * c + 6),
   pend8 m 1 (8 * c + 7)⟩

/-- The pending door plan. -/
def pendingDoor (m : List Host.Cell) : DoorPlan :=
  ⟨⟨pendingChannel m 0, pendingChannel m 1, pendingChannel m 2, pendingChannel m 3⟩⟩

/-- The pending rope plan. -/
def pendingRope (m : List Host.Cell) : RopePlan :=
  { tA := pend16 m 2 0, tB := pend16 m 2 2, tol := pend8 m 2 4, designMax := pend16 m 2 5
    aService := pend16 m 2 7, aFast := pend16 m 2 9, accel := pend8 m 2 11, span := pend16 m 2 12
    tripLow := pend16 m 2 14, warnLow := pend16 m 2 16, warnHigh := pend16 m 2 18, tripHigh := pend16 m 2 20
    fFail := pend16 m 2 22, fWarn := pend16 m 2 24, fHigh := pend16 m 2 26 }

/-- The pending ceiling table. -/
def pendingCeiling (m : List Host.Cell) : CeilingTable :=
  ⟨pend16 m 3 0, pend16 m 3 2, pend16 m 3 4, pend16 m 3 6⟩

/-- One station entry of the pending line plan. -/
def pendingStation (m : List Host.Cell) (i : Nat) : StationEntry :=
  ⟨pend8 m 4 (9 + 5 * i), pend8 m 4 (10 + 5 * i), pend8 m 4 (11 + 5 * i), pend16 m 4 (12 + 5 * i)⟩

/-- The pending line plan; a flag byte is read in its bit 0 (log 15). -/
def pendingLine (m : List Host.Cell) : LinePlan :=
  { bitRate := pend8 m 4 0, retryLimit := pend8 m 4 1, statusPeriod := pend16 m 4 2, ringTimeout := pend8 m 4 4
    waitTimeout := pend16 m 4 5, tripCallEnable := decide (pend8 m 4 7 % 2 = 1), entryCount := pend8 m 4 8
    stations := (List.range (min 13 (pend8 m 4 8))).map (pendingStation m) }

/-- The pending cabin registry. -/
def pendingRegistry (m : List Host.Cell) : List RegEntry :=
  (List.range 96).map fun i => ⟨decide (pend8 m 5 (3 * i) % 2 = 1), BitVec.ofNat 16 (pend16 m 5 (3 * i + 1))⟩

/-- The pending copy of one table in the place of the active one. -/
def withPending (m : List Host.Cell) (t : Tables) : Nat → Tables
  | 0 => { t with zone := pendingZone m }
  | 1 => { t with door := pendingDoor m }
  | 2 => { t with rope := pendingRope m }
  | 3 => { t with ceiling := pendingCeiling m }
  | 4 => { t with line := pendingLine m }
  | _ => { t with registry := pendingRegistry m }

/-! ## Validation (R178) -/

/-- What validation finds wrong with a field: a timing value out of range, which adoption clamps, or a fault. -/
inductive Finding where
  | timing | structural | duplicate
  deriving DecidableEq, Repr

/-- A structural finding unless a value is right. -/
def mustHold (index : Nat) (ok : Bool) : List (Nat × Finding) := if ok then [] else [(index, .structural)]

/-- A structural finding for a value outside a range. -/
def inRange (index lo hi v : Nat) : List (Nat × Finding) := mustHold index (decide (lo ≤ v) && decide (v ≤ hi))

/-- A timing finding for a value outside a range. -/
def timed (index lo hi v : Nat) : List (Nat × Finding) :=
  if decide (lo ≤ v) && decide (v ≤ hi) then [] else [(index, .timing)]

/-- A value clamped to a range. -/
def clamp (lo hi v : Nat) : Nat := min hi (max lo v)

/-- The findings of a zone plan; L_3 and r_3 are not validated. -/
def ZonePlan.findings (p : ZonePlan) : List (Nat × Finding) :=
  (List.range 6).flatMap (fun k =>
    if k = 3 then []
    else inRange (2 * k) 50 5000 ((p.len[k]?).getD 0) ++ inRange (2 * k + 1) 1 1000 ((p.ratio[k]?).getD 0)) ++
  inRange 12 500 50000 p.launchSpacing ++ inRange 13 500 50000 p.arrivalMin ++ inRange 14 50 100 p.departPct ++
  inRange 15 1 6 p.queueLimit ++ inRange 16 20 200 p.launchMin ++ inRange 17 50 95 p.gateClosePct ++
  timed 18 1000 20000 p.proofWait

/-- The findings of one channel of a door plan, its first field having an index. -/
def ChannelPlan.findings (p : ChannelPlan) (index : Nat) : List (Nat × Finding) :=
  timed index 200 5000 p.openTime ++ timed (index + 1) 200 5000 p.closeTime ++
  timed (index + 2) 200 5000 p.reverseTime ++ inRange (index + 3) 0 5 p.recloseLimit ++
  inRange (index + 4) 0 3 p.powerUpMode

/-- The findings of a door plan. -/
def DoorPlan.findings (p : DoorPlan) : List (Nat × Finding) :=
  p.channels.d0.findings 0 ++ p.channels.d1.findings 5 ++ p.channels.d2.findings 10 ++ p.channels.d3.findings 15

/-- The findings of a rope plan; a fault between two fields is found at the later one (log 15). -/
def RopePlan.findings (p : RopePlan) : List (Nat × Finding) :=
  inRange 0 100 20000 p.tA ++ inRange 1 100 20000 p.tB ++ inRange 2 1 25 p.tol ++ inRange 3 100 800 p.designMax ++
  inRange 4 10 200 p.aService ++ inRange 5 20 400 p.aFast ++ inRange 6 5 100 p.accel ++
  inRange 7 100 20000 p.span ++ inRange 8 0 20000 p.tripLow ++
  mustHold 9 (decide (p.warnLow ≤ 20000) && decide (p.tripLow < p.warnLow)) ++
  mustHold 10 (decide (p.warnHigh ≤ 20000) && decide (p.warnLow < p.warnHigh)) ++
  mustHold 11 (decide (p.tripHigh ≤ 20000) && decide (p.warnHigh < p.tripHigh) && decide (p.tripHigh ≤ p.span)) ++
  inRange 12 20 1023 p.fFail ++
  mustHold 13 (decide (20 ≤ p.fWarn) && decide (p.fWarn ≤ 1023) && decide (p.fFail < p.fWarn)) ++
  mustHold 14 (decide (20 ≤ p.fHigh) && decide (p.fHigh ≤ 1023) && decide (p.fWarn ≤ p.fHigh))

/-- The findings of a ceiling table. -/
def CeilingTable.findings (t : CeilingTable) : List (Nat × Finding) :=
  inRange 0 0 999 t.tagReaderCap ++ inRange 1 0 999 t.tensionWarnCap ++ inRange 2 0 999 t.bypassCap ++
  inRange 3 0 999 t.defaultCeiling

/-- The status period after its clamp. -/
def LinePlan.clampedPeriod (p : LinePlan) : Nat := clamp 200 2000 p.statusPeriod

/-- A silence timeout after its clamp and its raise to 3 × the status period. -/
def LinePlan.fixedSilence (p : LinePlan) (v : Nat) : Nat := max (clamp 400 12000 v) (3 * p.clampedPeriod)

/-- The findings of the station entries of a line plan, from an index on, `seen` being the addresses before. -/
def LinePlan.stationFindings (p : LinePlan) : Nat → List Nat → List StationEntry → List (Nat × Finding)
  | _, _, [] => []
  | index, seen, e :: rest =>
    mustHold index (addressOk e.address && !seen.contains e.address) ++ inRange (index + 1) 0 1 e.kind ++
    inRange (index + 2) 0 4 e.sheaves ++
    (if p.fixedSilence e.silence = e.silence then [] else [(index + 3, .timing)]) ++
    LinePlan.stationFindings p (index + 4) (e.address :: seen) rest

/-- The findings of a line plan. -/
def LinePlan.findings (p : LinePlan) : List (Nat × Finding) :=
  inRange 0 0 2 p.bitRate ++ inRange 1 0 7 p.retryLimit ++ timed 2 200 2000 p.statusPeriod ++
  timed 3 10 60 p.ringTimeout ++ timed 4 30 300 p.waitTimeout ++ inRange 6 0 13 p.entryCount ++
  p.stationFindings 7 [] p.stations

/-- The findings of a cabin registry: a registered tag that an earlier cabin has; the field index is the cabin
number (R192). -/
def registryFindings : Nat → List Word → List RegEntry → List (Nat × Finding)
  | _, _, [] => []
  | cabin, seen, r :: rest =>
    (if r.registered ∧ seen.contains r.tag then [(cabin, .duplicate)] else []) ++
    registryFindings (cabin + 1) (if r.registered then r.tag :: seen else seen) rest

/-- The findings of one of the six tables, in the order of the field indices. -/
def Tables.findings (t : Tables) : Nat → List (Nat × Finding)
  | 0 => t.zone.findings
  | 1 => t.door.findings
  | 2 => t.rope.findings
  | 3 => t.ceiling.findings
  | 4 => t.line.findings
  | _ => registryFindings 1 [] t.registry

/-- The clamps of a door plan's channel. -/
def ChannelPlan.clamped (p : ChannelPlan) : ChannelPlan :=
  { p with openTime := clamp 200 5000 p.openTime, closeTime := clamp 200 5000 p.closeTime
           reverseTime := clamp 200 5000 p.reverseTime }

/-- The clamps of a line plan. -/
def LinePlan.clamped (p : LinePlan) : LinePlan :=
  { p with
    statusPeriod := p.clampedPeriod, ringTimeout := clamp 10 60 p.ringTimeout
    waitTimeout := clamp 30 300 p.waitTimeout
    stations := p.stations.map fun e => { e with silence := p.fixedSilence e.silence } }

/-- The clamps of one of the six tables. -/
def Tables.clamped (t : Tables) : Nat → Tables
  | 0 => { t with zone := { t.zone with proofWait := clamp 1000 20000 t.zone.proofWait } }
  | 1 =>
    { t with door := ⟨⟨t.door.channels.d0.clamped, t.door.channels.d1.clamped, t.door.channels.d2.clamped,
                       t.door.channels.d3.clamped⟩⟩ }
  | 4 => { t with line := t.line.clamped }
  | _ => t

/-- The first fault that keeps a copy from adoption (R178). -/
def firstFault (fs : List (Nat × Finding)) : Option (Nat × Finding) := fs.find? (·.2 ≠ .timing)

/-- The first failure of the six active tables, as table and field index (R178, R150). -/
def Tables.firstFailure (t : Tables) : Option (Nat × Nat) :=
  [0, 1, 2, 3, 4, 5].findSome? fun k => (t.findings k).head?.map fun f => (k, f.1)

/-! ## New active copies (R177, R179) -/

/-- The users of a table take its new copy: the supervisor recomputes its ceiling target, the station table and
the call unit follow a new line plan. The others read the active copy when they next need it. -/
def State.usersTake (s : State) (old : Tables) : Nat → State
  | 2 | 3 => s.recomputeCeiling
  | 4 => s.stationsUpdate old.line
  | _ => s

/-- The revision of a table. -/
def State.revision (s : State) (table : Nat) : Word := (s.sst.revisions[table]?).getD 0

/-- The lock of a table. -/
def State.lockOf (s : State) (table : Nat) : Lock := (s.sst.locks[table]?).getD .locked

/-- The validated copy becomes active (R179). -/
def State.adoptCopy (s : State) (table : Nat) (fs : List (Nat × Finding)) (copy : Tables) : State :=
  let s1 := s.updSst fun t =>
    { t with active := copy.clamped table, revisions := t.revisions.modify table (· + 1) }
  let first := (fs.head?.map fun f => byteOf f.1).getD Config.noClampIndex
  (s1.journal .tableAdopted .sst 0
    (byteOf table :: (le16 (s1.revision table).toNat ++ [byteOf fs.length, first]))).usersTake s.sst.active table

/-- ADOPT (R179). -/
def State.adopt (s : State) (table : Nat) : State × OrderResult :=
  let copy := withPending s.mem s.sst.active table
  let fs := copy.findings table
  if 5 < table then (s, refusal .badArg)
  else if s.lockOf table ≠ .unlocked then (s, refusal .locked)
  else if table ≠ 1 ∧ ¬ s.pins.setupKey then (s, refusal .keyRequired)
  else if table ≠ 1 ∧ ¬ (s.msv.state = .standby ∨ s.msv.state = .held) then (s, refusal .wrongState)
  else
    match firstFault fs with
    | some (i, .duplicate) => (s, ⟨false, .duplicateTag, [byteOf i]⟩)
    | some (i, _) => (s, ⟨false, .badArg, [byteOf i]⟩)
    | none =>
      (s.adoptCopy table fs copy,
       ⟨true, if fs.isEmpty then .ok else .clamped, le16 (s.revision table + 1).toNat⟩)

/-! ## Locks (R180) -/

/-- What UNLOCK makes of one lock. -/
def unlockOne (key : Bool) : Lock → Except ResultCode Lock
  | .tight => if key then .error .locked else .error .keyRequired
  | _ => if key then .ok .unlocked else .error .keyRequired

/-- What LOCK to a level makes of one lock. -/
def lockOne (level : Lock) : Lock → Except ResultCode Lock
  | .tight => if level = .tight then .ok .tight else .error .locked
  | _ => .ok level

/-- A change is made on one table's lock, or its refusal is given. -/
def State.changeLock (s : State) (f : Lock → Except ResultCode Lock) (table : Nat) : State × OrderResult :=
  match f (s.lockOf table) with
  | .ok l => (s.updSst fun t => { t with locks := t.locks.set table l }, resultOk)
  | .error c => (s, refusal c)

/-- A change is made on every table; the first refusal met is given, and the tables that took the change keep it. -/
def State.changeLocks (s : State) (f : Lock → Except ResultCode Lock) : State × OrderResult :=
  [0, 1, 2, 3, 4, 5].foldl (fun (p : State × OrderResult) k =>
    let q := p.1.changeLock f k
    (q.1, if p.2.done then q.2 else p.2)) (s, resultOk)

/-- UNLOCK of a table, or of ALL with 255 (R180, R190). -/
def State.unlock (s : State) (table : Nat) : State × OrderResult :=
  if table = 255 then s.changeLocks (unlockOne s.pins.setupKey)
  else if 5 < table then (s, refusal .badArg)
  else s.changeLock (unlockOne s.pins.setupKey) table

/-- LOCK of a table, or of ALL, to LOCKED or TIGHT (R180, R190). -/
def State.lock (s : State) (table level : Nat) : State × OrderResult :=
  if (table ≠ 255 ∧ 5 < table) ∨ ¬ (level = 1 ∨ level = 2) then (s, refusal .badArg)
  else
    let f := lockOne (if level = 2 then .tight else .locked)
    if table = 255 then s.changeLocks f else s.changeLock f table

/-- SETUP_KEY changes; becoming inactive, it locks every UNLOCKED table (R180). -/
def State.keyChange (s : State) (active : Bool) : State :=
  let s1 := s.updPins fun p => { p with setupKey := active }
  if active then s1
  else s1.updSst fun t => { t with locks := t.locks.map fun l => if l = .unlocked then .locked else l }

/-! ## Stored sets (R181 to R183) -/

/-- The contents of a stored set; set 0 is the factory set (R181). -/
def Sst.setTables (t : Sst) : Nat → Tables
  | 1 => t.set1.tables
  | 2 => t.set2.tables
  | _ => {}

/-- The CRC of a set passes; set 0 carries none. -/
def Sst.setOk (t : Sst) : Nat → Bool
  | 0 => true
  | 1 => t.set1.crcOk
  | 2 => t.set2.crcOk
  | _ => false

/-- Change a user set. -/
def Sst.updSet (t : Sst) (n : Nat) (f : UserSet → UserSet) : Sst :=
  match n with
  | 1 => { t with set1 := f t.set1 }
  | 2 => { t with set2 := f t.set2 }
  | _ => t

/-- Why a SAVE_SET is refused, if it is (R182). -/
def State.saveRefusal (s : State) (n : Nat) : Option ResultCode :=
  if 2 < n then some .badArg
  else if n = 0 then some .readOnly
  else if ¬ s.pins.setupKey then some .keyRequired
  else if ¬ (s.msv.state = .standby ∨ s.msv.state = .held) then some .wrongState
  else if s.sst.saving.isSome then some .busy
  else none

/-- An accepted SAVE_SET: the copy is taken, and the set's CRC is marked failing (R182). -/
def State.startSave (s : State) (context n : Nat) : State :=
  s.updSst fun t =>
    { t.updSet n (fun u => { u with crcOk := false }) with
      saving := some ⟨n, t.active, t.revisions, context⟩ }

/-- The bytes of revisions. -/
def revisionBytes (rs : List Word) : List Byte := rs.flatMap fun r => le16 r.toNat

/-- The writing of a set ends (R182). -/
def State.saveDone (s : State) : State :=
  match s.sst.saving with
  | none => s
  | some v =>
    ((s.updSst fun t =>
      { t.updSet v.set (fun _ => ⟨v.copy, true⟩) with saving := none, startSet := v.set }).journal .setSaved .sst 0
        (byteOf v.set :: revisionBytes v.revisions)).completeOrder v.context resultOk

/-- LOAD_SET (R183). -/
def State.loadSet (s : State) (n : Nat) : State × OrderResult :=
  if 2 < n then (s, refusal .badArg)
  else if s.msv.state ≠ .standby then (s, refusal .wrongState)
  else if ¬ s.pins.setupKey then (s, refusal .keyRequired)
  else if s.sst.locks.contains .tight then (s, refusal .locked)
  else if s.sst.saving.isSome then (s, refusal .busy)
  else if ¬ s.sst.setOk n then (s, refusal .setupInvalid)
  else
    let s1 := s.updSst fun t =>
      { t with active := t.setTables n, revisions := t.revisions.map (· + 1), startSet := n }
    let s2 := s1.journal .setLoaded .sst 0 (byteOf n :: revisionBytes s1.sst.revisions)
    ([0, 1, 2, 3, 4, 5].foldl (fun t k => t.usersTake s.sst.active k) s2, resultOk)

/-! ## The terminal clock (R185) -/

/-- SET_CLOCK (R185). -/
def State.setClock (s : State) (seconds : DWord) : State × OrderResult :=
  ((s.updSst fun t => { t with clock := ⟨seconds, 0, s.now, true⟩ }).journal .clockSet .sst 0
    (le32 s.sst.clock.seconds.toNat ++ [byteOf (flagNat s.sst.clock.valid)] ++ le32 seconds.toNat), resultOk)

/-- The seconds of the clock change (R185). -/
def State.clockSecond (s : State) : State :=
  s.updSst fun t => { t with clock := { t.clock with seconds := t.clock.seconds + 1, msBase := 0, msAt := s.now } }

end Sys2Proof.Machine
end

