-- ==== Sys2Proof/Machine/Supervisor.lean ====
section
/-! DEFINITION. The motion supervisor's orders, the chain sense input and the supervisor window end (R146,
R150 to R155, R159 to R162). -/

namespace Sys2Proof.Machine

open Sys2Proof

/-- START (R150). Its STATE_CHANGE holds the two states alone (R149; log 7). -/
def State.startOrder (s : State) : State × OrderResult :=
  if s.msv.state ≠ .standby then (s, refusal .wrongState)
  else
    match s.sst.active.firstFailure with
    | some (t, i) => (s, ⟨false, .setupInvalid, [byteOf t, byteOf i]⟩)
    | none => (s.changeState .held [], resultOk)

/-- RESUME (R152); CHAIN_OUT closing onto an open external chain raises EXTERNAL_CHAIN (R155). Its STATE_CHANGE holds the
two states alone (R149; log 7). -/
def State.resumeOrder (s : State) : State × OrderResult :=
  if s.msv.state ≠ .held then (s, refusal .wrongState)
  else if ¬ s.rpm.standstill then (s, refusal .notAtStandstill)
  else if s.msv.hasLatched then (s, refusal .causesPresent)
  else if s.trk.state ≠ .tracking then (s, refusal .trackLost)
  else ((s.changeState .run []).when (!s.pins.chainSense) (·.raiseCause .externalChain .fast 0), resultOk)

/-- The operator ceiling takes a value, at once in effect (R159). -/
def State.setOperatorCeiling (s : State) (v : Nat) : State :=
  (s.updMsv fun m => { m with opCeiling := v }).recomputeCeiling

/-- SET_CEILING (R159). -/
def State.setCeiling (s : State) (value : Nat) : State × OrderResult :=
  let top := s.sst.active.rope.designMax
  if 999 < value then (s, refusal .badArg)
  else if top < value then (s.setOperatorCeiling top, ⟨true, .clamped, le16 top⟩)
  else (s.setOperatorCeiling value, resultOk)

/-- ACK_CAUSE of a slot with its code, or of ALL with slot 255 (R146, R190). -/
def State.ackOrder (s : State) (slot code : Nat) : State × OrderResult :=
  if slot = 255 then (s.ackAll, resultOk) else s.ackSlot slot code

/-- CHAIN_SENSE changes (R155). -/
def State.chainSenseChange (s : State) (closed : Bool) : State :=
  if s.pins.chainSense = closed then s
  else
    let s1 := (s.updPins fun p => { p with chainSense := closed }).setNews .chain
    if closed then s1.endCause .externalChain 0
    else s1.when s1.msv.chainOut (·.raiseCause .externalChain .fast 0)

/-! ## The window end (R160 to R162) -/

/-- The speed bound (R161). -/
def State.speedBound (s : State) : Nat :=
  let b := s.msv.ceiling + margin s.msv.ceiling
  match s.msv.state, s.msv.watch with
  | .held, _ | .standby, _ => 20
  | _, some w => max b (w.envelope s.now)
  | _, none => b

/-- The speed cause of the situation (R160). -/
def State.speedSituation (s : State) : CauseCode :=
  match s.msv.state, s.msv.watch with
  | .held, _ | .standby, _ => .ropeCreep
  | _, some _ => .decelFail
  | _, none => .overspeed

/-- The condition of a speed cause is active (R160). -/
def Msv.speedActive (m : Msv) : CauseCode → Bool
  | .ropeCreep => m.ropeCreep
  | .decelFail => m.decelFail
  | .overspeed => m.overspeed
  | _ => false

/-- The condition of a speed cause takes a value. -/
def Msv.setSpeedActive (m : Msv) (code : CauseCode) (b : Bool) : Msv :=
  match code with
  | .ropeCreep => { m with ropeCreep := b }
  | .decelFail => { m with decelFail := b }
  | .overspeed => { m with overspeed := b }
  | _ => m

/-- The condition of an active speed cause ends (R160). -/
def State.endSpeed (s : State) (code : CauseCode) : State :=
  if s.msv.speedActive code then (s.updMsv (·.setSpeedActive code false)).endCause code 0 else s

/-- Step 1: the speed is tested against the bound (R160). Active speed causes end in the order OVERSPEED, DECEL_FAIL,
ROPE_CREEP (log 8). -/
def State.speedTest (s : State) : State :=
  if s.speedBound < s.rpm.v then
    let n := satInc 2 s.msv.exceed
    let s1 := s.updMsv fun m => { m with exceed := n }
    let code := s.speedSituation
    if n = 2 ∧ ¬ s.msv.speedActive code then
      (s1.updMsv (·.setSpeedActive code true)).raiseCause code .fast 0
    else s1
  else (((s.updMsv fun m => { m with exceed := 0 }).endSpeed .overspeed).endSpeed .decelFail).endSpeed .ropeCreep

/-- Step 2: a stop ends at standstill (R153). No cause brings this change, so its STATE_CHANGE has no code and no source,
and the rope distance stands right after the two states (R149, R190; log 7). -/
def State.stopEnd (s : State) : State :=
  if (s.msv.state = .stoppingService ∨ s.msv.state = .stoppingFast) ∧ s.rpm.standstill then
    s.changeState .held (le32 s.rpm.dist.toNat)
  else s

/-- Step 3: the watch ends when its envelope has come down to the bound of the ceiling (R162). -/
def State.watchEnd (s : State) : State :=
  match s.msv.watch with
  | none => s
  | some w =>
    let e := w.envelope s.now
    s.updMsv fun m =>
      { m with watch := if e ≤ m.ceiling + margin m.ceiling then none else some { w with lastEnvelope := e } }

/-- The step of the ramp, in cm/s (R157). -/
def rampStep (accel : Nat) : Nat := max 1 (accel * 100 / 1000)

/-- Step 4: the ceiling in force rises towards the target (R157, R158). -/
def State.ramp (s : State) : State :=
  if s.msv.ceiling < s.msv.target then
    (s.updMsv fun m =>
      { m with ceiling := min m.target (m.ceiling + rampStep s.sst.active.rope.accel) }).recomputeSpeedRef
  else s

/-- The supervisor's window end (R160). -/
def State.supervisorWindow (s : State) : State := s.speedTest.stopEnd.watchEnd.ramp

end Sys2Proof.Machine
end

