-- ==== Sys2Proof/Machine/Resets.lean ====
section
/-! DEFINITION. Resets: what each block takes at a reset of any kind, the reset record, and the journal entries of
a reset (R8, R27, R50, R61, R66, R69, R89, R108, R124, R141, R163, R168, R176, R184, R186). -/

namespace Sys2Proof.Machine

open Sys2Proof

/-- The start-set number as loaded; one outside 0 to 2 is taken as 0 (R181). -/
def Sst.startNumber (t : Sst) : Nat := if t.startSet ≤ 2 then t.startSet else 0

/-- The supervisor state was one of a line in service (R186). -/
def SupState.running : SupState → Bool
  | .run | .stoppingService | .stoppingFast => true
  | _ => false

/-- The drive mode a number of the door plan names; validated plans hold 0 to 3. -/
def modeAtReset (n : Nat) : DriveMode := (driveModeOf n).getD .manual

/-- The channels at a reset (R50). -/
def channelsAtReset (p : DoorPlan) : PerChannel Chan :=
  let c := fun (q : ChannelPlan) => ({ mode := modeAtReset q.powerUpMode } : Chan)
  ⟨c p.channels.d0, c p.channels.d1, c p.channels.d2, c p.channels.d3⟩

/-- The rope monitor at a reset (R61, R66, R69). -/
def rpmAtReset (s : State) : Rpm :=
  { windowStart := s.now
    loops := ⟨loopAtReset s.now s.pins.loops.loop1, loopAtReset s.now s.pins.loops.loop2,
              loopAtReset s.now s.pins.loops.loop3, loopAtReset s.now s.pins.loops.loop4⟩ }

/-- A fleet record at a pin or control reset (R27). -/
def FleetRec.atReset (r : FleetRec) : FleetRec :=
  { r with state := .unplaced, garagePending := false, lastArrival := none }

/-- The operator ceiling at a reset (R159, R163). -/
def Tables.operatorCeiling (t : Tables) : Nat := min t.ceiling.defaultCeiling t.rope.designMax

/-- The blocks take their reset states, with the active tables and the clock as they stand (R186, step 3). Causes and
frames of the reset follow in `resetEvents`. -/
def State.resetBlocks (s : State) : State :=
  { s with
    resetAt := s.now
    trk := {}
    fleet := s.fleet.map (·.atReset)
    ddu := channelsAtReset s.sst.active.door
    rpm := rpmAtReset s
    lch := {}
    lnc := { bitRate := s.sst.active.line.bitRate }
    stn := {}
    cal := {}
    msv := { opCeiling := s.sst.active.operatorCeiling }
    obc := { s.obc with news := 0, enable := News.resetDone.mask, armed := false, nextTicket := 0
                        contexts := List.replicate 8 none }
    sst := { s.sst with locks := List.replicate 6 .locked, saving := none } }

/-- The join graces of present stations, and the up-since of the valley (R110, R124). -/
def State.resetStations (s : State) : State :=
  stationAddresses.foldl (fun t a =>
    (t.updStation a fun r => { r with timer := t.silencePeriod a .unheard }).when (t.present a) (·.markPlanned a))
    (s.updStation 0 fun r => { r with upSince := s.sst.clock.seconds })

/-- Slips are FREE at a pin or control reset (R176). -/
def State.freeSlips (s : State) : State := (List.range 32).foldl (fun t k => t.setSlipState k 0) s

/-- The RESET entry, carrying the reset record (R176, R186). -/
def State.resetEntry (s : State) : State :=
  s.journal .reset .obc 0
    (byteOf s.sst.resetKind.code :: (le16 s.sst.resetCount ++
      [byteOf (flagNat s.sst.wasRunning), byteOf s.sst.recordSet, byteOf (flagNat s.sst.fallback)]))

/-- STATION_STATE of the stations a reset takes from another state to UNHEARD (R111, R124; log 10). -/
def State.stationEntries (s : State) (old : Stn) : State :=
  stationAddresses.foldl (fun t a =>
    let st := ((old.records[a]?).getD {}).state
    if st = .unheard then t
    else t.journal .stationState .stn 0
      [byteOf a, byteOf st.code, byteOf StationState.unheard.code, byteOf StationEvent.reset.code]) s

/-- What the part was when a pin or control reset came, for the state changes it journals (log 10). -/
structure BeforeReset where
  track : Byte
  standstill : Bool
  stations : Stn
  supervisor : SupState
  chainOut : Bool

/-- DRIVE_OFF for a channel whose power-up mode is OFF (R32, R50). -/
def State.driveOffAtReset (s : State) (c : Channel) : State :=
  if (s.ddu.get c).mode = .off then s.raiseCause .driveOff .service (channelCode c) else s

/-- The journal entries, causes and frames of a reset, the RESET entry first (R8, R32, R108, R149, R176, R184). -/
def State.resetEvents (s : State) (b : BeforeReset) (invalidSet : Option Nat) : State :=
  let s1 := s.resetEntry.raiseCause .trackLost .service 0
  let s2 := s1.journal .stateChange .trk 0 [b.track, byteOf TrackState.lost.code, byteOf ChangeReason.reset.code]
  let s3 := (s2.driveOffAtReset .d0).driveOffAtReset .d1
  let s4 := s3.when b.standstill (·.journal .stateChange .rpm 0 ([1, 0] ++ le32 0))
  let s5 := s4.stationEntries b.stations
  let s6 := s5.when (decide (b.supervisor ≠ .standby)) (·.journal .stateChange .msv 0
    [byteOf b.supervisor.code, byteOf SupState.standby.code])
  let s7 := s6.when b.chainOut (·.setNews .chain)
  let s8 := match invalidSet with
    | none => s7
    | some n => s7.journal .setInvalid .sst 0 [byteOf n]
  (s8.setNews .resetDone).statusPeriod.timePeriod

/-- A reset of kind PIN or CONTROL (R176, R184, R186). -/
def State.warmReset (s : State) (kind : ResetKind) : State :=
  let b : BeforeReset := ⟨byteOf s.trk.state.code, s.rpm.standstill, s.stn, s.msv.state, s.msv.chainOut⟩
  let s1 := s.updSst fun t =>
    { t with resetKind := kind, resetCount := satInc 65535 t.resetCount, wasRunning := s.msv.state.running
             recordSet := t.startSet }
  (s1.resetBlocks.resetStations.freeSlips).resetEvents b none

/-- The clock after a power-up (R185). -/
def Clock.afterPower (c : Clock) (held : Bool) (seconds : DWord) (ms now : Nat) : Clock :=
  if held then { c with seconds := seconds, msBase := ms, msAt := now } else { msAt := now }

/-- The setup store after a power-up: reset record, clock, start set or its fallback (R184 to R186). -/
def Sst.afterPower (t : Sst) (clock : Clock) : Sst :=
  let n := t.startNumber
  { t with
    active := if t.setOk n then t.setTables n else {}
    revisions := List.replicate 6 1, clock := clock, resetKind := .power, resetCount := 0, wasRunning := false
    fallback := !t.setOk n, startSet := n, recordSet := n }

/-- A power-up (R176, R184 to R186). -/
def State.powerReset (s : State) (held : Bool) (seconds : DWord) (ms : Nat) : State :=
  let n := s.sst.startNumber
  let s1 : State :=
    { s with mem := [], held := {}, fleet := List.replicate 96 {}, obc := {}
             sst := s.sst.afterPower (s.sst.clock.afterPower held seconds ms s.now) }
  let s2 := (s1.resetBlocks.resetStations).resetEvents ⟨Config.trackStateBeforePower, false, {}, .standby, false⟩
    (if s.sst.setOk n then none else some n)
  s2

end Sys2Proof.Machine
end

