-- ==== Sys2Proof/Machine/Orders.lean ====
section
/-! DEFINITION. The order board controller: dispatching an order to its owner, long orders and their contexts, and
the taking of POSTED slips (R170 to R172). -/

namespace Sys2Proof.Machine

open Sys2Proof

/-- The orders taken in STANDBY (R171). -/
def Order.takenInStandby : Order → Bool
  | .stop | .fastStop | .resume | .setCeiling _ | .ackCause _ _ => false
  | .barCabin _ | .unbarCabin _ | .garageCabin _ | .releaseCabin _ => false
  | _ => true

/-- The long orders (R171). -/
def Order.isLong : Order → Bool
  | .releaseCabin _ | .stroke _ _ | .sendNote _ _ _ | .call _ _ | .saveSet _ => true
  | _ => false

/-- A short order is checked and carried out by its block, which gives its result (R171). -/
def State.runShort (s : State) : Order → State × OrderResult
  | .start => s.startOrder
  | .stop => (s.operatorCause .operatorStop .service, resultOk)
  | .fastStop => (s.operatorCause .operatorFast .fast, resultOk)
  | .resume => s.resumeOrder
  | .setCeiling value => s.setCeiling value
  | .ackCause slot code => s.ackOrder slot code
  | .rebuildTrack pairs =>
    match s.rebuildRefusal pairs with
    | some c => (s, refusal c)
    | none => (s.rebuild pairs, resultOk)
  | .barCabin n => s.barCabin n
  | .unbarCabin n => s.unbarCabin n
  | .garageCabin n => s.garageCabin n
  | .setDriveMode channel mode => s.setDriveMode channel mode
  | .haltDrive channel => s.haltDrive channel
  | .excludeStation a => s.excludeStation a
  | .includeStation a => s.includeStation a
  | .answer id => s.answerCall id
  | .hangUp id => s.hangUpCall id
  | .adopt table => s.adopt table
  | .unlock table => s.unlock table
  | .lock table level => s.lock table level
  | .loadSet n => s.loadSet n
  | .setClock seconds => s.setClock seconds
  | .releaseCabin _ | .stroke _ _ | .sendNote _ _ _ | .call _ _ | .saveSet _ => (s, resultOk)

/-- Why a long order is refused by its block, if it is. -/
def State.longRefusal (s : State) : Order → Option ResultCode
  | .releaseCabin n => s.releaseRefusal n
  | .stroke channel direction => s.strokeRefusal channel direction
  | .sendNote dest _ text => s.noteRefusal dest text
  | .call callee kind => s.callRefusal callee kind
  | .saveSet n => s.saveRefusal n
  | _ => none

/-- An accepted long order starts, holding a context. -/
def State.startLong (s : State) (context : Nat) : Order → State
  | .releaseCabin n => s.startRelease context n
  | .stroke channel direction => s.startStrokeOrder context channel direction
  | .sendNote dest code text => s.startNote context dest code text
  | .call callee kind => s.startCall context callee kind
  | .saveSet n => s.startSave context n
  | _ => s

/-- The lowest-numbered free context (R172). -/
def State.freeContext? (s : State) : Option Nat := s.obc.contexts.findIdx? (·.isNone)

/-- An accepted long order takes a context, and its slip becomes TAKEN (R171, R172). -/
def State.takeContext (s : State) (context slip : Nat) (o : Order) : State :=
  ((s.updObc fun b =>
    { b with contexts := b.contexts.set context (some ⟨s.slipTicket slip, slip, o, s.clockTime⟩) }).updHeld fun h =>
      { h with contexts := h.contexts.set context true }).setSlipState slip 2

/-- A long order is dispatched (R171, R172). -/
def State.dispatchLong (s : State) (slip : Nat) (o : Order) : State :=
  match s.freeContext? with
  | none => s.writeResult slip (refusal .full)
  | some k =>
    match s.longRefusal o with
    | some c => s.writeResult slip (refusal c)
    | none => (s.takeContext k slip o).startLong k o

/-- An order is dispatched in the event that takes it (R171). -/
def State.dispatch (s : State) (slip : Nat) (o : Order) : State :=
  if s.msv.state = .standby ∧ ¬ o.takenInStandby then s.writeResult slip (refusal .notStarted)
  else if o.isLong then s.dispatchLong slip o
  else
    let r := s.runShort o
    r.1.writeResult slip r.2

/-! ## Takings (R170) -/

/-- The slips that are POSTED with the next ticket, lowest index first. -/
def State.matchingSlips (s : State) : List Nat :=
  (List.range 32).filter fun k => decide (s.slipState k = 1) && decide (s.slipTicket k = s.obc.nextTicket)

/-- One slip is taken: the others with its ticket are refused, its order is dispatched, and the next ticket is
incremented (R170). -/
def State.takeSlip (s : State) (slip : Nat) (others : List Nat) : State :=
  let s1 := others.foldl (fun t k => t.writeResult k (refusal .duplicateTicket)) s
  let s2 := match s1.orderOf slip with
    | none => s1.writeResult slip (refusal .badOrder)
    | some o => s1.dispatch slip o
  s2.updObc fun b => { b with nextTicket := b.nextTicket + 1 }

/-- A taking: slips are taken until none is POSTED with the next ticket; each taking uses up a POSTED slip (R170). -/
def State.taking : Nat → State → State
  | 0, s => s
  | fuel + 1, s =>
    match s.matchingSlips with
    | [] => s
    | slip :: others => State.taking fuel (s.takeSlip slip others)

end Sys2Proof.Machine
end

