-- ==== Sys2Proof/Machine/HostPort.lean ====
section
/-! DEFINITION. The host port: writes to the four registers and to terminal memory, the control reset sequence, and
the host read count (R164, R167, R169, R170, R175). -/

namespace Sys2Proof.Machine

open Sys2Proof

/-- A host write other than the sequence's own cancels the reset sequence (R169). -/
def State.disarm (s : State) : State := s.updObc fun o => { o with armed := false }

/-- A write of 0x5A to CONTROL arms the reset sequence (R169). -/
def State.arm (s : State) : State := s.updObc fun o => { o with armed := true }

/-- A write of 0xA5 to CONTROL (R169). -/
def State.controlReset (s : State) : State := if s.obc.armed then s.warmReset .control else s

/-- A host write to POST: a taking is made (R167, R170). -/
def State.postWrite (s : State) : State := State.taking 33 s.disarm

/-- The taken read count for a host read count h (R175). -/
def takenCount (written h : DWord) : DWord := if (written - h).toNat ≤ 256 then h else written - 256

/-- A word is written into terminal memory, low byte first (R164, R187). -/
def State.storeWord (s : State) (offset : Nat) (value : Word) : State :=
  s.updMem (memWriteList · offset (le16 value.toNat))

/-- The host read count H as both words stand (R175). -/
def State.hostCount (s : State) : DWord :=
  BitVec.ofNat 32 (memRead16 s.mem 0x24 + 65536 * memRead16 s.mem 0x26)

/-- A host write of the high word of H: the part takes H (R175). -/
def State.hostReadCount (s : State) (high : Word) : State :=
  let s1 := s.disarm.storeWord 0x26 high
  s1.updObc fun o => { o with taken := takenCount o.written s1.hostCount }

/-- The host may write a word of terminal memory: H, the order board, the pending tables, the scratch (R164). -/
def hostWritable (offset : Nat) : Bool :=
  decide (offset = 0x24) || decide (offset = 0x26) || (decide (0x100 ≤ offset) && decide (offset < 0x900)) ||
    decide (0x4C00 ≤ offset)

/-- A host write to a word of terminal memory; one to a region of the part is discarded (R164). -/
def State.memoryWrite (s : State) (offset : Nat) (value : Word) : State :=
  if offset = 0x26 then s.hostReadCount value
  else if hostWritable offset then s.disarm.storeWord offset value
  else s.disarm

/-- A host write to CONTROL (R169). -/
def State.controlWrite (s : State) (value : Word) : State :=
  if value = 0x5A then s.arm else if value = 0xA5 then s.controlReset else s.disarm

end Sys2Proof.Machine
end

