-- ==== Sys2Proof/Machine/Views.lean ====
section
/-! DEFINITION. What the part publishes in terminal memory: the front page, the journal, the five views and the
active tables, byte by byte (R164 to R166, R187 to R192), and the update counters that bracket their changes. -/

namespace Sys2Proof.Machine

open Sys2Proof

/-! ## Record pieces (R187) -/

/-- Zero bytes, where no table lists any. -/
def zeros (n : Nat) : List Byte := List.replicate n 0

/-- One byte. -/
def b8 (n : Nat) : List Byte := [byteOf n]

/-- A rope distance, none being all ones. -/
def distBytes : Option DWord → List Byte
  | some d => le32 d.toNat
  | none => le32 0xFFFFFFFF

/-- Bytes from an offset on, whose contents the spec does not state. -/
def unstatedMany (offset n : Nat) : List Byte := (List.range n).map fun i => Config.unstatedByte (offset + i)

/-- Bytes whose content the spec does not state: 0 while nothing has been written there since power-up (R176; log 6). -/
def leftover (written : Bool) (offset n : Nat) : List Byte := if written then unstatedMany offset n else zeros n

/-- A list of bytes filled with zeros to a size. -/
def padTo (n : Nat) (bs : List Byte) : List Byte := bs ++ zeros (n - bs.length)

/-! ## Front page (R189) -/

/-- Offsets 0x1A to 0x23. -/
def State.frontTickets (s : State) : List Byte :=
  le16 s.obc.nextTicket.toNat ++ le32 s.obc.written.toNat ++ le32 s.obc.taken.toNat

/-- The up-time: whole seconds since the end of the last reset (R186; log 21). -/
def State.upTime (s : State) : DWord := BitVec.ofNat 32 ((s.now - s.resetAt) / 1000)

/-- Offsets 0x28 to 0x3F. -/
def State.frontRecord (s : State) : List Byte :=
  le32 s.obc.missedMask.toNat ++ le16 s.obc.missedCount ++ b8 (flagByte [false, s.sst.clock.valid]) ++
  b8 s.trk.state.code ++ le32 s.sst.clock.seconds.toNat ++ b8 s.sst.resetKind.code ++
  b8 (flagByte [s.sst.wasRunning, s.sst.fallback]) ++ le16 s.sst.resetCount ++ b8 s.sst.recordSet ++ zeros 3 ++
  le32 s.upTime.toNat

/-- The LOST edge counts, offsets 0x40 to 0x4F, which the track view's counter brackets. -/
def State.frontEdges (s : State) : List Byte :=
  let c := s.trk.lostEdges
  [c.b0, c.b1, c.b2, c.b3, c.b4, c.b5, c.b6].flatMap (fun w => le16 w.toNat) ++ zeros 2

/-- The states of the four loops, 2 bits each from LOOP1 at bit 0. -/
def loopBits (l : PerLoop LoopUnit) : Nat :=
  l.loop1.state.code + 4 * l.loop2.state.code + 16 * l.loop3.state.code + 64 * l.loop4.state.code

/-- The rope part, offsets 0x50 to 0x6B. -/
def State.frontRope (s : State) : List Byte :=
  let r := s.rpm
  le16 r.lastA ++ le16 r.lastB ++ le16 r.vA ++ le16 r.vB ++ le16 r.v ++
  b8 (flagByte [r.satA, r.satB, r.standstill, r.disagreeing]) ++ b8 r.zeroCount ++ b8 r.disagreeCount ++
  b8 r.agreeCount ++ b8 r.sensor.code ++ b8 (loopBits r.loops) ++ le32 r.dWin ++ le32 r.dist.toNat ++
  le16 r.tensionC ++ le16 (r.tensionP.getD 0xFFFF)

/-- One place of the LIMIT register. -/
def limitBytes (p : CauseCode × Nat) : List Byte := b8 p.1.code ++ b8 p.2

/-- The watch, offsets 0x80 to 0x8B; its fields are unstated while none runs (log 6). -/
def State.frontWatch (s : State) : List Byte :=
  match s.msv.watch with
  | some w => le16 w.e0 ++ le16 w.decel ++ le16 w.lastEnvelope ++ zeros 2 ++ le32 (w.start - s.resetAt)
  | none => leftover s.held.watch 0x80 6 ++ zeros 2 ++ leftover s.held.watch 0x88 4

/-- The motion part, offsets 0x6C to 0x8B. The pairs of the LIMIT register stand in the order of their raises, in the
first places; an unused place reads 0 in both bytes (R147, R189; log 29). -/
def State.frontMotion (s : State) : List Byte :=
  let m := s.msv
  b8 m.state.code ++ b8 (flagByte [m.chainOut, s.pins.chainSense, m.watch.isSome, m.aggregate.isSome]) ++
  le16 m.target ++ le16 m.ceiling ++ le16 m.opCeiling ++ le16 m.speedRef ++
  padTo 8 ((m.limits.take 4).flatMap limitBytes) ++ b8 m.exceed ++ b8 m.causes.length ++ s.frontWatch

/-- The last grip reading (R187, R189). -/
def Lch.readingBytes (l : Lch) : Nat × List Byte × Nat :=
  match l.lastReading with
  | some r => (r.cabin, le16 r.reading, r.grade.code)
  | none => (0, le16 0xFFFF, 0xFF)

/-- The launch part, offsets 0x8C to 0xA7. -/
def State.frontLaunch (s : State) : List Byte :=
  let l := s.lch
  b8 l.gate.code ++ (match l.gateEntry with | some u => b8 (s.entryCabin u) | none => leftover s.held.gate 0x8D 1) ++
  b8 l.z3Count ++ b8 (flagByte [l.lastDeparture.isNone]) ++ le32 l.dL.toNat ++ le32 l.lastLaunch.toNat ++
  distBytes l.lastDeparture ++ b8 (flagNat l.divert.isSome) ++
  (match l.divert with | some d => b8 d.cabin | none => leftover s.held.divert 0x9D 1) ++ b8 (flagNat l.insertion.isSome) ++
  (match l.insertion with | some i => b8 i.cabin | none => leftover s.held.insertion 0x9F 1) ++ b8 (flagNat l.sampling) ++
  b8 l.readingBytes.1 ++ le16 l.peak ++ l.readingBytes.2.1 ++ b8 l.readingBytes.2.2 ++ zeros 1

/-- The line part, offsets 0xA8 to 0xC7. A STATUS is queued at every reset, so the front frame's bytes have been written
before the queue is ever empty (R108). -/
def State.frontLine (s : State) : List Byte :=
  let l := s.lnc
  b8 l.state.code ++ b8 l.bitRate ++ b8 l.queue.length ++
  (match l.queue.head? with | some f => b8 f.kind.code ++ b8 f.dest | none => unstatedMany 0xAB 2) ++ zeros 1 ++
  le16 l.breaks.toNat ++ le32 l.sent.toNat ++ le32 l.attempts.toNat ++ le32 l.arbLoss.toNat ++
  le32 l.bitErrors.toNat ++ le32 l.received.toNat ++ le32 l.unattributed.toNat

/-- One drive channel. -/
def State.channelBytes (s : State) (c : Channel) : List Byte :=
  let x := s.ddu.get c
  b8 x.mode.code ++ b8 ((x.pendingMode.map (·.code)).getD 0xFF) ++ b8 x.state.code ++ b8 (s.engagedCabin c)

/-- One order context; the rest of a free one is unstated (log 6). -/
def contextBytes (written : Bool) (offset : Nat) : Option OrderCtx → List Byte
  | some c => le16 c.ticket.toNat ++ b8 c.slip ++ b8 c.order.code
  | none => leftover written offset 3 ++ b8 0

/-- The drive channels and the order contexts, offsets 0xC8 to 0xFF. -/
def State.frontDrives (s : State) : List Byte :=
  s.channelBytes .d0 ++ s.channelBytes .d1 ++ s.channelBytes .d2 ++ s.channelBytes .d3 ++
  (s.obc.contexts.mapIdx fun i c => contextBytes ((s.held.contexts[i]?).getD false) (0xD8 + 4 * i) c).flatten ++ zeros 8

/-- What the front page's update counter brackets (R165, R166). The host read count H at 0x24 to 0x27 is left out: the host
alone writes it, and R166 speaks of changes an owning block makes (log 3). -/
def State.frontShown (s : State) : List Byte :=
  s.frontTickets ++ s.frontRecord ++ s.frontRope ++ s.frontMotion ++ s.frontLaunch ++ s.frontLine ++ s.frontDrives

/-- The update counters, offsets 0x0C to 0x19. -/
def Counters.bytes (c : Counters) : List Byte :=
  [c.front, c.causeList, c.track, c.station, c.call, c.fleet, c.active].flatMap fun w => le16 w.toNat

/-- The front page (R189). -/
def State.frontPage (s : State) : List Byte :=
  le32 Config.identity.toNat ++ le32 Config.serial.toNat ++ le32 (~~~Config.serial).toNat ++ s.obc.counters.bytes ++
  s.frontTickets ++ [memRead s.mem 0x24, memRead s.mem 0x25, memRead s.mem 0x26, memRead s.mem 0x27] ++
  s.frontRecord ++ s.frontEdges ++ s.frontRope ++ s.frontMotion ++ s.frontLaunch ++ s.frontLine ++ s.frontDrives

/-! ## Journal (R174, R190) -/

/-- One journal entry; bytes of the detail beyond the fields of its kind are 0 (log 7). -/
def JEntry.bytes (e : JEntry) : List Byte :=
  le32 e.seq.toNat ++ le32 e.time.seconds.toNat ++ le16 e.time.ms ++ b8 e.kind.code ++
  b8 (flagByte [e.clockInvalid]) ++ b8 e.block.code ++ [e.index] ++ b8 e.cabin ++ b8 e.detail.length ++
  padTo 16 e.detail

/-- The entry at an index of the ring: the newest one whose sequence has that index modulo 256. -/
def Obc.atIndex (o : Obc) (i : Nat) : Option JEntry := o.journal.find? fun e => decide (e.seq.toNat % 256 = i)

/-- The record at an index of the ring. -/
def Obc.journalRecord (o : Obc) (i : Nat) : List Byte := ((o.atIndex i).map (·.bytes)).getD (zeros 32)

/-! ## Views (R191) -/

/-- One record of the cause list view. -/
def Cause.bytes (c : Cause) : List Byte :=
  b8 c.code.code ++ b8 c.category.code ++ b8 c.sub.code ++ b8 c.code.block.code ++ b8 c.index ++ b8 c.repeats ++
  le16 c.raised.ms ++ le32 c.raised.seconds.toNat ++ zeros 4

/-- The cause of a slot; the aggregate entry is slot 31 (R142). -/
def Msv.slot (m : Msv) (i : Nat) : Option Cause :=
  if i = 31 then m.aggregate.map fun a => ⟨.causeOverflow, .fast, 0, a.raised, a.repeats, .clearedUnacked⟩
  else m.causes[i]?

/-- A record of the cause list view; an empty slot reads 0, also after it has held an entry (R187; log 29). -/
def Msv.slotRecord (m : Msv) (i : Nat) : List Byte := ((m.slot i).map (·.bytes)).getD (zeros 16)

/-- What a track record shows of an entry besides its own fields: GARAGE_PENDING, BARRED, the launch estimate. -/
structure ShownEntry where
  entry : TrackEntry
  garage : Bool
  barred : Bool
  estimate : Nat
  deriving DecidableEq, Repr

/-- An entry as the track view shows it (R2, R5, R79). -/
def State.shownEntry (s : State) (e : TrackEntry) : ShownEntry :=
  ⟨{ e with uid := 0, overdue := false, waiver := false, ownBarred := false }, s.entryGarage e, s.entryBarred e,
   if s.lch.gateEntry = some e.uid then s.lch.estimate else 65535⟩

/-- One record of the track view. -/
def ShownEntry.bytes (x : ShownEntry) : List Byte :=
  b8 x.entry.cabin ++ b8 x.entry.zone ++ b8 x.entry.door.code ++
  b8 (flagByte [x.entry.missedByCloser, x.entry.gateServed, x.garage, x.barred, x.entry.atGate]) ++
  le32 x.entry.travel ++ le32 x.entry.arrivalDist.toNat ++ le16 x.estimate ++ zeros 18

/-- A record of the track view; beyond the entry count it has cabin 0xFF and reads 0 else, also after it has held an
entry (R191; log 29). -/
def State.trackRecord (s : State) (i : Nat) : List Byte :=
  (s.trk.entries[i]?.map fun e => (s.shownEntry e).bytes).getD (0xFF :: zeros 31)

/-- A reading of a grip history: bits 0 to 9 and the grade in bits 12 to 14. -/
def readingBytes (p : Nat × Grade) : List Byte := le16 (p.1 % 1024 + 4096 * p.2.code)

/-- A record of the fleet view, by cabin number. A grip history only grows until the next power-up, so the places of
readings it does not hold have never been written and read 0 (R27, R86, R176). -/
def State.fleetRecord (s : State) (cabin : Nat) : List Byte :=
  let r := s.fleetRec cabin
  let g := s.regEntry cabin
  b8 (flagByte [g.registered, r.barred, r.garagePending, r.lastArrival.isNone]) ++ b8 r.state.code ++
  le16 g.tag.toNat ++ b8 r.weakCount ++ b8 r.history.length ++ r.history.flatMap readingBytes ++
  zeros (8 - 2 * r.history.length) ++ le16 r.doorCycles ++
  b8 r.lastDoorFault.code ++ distBytes r.lastArrival ++ zeros 11

/-- A clock time of a view; none is written all ones, and its ms are unstated (R187, log 6). -/
def timeBytes (written : Bool) (offset : Nat) : Option ClockTime → List Byte
  | some t => le32 t.seconds.toNat ++ le16 t.ms
  | none => le32 0xFFFFFFFF ++ leftover written (offset + 4) 2

/-- What a station record shows of the line plan: whether the station is the SUMMIT, its sheave count and its silence
timeout. The plan states none of them for record 0 and for an absent station (R124; log 6). -/
def State.planShown (s : State) (address : Nat) : Bool × List Byte × List Byte :=
  let base := 0x2D00 + 32 * address
  let written := (s.held.planned[address]?).getD false
  match s.sst.active.line.station address with
  | some e => (decide (e.kind = 1), b8 e.sheaves, le16 e.silence)
  | none => (written && (Config.unstatedByte base).getLsbD 1, leftover written (base + 1) 1, leftover written (base + 4) 2)

/-- A record of the station view (R191). Sheave 1 stands in the lowest 4 bits of the sheave states' word (log 32). -/
def State.stationRecord (s : State) (address : Nat) : List Byte :=
  let r := s.stationRec address
  let plan := s.planShown address
  b8 (flagByte [s.present address, plan.1, r.fault, r.unexpected]) ++ plan.2.1 ++
  b8 r.state.code ++ b8 (flagByte [r.reqService, r.reqFast]) ++ plan.2.2 ++
  le16 ((r.sheaves.mapIdx fun i x => 16 ^ i * x.code).sum) ++ b8 r.hook.code ++
  timeBytes ((s.held.heard[address]?).getD false) (0x2D00 + 32 * address + 9) r.lastHeard ++
  le32 r.upSince.toNat ++ le32 r.frames.toNat ++ le32 r.crcErrors.toNat ++ le32 r.undelivered.toNat ++ zeros 1

/-- The station view with the excluded count after its fourteenth record. -/
def State.stationView (s : State) : List Byte :=
  (List.range 14).flatMap s.stationRecord ++ b8 s.excludedCount ++ zeros 63

/-- One record of the call view; `most` parties have been shown in a record since power-up (log 6). -/
def CallRec.bytes (r : CallRec) (most offset : Nat) : List Byte :=
  b8 r.id ++ b8 r.caller ++ b8 r.callee ++ b8 (flagNat r.urgent) ++ b8 r.origin.code ++ b8 r.state.code ++
  b8 r.parties.length ++ (r.parties.take 14).map byteOf ++
  ((unstatedMany (offset + 7 + r.parties.length) (most - r.parties.length)) ++ zeros 14).take (14 - r.parties.length) ++
  le32 r.requestTime.seconds.toNat ++
  le16 r.requestTime.ms ++ le32 r.stateTime.seconds.toNat ++ le16 r.stateTime.ms ++ le16 r.shownWait ++
  le16 r.shownRing ++ b8 (flagNat r.rung) ++ zeros 2

/-- The header of the call view. -/
def Cal.header (c : Cal) : List Byte :=
  b8 ((c.holding.map (·.id)).getD 0) ++
  b8 (flagByte [c.valleyOffHook, c.ringOut, c.voiceConnect, c.breakMark, c.reannounce.isSome]) ++ b8 c.nextId ++
  b8 c.table.length ++ zeros 4

/-- The call view; a record beyond the record count reads 0, also after it has held a call (R141, R187; log 29). -/
def State.callView (s : State) : List Byte :=
  padTo 256 (s.cal.header ++ (s.cal.table.mapIdx fun i r => r.bytes s.held.parties (0x2F08 + 40 * i)).flatten)

/-! ## Active tables (R192) -/

/-- The zone plan. -/
def ZonePlan.bytes (p : ZonePlan) : List Byte :=
  (List.zipWith (fun l r => le16 l ++ le16 r) p.len p.ratio).flatten ++ le16 p.launchSpacing ++ le16 p.arrivalMin ++
  b8 p.departPct ++ b8 p.queueLimit ++ le16 p.launchMin ++ b8 p.gateClosePct ++ le16 p.proofWait

/-- One channel of the door plan. -/
def ChannelPlan.bytes (p : ChannelPlan) : List Byte :=
  le16 p.openTime ++ le16 p.closeTime ++ le16 p.reverseTime ++ b8 p.recloseLimit ++ b8 p.powerUpMode

/-- The door plan. -/
def DoorPlan.bytes (p : DoorPlan) : List Byte :=
  p.channels.d0.bytes ++ p.channels.d1.bytes ++ p.channels.d2.bytes ++ p.channels.d3.bytes

/-- The rope plan. -/
def RopePlan.bytes (p : RopePlan) : List Byte :=
  le16 p.tA ++ le16 p.tB ++ b8 p.tol ++ le16 p.designMax ++ le16 p.aService ++ le16 p.aFast ++ b8 p.accel ++
  le16 p.span ++ le16 p.tripLow ++ le16 p.warnLow ++ le16 p.warnHigh ++ le16 p.tripHigh ++ le16 p.fFail ++
  le16 p.fWarn ++ le16 p.fHigh

/-- The ceiling table. -/
def CeilingTable.bytes (t : CeilingTable) : List Byte :=
  le16 t.tagReaderCap ++ le16 t.tensionWarnCap ++ le16 t.bypassCap ++ le16 t.defaultCeiling

/-- The line plan; the entries beyond its entry count read 0 (R192; log 29). -/
def LinePlan.bytes (p : LinePlan) : List Byte :=
  b8 p.bitRate ++ b8 p.retryLimit ++ le16 p.statusPeriod ++ b8 p.ringTimeout ++ le16 p.waitTimeout ++
  b8 (flagNat p.tripCallEnable) ++ b8 p.entryCount ++
  p.stations.flatMap fun e => b8 e.address ++ b8 e.kind ++ b8 e.sheaves ++ le16 e.silence

/-- The cabin registry. -/
def registryBytes (rs : List RegEntry) : List Byte := rs.flatMap fun r => b8 (flagNat r.registered) ++ le16 r.tag.toNat

/-- The six tables at their offsets. -/
def Tables.bytes (t : Tables) : List Byte :=
  padTo 0x40 t.zone.bytes ++ padTo 0x40 t.door.bytes ++ padTo 0x40 t.rope.bytes ++ padTo 0x40 t.ceiling.bytes ++
  padTo 0x100 t.line.bytes ++ padTo 0xD00 (registryBytes t.registry)

/-- The active tables region. -/
def State.activeRegion (s : State) : List Byte :=
  padTo 0x1000 (s.sst.active.bytes ++ revisionBytes s.sst.revisions ++ s.sst.locks.map fun l => byteOf l.code)

/-! ## Reading terminal memory (R164) -/

/-- A byte of a list, 0 beyond its end. -/
def byteAt (bs : List Byte) (i : Nat) : Byte := (bs[i]?).getD 0

/-- The byte the host reads at an offset of terminal memory (R164). -/
def State.readByte (s : State) (a : Nat) : Byte :=
  if a < 0x100 then byteAt s.frontPage a
  else if a < 0x900 then memRead s.mem a
  else if a < 0x2900 then byteAt (s.obc.journalRecord ((a - 0x900) / 32)) ((a - 0x900) % 32)
  else if a < 0x2B00 then byteAt (s.msv.slotRecord ((a - 0x2900) / 16)) ((a - 0x2900) % 16)
  else if a < 0x2D00 then byteAt (s.trackRecord ((a - 0x2B00) / 32)) ((a - 0x2B00) % 32)
  else if a < 0x2F00 then byteAt s.stationView (a - 0x2D00)
  else if a < 0x3000 then byteAt s.callView (a - 0x2F00)
  else if a < 0x3C00 then byteAt (s.fleetRecord ((a - 0x3000) / 32 + 1)) ((a - 0x3000) % 32)
  else if a < 0x4C00 then byteAt s.activeRegion (a - 0x3C00)
  else memRead s.mem a

/-- The word the host reads at an even offset. -/
def State.readWord (s : State) (a : Nat) : Word := s.readByte (a + 1) ++ s.readByte a

/-- A register of the host port, by its offset (R167, R188). A bit that R188 does not name reads 0 (log 34). -/
def State.readRegister (s : State) (offset : Nat) : Option Word :=
  match offset with
  | 0 => some s.obc.nextTicket
  | 2 => some (s.obc.news.setWidth 16)
  | 4 => some (s.obc.enable.setWidth 16)
  | 6 => some s.controlWord
  | _ => none

/-! ## Update counters (R166; log 3) -/

/-- What the track view shows (R2, R7). -/
def State.shownTrack (s : State) : List ShownEntry × EdgeCounts := (s.trk.entries.map s.shownEntry, s.trk.lostEdges)

/-- What the station view shows (R124). -/
def State.shownStations (s : State) : List StationRec × List StationEntry :=
  (s.stn.records.map fun r => { r with timer := none, sheaveActive := [] }, s.sst.active.line.stations)

/-- What the call view shows (R141). -/
def State.shownCalls (s : State) : Cal × Bool :=
  ({ s.cal with
     reannounce := none
     table := s.cal.table.map fun r => { r with context := none, waitTimer := none, ringTimer := none, requestAt := 0 } },
   s.cal.reannounce.isSome)

/-- A counter is incremented before and after a change of what it brackets. -/
def bracket (changed : Bool) (w : Word) : Word := if changed then w + 2 else w

/-- The update counters after a step from `s` to `t`: each brackets the change of its region, if any (R166). -/
def bracketAll (s t : State) (c : Counters) : Counters :=
  { front := bracket (s.frontShown != t.frontShown) c.front
    causeList := bracket (decide (s.msv.causes ≠ t.msv.causes) || decide (s.msv.aggregate ≠ t.msv.aggregate)) c.causeList
    track := bracket (decide (s.shownTrack ≠ t.shownTrack)) c.track
    station := bracket (decide (s.shownStations ≠ t.shownStations)) c.station
    call := bracket (decide (s.shownCalls ≠ t.shownCalls)) c.call
    fleet := bracket (decide (s.fleet ≠ t.fleet) || decide (s.sst.active.registry ≠ t.sst.active.registry)) c.fleet
    active := bracket (decide (s.sst.active ≠ t.sst.active) || decide (s.sst.revisions ≠ t.sst.revisions) ||
      decide (s.sst.locks ≠ t.sst.locks)) c.active }

/-- A command's step from `s` has made `t`: the update counters of the regions it changed are advanced. -/
def finish (s t : State) : State := t.updObc fun o => { o with counters := bracketAll s t s.obc.counters }

end Sys2Proof.Machine
end

