-- ==== Sys2Proof/Machine/ExecHost.lean ====
section
/-! DEFINITION. The meanings of the seven host writes and of the resets from power and pin (R164 to
R175, R186). -/

namespace Sys2Proof.Machine

open Sys2Proof

/-- POST_WRITE (R167, R170): any value is a notice, and a taking is made. -/
def execPostWrite (_value : Word) (s : State) : Host.Outcome State Fault Refusal :=
  .next (finish s (s.postWrite))

/-- NEWS_WRITE (R167): each bit written 1 is cleared. -/
def execNewsWrite (value : Word) (s : State) : Host.Outcome State Fault Refusal :=
  .next (finish s (s.disarm.clearNews value))

/-- ENABLE_WRITE (R167): the written bits replace the enable bits. -/
def execEnableWrite (value : Word) (s : State) : Host.Outcome State Fault Refusal :=
  .next (finish s (s.disarm.replaceEnable value))

/-- RESET_SEQUENCE_ARM (R169): 0x5A is written to CONTROL. -/
def execResetSequenceArm (s : State) : Host.Outcome State Fault Refusal :=
  .next (finish s (s.arm))

/-- CONTROL_RESET (R169): 0xA5 is written to CONTROL, a reset while the sequence is armed. -/
def execControlReset (s : State) : Host.Outcome State Fault Refusal :=
  .next (finish s (s.controlReset))

/-- HOST_READ_COUNT_WRITE (R175): the high word of H is written, and the part takes H. -/
def execHostReadCountWrite (high : Word) (s : State) : Host.Outcome State Fault Refusal :=
  .next (finish s (s.hostReadCount high))

/-- HOST_MEMORY_WRITE (R164, R169): a word of terminal memory, or CONTROL. An offset outside the 32 KiB or odd is no
access the port offers (log 20). -/
def execHostMemoryWrite (target : HostTarget) (value : Word) (s : State) : Host.Outcome State Fault Refusal :=
  match target with
  | .control => .next (finish s (s.controlWrite value))
  | .memory offset =>
    if 0x8000 ≤ offset then .fault (.noSuchAddress offset)
    else if offset % 2 = 1 then .fault (.oddOffset offset)
    else .next (finish s (s.memoryWrite offset value))

/-- POWER_UP (R184 to R186), with what the backup supply kept of the clock (log 19). The update counters are 0 (R166). -/
def execPowerUp (backupHeld : Bool) (seconds : DWord) (ms : Nat) (s : State) : Host.Outcome State Fault Refusal :=
  .next (s.powerReset backupHeld seconds ms)

/-- PIN_RESET (R186): RESET_N is asserted. -/
def execPinReset (s : State) : Host.Outcome State Fault Refusal :=
  .next (finish s (s.warmReset .pin))

end Sys2Proof.Machine
end

