-- ==== Sys2Proof/Machine/ExecLine.lean ====
section
/-! DEFINITION. The meanings of the line events and of the timers of the line, the stations and the
calls. -/

namespace Sys2Proof.Machine

open Sys2Proof

/-- IDLE_GAP_REACHED (R91, R99). -/
def execIdleGapReached (s : State) : Host.Outcome State Fault Refusal :=
  .next (finish s (s.idleGap))

/-- TRANSMIT_ATTEMPT (R95, R103). -/
def execTransmitAttempt (s : State) : Host.Outcome State Fault Refusal :=
  .next (finish s (s.transmit))

/-- ARBITRATION_LOSS (R95). -/
def execArbitrationLoss (s : State) : Host.Outcome State Fault Refusal :=
  .next (finish s (s.loseArbitration))

/-- BIT_ERROR (R95, R99). -/
def execBitError (s : State) : Host.Outcome State Fault Refusal :=
  .next (finish s (s.bitErrorCut))

/-- ACK_SLOT_OUTCOME (R96, R102). -/
def execAckSlotOutcome (acknowledged : Bool) (s : State) : Host.Outcome State Fault Refusal :=
  .next (finish s (s.ackOutcome acknowledged))

/-- RECEIVE_ERROR (R97), with the sender if the arbitration field was received whole. -/
def execReceiveError (sender : Option Nat) (s : State) : Host.Outcome State Fault Refusal :=
  .next (finish s (s.receiveError sender))

/-- TRIP_RECEIVED (R114, R116). -/
def execTripReceived (frame : RxFrame) (s : State) : Host.Outcome State Fault Refusal :=
  .next (finish s (s.receiveTrip frame))

/-- STATUS_RECEIVED (R114 to R118). -/
def execStatusReceived (frame : RxFrame) (s : State) : Host.Outcome State Fault Refusal :=
  .next (finish s (s.receiveStatus frame))

/-- NOTE_RECEIVED (R106). -/
def execNoteReceived (frame : RxFrame) (s : State) : Host.Outcome State Fault Refusal :=
  .next (finish s (s.receiveNote frame))

/-- PAIR_REQ_RECEIVED (R127, R128). -/
def execPairReqReceived (frame : RxFrame) (s : State) : Host.Outcome State Fault Refusal :=
  .next (finish s (s.receivePairReq frame))

/-- HOOK_RECEIVED (R131). -/
def execHookReceived (frame : RxFrame) (s : State) : Host.Outcome State Fault Refusal :=
  .next (finish s (s.receiveHook frame))

/-- OTHER_FRAME_RECEIVED (R98): a frame that serves only for liveness. -/
def execOtherFrameReceived (_kind : Nat) (frame : RxFrame) (s : State) : Host.Outcome State Fault Refusal :=
  .next (finish s (s.receive frame false id))

/-- BREAK_BEGIN (R99), with the sender of a reception it ends, if that was received whole. -/
def execBreakBegin (sender : Option Nat) (s : State) : Host.Outcome State Fault Refusal :=
  .next (finish s (s.beginBreak sender))

/-- BREAK_END (R99). -/
def execBreakEnd (s : State) : Host.Outcome State Fault Refusal :=
  .next (finish s (s.endBreak))

/-- STATUS_TIMER_EXPIRY (R103). -/
def execStatusTimerExpiry (s : State) : Host.Outcome State Fault Refusal :=
  .next (finish s (s.statusPeriod))

/-- TIME_TIMER_EXPIRY (R103). -/
def execTimeTimerExpiry (s : State) : Host.Outcome State Fault Refusal :=
  .next (finish s (s.timePeriod))

/-- SILENCE_TIMER_EXPIRY (R112). -/
def execSilenceTimerExpiry (address : Nat) (s : State) : Host.Outcome State Fault Refusal :=
  .next (finish s (s.silenceExpires address))

/-- WAIT_TIMER_EXPIRY (R133). -/
def execWaitTimerExpiry (callId : Nat) (s : State) : Host.Outcome State Fault Refusal :=
  .next (finish s (s.waitExpires callId))

/-- RING_TIMER_EXPIRY (R133). -/
def execRingTimerExpiry (callId : Nat) (s : State) : Host.Outcome State Fault Refusal :=
  .next (finish s (s.ringExpires callId))

/-- REANNOUNCE_TIMER_EXPIRY (R136). -/
def execReannounceTimerExpiry (s : State) : Host.Outcome State Fault Refusal :=
  .next (finish s (s.reannounceExpires))

/-- START_BIT_RECEIVED (R91), with the recessive bit times counted before the edge. -/
def execStartBitReceived (recessive : Nat) (s : State) : Host.Outcome State Fault Refusal :=
  .next (finish s (s.startBit recessive))

/-- CALL_VIEW_TIMER_SECOND (R141). -/
def execCallViewTimerSecond (s : State) : Host.Outcome State Fault Refusal :=
  .next (finish s (s.callSeconds))

end Sys2Proof.Machine
end

