-- ==== Sys2Proof/Machine/ExecOrders.lean ====
section
/-! DEFINITION. The meanings of the 26 orders: each is dispatched, with its arguments, for the slip it
was taken from (R171; log 1), and the update counters follow (R166). -/

namespace Sys2Proof.Machine

open Sys2Proof

/-- START (R150): the six active tables are validated, and the supervisor leaves STANDBY for HELD. -/
def execStart (slip : Nat) (s : State) : Host.Outcome State Fault Refusal :=
  .next (finish s (s.dispatch slip .start))

/-- STOP (R151): OPERATOR_STOP is made in CLEARED_UNACKED. -/
def execStop (slip : Nat) (s : State) : Host.Outcome State Fault Refusal :=
  .next (finish s (s.dispatch slip .stop))

/-- FAST_STOP (R151): OPERATOR_FAST is made in CLEARED_UNACKED. -/
def execFastStop (slip : Nat) (s : State) : Host.Outcome State Fault Refusal :=
  .next (finish s (s.dispatch slip .fastStop))

/-- RESUME (R152): from HELD at standstill with no latched cause, the line is in RUN and CHAIN_OUT closes. -/
def execResume (slip : Nat) (s : State) : Host.Outcome State Fault Refusal :=
  .next (finish s (s.dispatch slip .resume))

/-- SET_CEILING (R159): the operator ceiling, clamped to the design maximum. -/
def execSetCeiling (slip : Nat) (value : Nat) (s : State) : Host.Outcome State Fault Refusal :=
  .next (finish s (s.dispatch slip (.setCeiling value)))

/-- ACK_CAUSE (R146): a slot 0 to 31 with its code, or ALL with 255 (R190). -/
def execAckCause (slip : Nat) (cause code : Nat) (s : State) : Host.Outcome State Fault Refusal :=
  .next (finish s (s.dispatch slip (.ackCause cause code)))

/-- REBUILD_TRACK (R21, R22): the track is replaced by (cabin, zone) pairs, front first. -/
def execRebuildTrack (slip : Nat) (pairs : List (Nat × Nat)) (s : State) : Host.Outcome State Fault Refusal :=
  .next (finish s (s.dispatch slip (.rebuildTrack pairs)))

/-- BAR_CABIN (R25). -/
def execBarCabin (slip : Nat) (cabin : Nat) (s : State) : Host.Outcome State Fault Refusal :=
  .next (finish s (s.dispatch slip (.barCabin cabin)))

/-- UNBAR_CABIN (R25), refused while three or more of the cabin's grades are WEAK. -/
def execUnbarCabin (slip : Nat) (cabin : Nat) (s : State) : Host.Outcome State Fault Refusal :=
  .next (finish s (s.dispatch slip (.unbarCabin cabin)))

/-- GARAGE_CABIN (R26): the cabin is diverted the next time it stands at the gate. -/
def execGarageCabin (slip : Nat) (cabin : Nat) (s : State) : Host.Outcome State Fault Refusal :=
  .next (finish s (s.dispatch slip (.garageCabin cabin)))

/-- RELEASE_CABIN (R82): a long order that waits for G_OUT. -/
def execReleaseCabin (slip : Nat) (cabin : Nat) (s : State) : Host.Outcome State Fault Refusal :=
  .next (finish s (s.dispatch slip (.releaseCabin cabin)))

/-- SET_DRIVE_MODE (R45): at once, or pending while the channel strokes. -/
def execSetDriveMode (slip : Nat) (channel mode : Nat) (s : State) : Host.Outcome State Fault Refusal :=
  .next (finish s (s.dispatch slip (.setDriveMode channel mode)))

/-- HALT_DRIVE (R48): a running stroke is stopped, and the channel is HALTED. -/
def execHaltDrive (slip : Nat) (channel : Nat) (s : State) : Host.Outcome State Fault Refusal :=
  .next (finish s (s.dispatch slip (.haltDrive channel)))

/-- STROKE (R46, R47): a long order that drives a channel in MANUAL through one stroke. -/
def execStroke (slip : Nat) (channel direction : Nat) (s : State) : Host.Outcome State Fault Refusal :=
  .next (finish s (s.dispatch slip (.stroke channel direction)))

/-- SEND_NOTE (R105): a long order that queues a NOTE frame. -/
def execSendNote (slip : Nat) (dest : Nat) (code : Word) (text : List Byte) (s : State) : Host.Outcome State Fault Refusal :=
  .next (finish s (s.dispatch slip (.sendNote dest code text)))

/-- EXCLUDE_STATION (R120). -/
def execExcludeStation (slip : Nat) (address : Nat) (s : State) : Host.Outcome State Fault Refusal :=
  .next (finish s (s.dispatch slip (.excludeStation address)))

/-- INCLUDE_STATION (R121). -/
def execIncludeStation (slip : Nat) (address : Nat) (s : State) : Host.Outcome State Fault Refusal :=
  .next (finish s (s.dispatch slip (.includeStation address)))

/-- CALL (R138): a long order that asks for the pair on behalf of the valley handset. -/
def execCall (slip : Nat) (callee kind : Nat) (s : State) : Host.Outcome State Fault Refusal :=
  .next (finish s (s.dispatch slip (.call callee kind)))

/-- ANSWER (R139). -/
def execAnswer (slip : Nat) (callId : Nat) (s : State) : Host.Outcome State Fault Refusal :=
  .next (finish s (s.dispatch slip (.answer callId)))

/-- HANG_UP (R140). -/
def execHangUp (slip : Nat) (callId : Nat) (s : State) : Host.Outcome State Fault Refusal :=
  .next (finish s (s.dispatch slip (.hangUp callId)))

/-- ADOPT (R179): the pending copy of a table becomes active. -/
def execAdopt (slip : Nat) (table : Nat) (s : State) : Host.Outcome State Fault Refusal :=
  .next (finish s (s.dispatch slip (.adopt table)))

/-- UNLOCK (R180) of a table, or of ALL with 255. -/
def execUnlock (slip : Nat) (table : Nat) (s : State) : Host.Outcome State Fault Refusal :=
  .next (finish s (s.dispatch slip (.unlock table)))

/-- LOCK (R180) of a table, or of ALL with 255, to LOCKED or TIGHT. -/
def execLock (slip : Nat) (table level : Nat) (s : State) : Host.Outcome State Fault Refusal :=
  .next (finish s (s.dispatch slip (.lock table level)))

/-- LOAD_SET (R183), in STANDBY. -/
def execLoadSet (slip : Nat) (set : Nat) (s : State) : Host.Outcome State Fault Refusal :=
  .next (finish s (s.dispatch slip (.loadSet set)))

/-- SAVE_SET (R182): a long order that writes the six active copies into a user set. -/
def execSaveSet (slip : Nat) (set : Nat) (s : State) : Host.Outcome State Fault Refusal :=
  .next (finish s (s.dispatch slip (.saveSet set)))

/-- SET_CLOCK (R185). -/
def execSetClock (slip : Nat) (seconds : DWord) (s : State) : Host.Outcome State Fault Refusal :=
  .next (finish s (s.dispatch slip (.setClock seconds)))

end Sys2Proof.Machine
end

