-- ==== Sys2Proof/Machine/ExecRope.lean ====
section
/-! DEFINITION. The meanings of the rope events, the window ends, and the events of the supervisor and
the setup store. -/

namespace Sys2Proof.Machine

open Sys2Proof

/-- TACH_PULSE (R52). -/
def execTachPulse (tach : Tach) (s : State) : Host.Outcome State Fault Refusal :=
  .next (finish s (s.pulse tach))

/-- ROPE_WINDOW_END (R51), with the sample of TENSION (R62). -/
def execRopeWindowEnd (tension : Nat) (s : State) : Host.Outcome State Fault Refusal :=
  .next (finish s (s.ropeWindow tension))

/-- TRACK_WINDOW_END (R18, R19, R44). -/
def execTrackWindowEnd (s : State) : Host.Outcome State Fault Refusal :=
  .next (finish s (s.trackWindow))

/-- LAUNCH_WINDOW_END (R73, R79). -/
def execLaunchWindowEnd (s : State) : Host.Outcome State Fault Refusal :=
  .next (finish s (s.launchWindow))

/-- SUPERVISOR_WINDOW_END (R160). -/
def execSupervisorWindowEnd (s : State) : Host.Outcome State Fault Refusal :=
  .next (finish s (s.supervisorWindow))

/-- LOOP_INPUT_CHANGE (R67). -/
def execLoopInputChange (loop : RopeLoop) (closed : Bool) (s : State) : Host.Outcome State Fault Refusal :=
  .next (finish s (s.loopInput loop closed))

/-- LOOP_TIMER_EXPIRY (R67, R68). -/
def execLoopTimerExpiry (loop : RopeLoop) (s : State) : Host.Outcome State Fault Refusal :=
  .next (finish s (s.loopExpiry loop))

/-- CHAIN_SENSE_CHANGE (R155). -/
def execChainSenseChange (closed : Bool) (s : State) : Host.Outcome State Fault Refusal :=
  .next (finish s (s.chainSenseChange closed))

/-- SETUP_KEY_CHANGE (R180). -/
def execSetupKeyChange (active : Bool) (s : State) : Host.Outcome State Fault Refusal :=
  .next (finish s (s.keyChange active))

/-- SAVE_SET_DONE (R182). -/
def execSaveSetDone (s : State) : Host.Outcome State Fault Refusal :=
  .next (finish s (s.saveDone))

/-- CLOCK_SECOND (R185). -/
def execClockSecond (s : State) : Host.Outcome State Fault Refusal :=
  .next (finish s (s.clockSecond))

end Sys2Proof.Machine
end

