-- ==== Sys2Proof/Machine/ExecSensors.lean ====
section
/-! DEFINITION. The meanings of the sensor events and timers of the track, the launch unit and the door
drives. -/

namespace Sys2Proof.Machine

open Sys2Proof

/-- A channel's input takes a level (R28, R37). -/
def State.setInput (s : State) (c : Channel) (f : ChannelPins → ChannelPins) : State :=
  s.updPins fun p => { p with channels := p.channels.set c (f (p.channels.get c)) }

/-- An edge of BOUNDARY_EDGE: the track unit's part, and for B5 falling the end of a grip test after it (R14, R84;
log 8). -/
def State.boundaryEdge (s : State) (edge : EdgeAt) : State :=
  match edge with
  | .b5 => ((s.updPins fun p => { p with b5 := false }).edgeAt 5).endGripTest
  | _ => s.edgeAt (boundaryOf edge)

/-- ARRIVAL (R9): B0 rises. -/
def execArrival (s : State) : Host.Outcome State Fault Refusal :=
  .next (finish s (s.edgeB0))

/-- TAG_FRAME (R10, R194): bytes from the tag reader; a frame is complete at its fourth byte. -/
def execTagFrame (bytes : List TagByte) (s : State) : Host.Outcome State Fault Refusal :=
  .next (finish s (bytes.foldl (fun t b => t.tagByte b) s))

/-- TAG_BYTE_GAP_TIMEOUT (R194). -/
def execTagByteGapTimeout (s : State) : Host.Outcome State Fault Refusal :=
  .next (finish s (s.tagGap))

/-- BOUNDARY_EDGE (R14, R84): B1, B2, B3 or B6 rising, or B5 falling, which also ends a grip test. -/
def execBoundaryEdge (edge : EdgeAt) (s : State) : Host.Outcome State Fault Refusal :=
  .next (finish s (s.boundaryEdge edge))

/-- CABIN_AT_GATE (R17): B4 rises. -/
def execCabinAtGate (s : State) : Host.Outcome State Fault Refusal :=
  .next (finish s (s.edgeB4))

/-- B4_FALLING (R74, R77, R80). -/
def execB4Falling (s : State) : Host.Outcome State Fault Refusal :=
  .next (finish s (s.b4Falling))

/-- B5_RISING (R81, R84). -/
def execB5Rising (s : State) : Host.Outcome State Fault Refusal :=
  .next (finish s (s.b5Rising))

/-- G_IN_RISING (R81). -/
def execGInRising (s : State) : Host.Outcome State Fault Refusal :=
  .next (finish s (s.gIn))

/-- G_OUT_RISING (R83). -/
def execGOutRising (s : State) : Host.Outcome State Fault Refusal :=
  .next (finish s (s.gOut))

/-- LATCH_CHANGE (R4, R75). -/
def execLatchChange (active : Bool) (s : State) : Host.Outcome State Fault Refusal :=
  .next (finish s (s.latchChange active))

/-- PROOF_TIMER_EXPIRY (R75). -/
def execProofTimerExpiry (s : State) : Host.Outcome State Fault Refusal :=
  .next (finish s (s.proofExpires))

/-- INSERTION_TIMEOUT (R83). -/
def execInsertionTimeout (s : State) : Host.Outcome State Fault Refusal :=
  .next (finish s (s.insertionExpires))

/-- OPEN_LIM_ACTIVE (R38, R40); the level is recorded for the tests at stroke starts (log 18). -/
def execOpenLimActive (channel : Channel) (active : Bool) (s : State) : Host.Outcome State Fault Refusal :=
  .next (finish s ((s.setInput channel fun p => { p with openLim := active }).when active (·.openLimit channel)))

/-- CLOSED_LIM_ACTIVE (R39); the level is recorded (log 18). -/
def execClosedLimActive (channel : Channel) (active : Bool) (s : State) : Host.Outcome State Fault Refusal :=
  .next (finish s ((s.setInput channel fun p => { p with closedLim := active }).when active (·.closedLimit channel)))

/-- OBSTR_ACTIVE (R39, R40); the level is recorded (log 18). -/
def execObstrActive (channel : Channel) (active : Bool) (s : State) : Host.Outcome State Fault Refusal :=
  .next (finish s ((s.setInput channel fun p => { p with obstr := active }).when active (·.obstructed channel)))

/-- OPEN_TIME_EXPIRY (R38, R41). -/
def execOpenTimeExpiry (channel : Channel) (s : State) : Host.Outcome State Fault Refusal :=
  .next (finish s (s.strokeTimeout channel .strokingOpen))

/-- CLOSE_TIME_EXPIRY (R39, R41). -/
def execCloseTimeExpiry (channel : Channel) (s : State) : Host.Outcome State Fault Refusal :=
  .next (finish s (s.strokeTimeout channel .strokingClose))

/-- REVERSE_TIME_EXPIRY (R40). -/
def execReverseTimeExpiry (channel : Channel) (s : State) : Host.Outcome State Fault Refusal :=
  .next (finish s (s.strokeTimeout channel .reversing))

/-- GRIP_FORCE_SAMPLE (R84). -/
def execGripForceSample (force : Nat) (s : State) : Host.Outcome State Fault Refusal :=
  .next (finish s (s.forceSample force))

end Sys2Proof.Machine
end

