-- ==== Sys2Proof/Machine/Dispatch.lean ====
section
/-! DEFINITION. The meaning of every command: one arm for each constructor of `Instr`. -/

namespace Sys2Proof.Machine

open Sys2Proof

/-- A command's effect on everything but the queue. -/
def exec (i : Instr) (s : State) : Host.Outcome State Fault Refusal :=
  match i with
  | .start slip => Sys2Proof.Machine.execStart slip s
  | .stop slip => Sys2Proof.Machine.execStop slip s
  | .fastStop slip => Sys2Proof.Machine.execFastStop slip s
  | .resume slip => Sys2Proof.Machine.execResume slip s
  | .setCeiling slip value => Sys2Proof.Machine.execSetCeiling slip value s
  | .ackCause slip slot code => Sys2Proof.Machine.execAckCause slip slot code s
  | .rebuildTrack slip pairs => Sys2Proof.Machine.execRebuildTrack slip pairs s
  | .barCabin slip cabin => Sys2Proof.Machine.execBarCabin slip cabin s
  | .unbarCabin slip cabin => Sys2Proof.Machine.execUnbarCabin slip cabin s
  | .garageCabin slip cabin => Sys2Proof.Machine.execGarageCabin slip cabin s
  | .releaseCabin slip cabin => Sys2Proof.Machine.execReleaseCabin slip cabin s
  | .setDriveMode slip channel mode => Sys2Proof.Machine.execSetDriveMode slip channel mode s
  | .haltDrive slip channel => Sys2Proof.Machine.execHaltDrive slip channel s
  | .stroke slip channel direction => Sys2Proof.Machine.execStroke slip channel direction s
  | .sendNote slip dest code text => Sys2Proof.Machine.execSendNote slip dest code text s
  | .excludeStation slip address => Sys2Proof.Machine.execExcludeStation slip address s
  | .includeStation slip address => Sys2Proof.Machine.execIncludeStation slip address s
  | .call slip callee kind => Sys2Proof.Machine.execCall slip callee kind s
  | .answer slip callId => Sys2Proof.Machine.execAnswer slip callId s
  | .hangUp slip callId => Sys2Proof.Machine.execHangUp slip callId s
  | .adopt slip table => Sys2Proof.Machine.execAdopt slip table s
  | .unlock slip table => Sys2Proof.Machine.execUnlock slip table s
  | .lock slip table level => Sys2Proof.Machine.execLock slip table level s
  | .loadSet slip set => Sys2Proof.Machine.execLoadSet slip set s
  | .saveSet slip set => Sys2Proof.Machine.execSaveSet slip set s
  | .setClock slip seconds => Sys2Proof.Machine.execSetClock slip seconds s
  | .postWrite value => Sys2Proof.Machine.execPostWrite value s
  | .newsWrite value => Sys2Proof.Machine.execNewsWrite value s
  | .enableWrite value => Sys2Proof.Machine.execEnableWrite value s
  | .resetSequenceArm => Sys2Proof.Machine.execResetSequenceArm s
  | .controlReset => Sys2Proof.Machine.execControlReset s
  | .hostReadCountWrite high => Sys2Proof.Machine.execHostReadCountWrite high s
  | .hostMemoryWrite target value => Sys2Proof.Machine.execHostMemoryWrite target value s
  | .powerUp backupHeld seconds ms => Sys2Proof.Machine.execPowerUp backupHeld seconds ms s
  | .pinReset => Sys2Proof.Machine.execPinReset s
  | .arrival => Sys2Proof.Machine.execArrival s
  | .tagFrame bytes => Sys2Proof.Machine.execTagFrame bytes s
  | .tagByteGapTimeout => Sys2Proof.Machine.execTagByteGapTimeout s
  | .boundaryEdge edge => Sys2Proof.Machine.execBoundaryEdge edge s
  | .cabinAtGate => Sys2Proof.Machine.execCabinAtGate s
  | .b4Falling => Sys2Proof.Machine.execB4Falling s
  | .b5Rising => Sys2Proof.Machine.execB5Rising s
  | .gInRising => Sys2Proof.Machine.execGInRising s
  | .gOutRising => Sys2Proof.Machine.execGOutRising s
  | .latchChange active => Sys2Proof.Machine.execLatchChange active s
  | .proofTimerExpiry => Sys2Proof.Machine.execProofTimerExpiry s
  | .insertionTimeout => Sys2Proof.Machine.execInsertionTimeout s
  | .openLimActive channel active => Sys2Proof.Machine.execOpenLimActive channel active s
  | .closedLimActive channel active => Sys2Proof.Machine.execClosedLimActive channel active s
  | .obstrActive channel active => Sys2Proof.Machine.execObstrActive channel active s
  | .openTimeExpiry channel => Sys2Proof.Machine.execOpenTimeExpiry channel s
  | .closeTimeExpiry channel => Sys2Proof.Machine.execCloseTimeExpiry channel s
  | .reverseTimeExpiry channel => Sys2Proof.Machine.execReverseTimeExpiry channel s
  | .tachPulse tach => Sys2Proof.Machine.execTachPulse tach s
  | .ropeWindowEnd tension => Sys2Proof.Machine.execRopeWindowEnd tension s
  | .trackWindowEnd => Sys2Proof.Machine.execTrackWindowEnd s
  | .launchWindowEnd => Sys2Proof.Machine.execLaunchWindowEnd s
  | .supervisorWindowEnd => Sys2Proof.Machine.execSupervisorWindowEnd s
  | .loopInputChange loop closed => Sys2Proof.Machine.execLoopInputChange loop closed s
  | .loopTimerExpiry loop => Sys2Proof.Machine.execLoopTimerExpiry loop s
  | .chainSenseChange closed => Sys2Proof.Machine.execChainSenseChange closed s
  | .setupKeyChange active => Sys2Proof.Machine.execSetupKeyChange active s
  | .saveSetDone => Sys2Proof.Machine.execSaveSetDone s
  | .clockSecond => Sys2Proof.Machine.execClockSecond s
  | .idleGapReached => Sys2Proof.Machine.execIdleGapReached s
  | .transmitAttempt => Sys2Proof.Machine.execTransmitAttempt s
  | .arbitrationLoss => Sys2Proof.Machine.execArbitrationLoss s
  | .bitError => Sys2Proof.Machine.execBitError s
  | .ackSlotOutcome acknowledged => Sys2Proof.Machine.execAckSlotOutcome acknowledged s
  | .receiveError sender => Sys2Proof.Machine.execReceiveError sender s
  | .tripReceived frame => Sys2Proof.Machine.execTripReceived frame s
  | .statusReceived frame => Sys2Proof.Machine.execStatusReceived frame s
  | .noteReceived frame => Sys2Proof.Machine.execNoteReceived frame s
  | .pairReqReceived frame => Sys2Proof.Machine.execPairReqReceived frame s
  | .hookReceived frame => Sys2Proof.Machine.execHookReceived frame s
  | .otherFrameReceived kind frame => Sys2Proof.Machine.execOtherFrameReceived kind frame s
  | .breakBegin sender => Sys2Proof.Machine.execBreakBegin sender s
  | .breakEnd => Sys2Proof.Machine.execBreakEnd s
  | .statusTimerExpiry => Sys2Proof.Machine.execStatusTimerExpiry s
  | .timeTimerExpiry => Sys2Proof.Machine.execTimeTimerExpiry s
  | .silenceTimerExpiry address => Sys2Proof.Machine.execSilenceTimerExpiry address s
  | .waitTimerExpiry callId => Sys2Proof.Machine.execWaitTimerExpiry callId s
  | .ringTimerExpiry callId => Sys2Proof.Machine.execRingTimerExpiry callId s
  | .reannounceTimerExpiry => Sys2Proof.Machine.execReannounceTimerExpiry s
  | .gripForceSample force => Sys2Proof.Machine.execGripForceSample force s
  | .startBitReceived recessive => Sys2Proof.Machine.execStartBitReceived recessive s
  | .callViewTimerSecond => Sys2Proof.Machine.execCallViewTimerSecond s

end Sys2Proof.Machine
end

