-- ==== Sys2Proof/Machine/Step.lean ====
section
/-! DEFINITION. One step of the block: the command at the front of the queue is taken, or the block idles for 1 ms.
No word spells a command, so `withFetchWord` changes nothing (log 17). -/

namespace Sys2Proof.Machine

open Sys2Proof

/-- With no command waiting, time passes by 1 ms; where a whole second since the last reset is full, the up-time on the
front page changes, and its update counter with it (R166, R186; log 2). -/
def State.idle (s : State) : State := finish s { s with now := s.now + 1 }

/-- One step: the command at the front of the queue, first in, first out. -/
def step (s : State) : Host.Outcome State Fault Refusal :=
  match s.pending with
  | [] => .next s.idle
  | c :: rest => exec c { s with pending := rest }

/-- A state with the command that a word spells at the front of its queue: the table gives no row a bit, so there is
none (log 17). -/
def State.withFetchWord (s : State) (_nbits _w : Nat) : State := s

end Sys2Proof.Machine
end

