-- ==== Sys2Proof/Safety.lean ====
section
/-! DEFINITION. What counts as a safe state of the part, in the terms the claims use: the safety chain and the speed
reference obey the cause list, the tables keep their sizes, and terminal memory is in its canonical form. -/

namespace Sys2Proof.Machine

open Sys2Proof

/-- The chain and the speed outputs obey the supervisor state and the cause list (R149, R154, R156 to R158): CHAIN_OUT
is closed exactly in RUN and STOPPING_SERVICE, and then no FAST entry is listed; no latched entry is listed in RUN;
the ceiling target is that of R156; the ceiling in force does not exceed it; SPEED_REF is that of R158. -/
structure State.Obeys (s : State) : Prop where
  chain : s.msv.chainOut = s.msv.state.chainClosed
  fast : s.msv.hasFast = true → s.msv.state.chainClosed = false
  latched : s.msv.hasLatched = true → s.msv.state ≠ .run
  target : s.msv.target = s.ceilingTarget
  ceiling : s.msv.ceiling ≤ s.msv.target
  speedRef : s.msv.speedRef = speedRefOf s.msv.ceiling s.sst.active.rope.designMax

/-- The categories in which the blocks raise a code (R148). -/
def CauseCode.categories : CauseCode → List Category
  | .tagReader | .tensionWarn | .exclusionActive => [.limit]
  | .remoteTrip => [.service, .fast]
  | .trackOverflow | .uncommandedLaunch | .gripFail | .departBunched | .tensionTrip | .rpdLocal | .rpdRemote
  | .stationSilent | .lineBreak | .overspeed | .decelFail | .ropeCreep | .externalChain | .operatorFast
  | .causeOverflow => [.fast]
  | .phantom | .overdue | .trackLost | .arrivalBunched | .doorOpenFail | .doorJam | .doorMissed | .gateJam
  | .gateLate | .driveOff | .doorNotProven | .launchQueueFull | .divertFail | .gripHigh | .tachoDisagree
  | .tensionSensor | .operatorStop => [.service]

/-- The cause list is in order: no two ordinary entries have one identity (R142), and each has a category of its
code (R148). -/
structure State.CausesOk (s : State) : Prop where
  identity : (s.msv.causes.map fun c => (c.code, c.index)).Nodup
  category : ∀ c ∈ s.msv.causes, c.category ∈ c.code.categories

/-- The tables of the part keep their sizes (R2, R23, R100, R109, R126, R142, R172, R174, R177). -/
structure State.Sized (s : State) : Prop where
  track : s.trk.entries.length ≤ 16
  fleet : s.fleet.length = 96
  queue : s.lnc.queue.length ≤ 16
  calls : s.cal.table.length ≤ 5
  causes : s.msv.causes.length ≤ 31
  contexts : s.obc.contexts.length = 8
  journal : s.obc.journal.length ≤ 256
  stations : s.stn.records.length = 14
  sheaves : ∀ r ∈ s.stn.records, r.sheaves.length = 4 ∧ r.sheaveActive.length = 4
  revisions : s.sst.revisions.length = 6
  locks : s.sst.locks.length = 6

/-- The names of track entries and calls are in order, and two kept values agree with what they tell: the Z3 count with
the track (R78), and the mark of an active speed cause with the cause list (R160). -/
structure State.Named (s : State) : Prop where
  entries : (s.trk.entries.map (·.uid)).Nodup
  fresh : ∀ e ∈ s.trk.entries, e.uid < s.trk.nextUid
  z3 : s.lch.z3Count = s.countZ3
  calls : (s.cal.table.map (·.id)).Nodup
  nextCall : 1 ≤ s.cal.nextId ∧ s.cal.nextId ≤ 255 ∧ ∀ r ∈ s.cal.table, r.id ≠ s.cal.nextId
  callRange : ∀ r ∈ s.cal.table, 1 ≤ r.id ∧ r.id ≤ 255
  waiting : ∀ r ∈ s.cal.table.tail, r.state = .waiting
  speed : ∀ c ∈ s.msv.causes, c.sub ≠ .clearedUnacked →
    (c.code = .overspeed → c.index = 0 ∧ s.msv.overspeed = true) ∧
    (c.code = .decelFail → c.index = 0 ∧ s.msv.decelFail = true) ∧
    (c.code = .ropeCreep → c.index = 0 ∧ s.msv.ropeCreep = true)

/-- Entries, pairs and frames agree with what they are: a REMOTE_TRIP entry has the category of its index, FAST from 16
up (R116); the LIMIT register holds pairs of LIMIT codes alone (R147, R148); every TRIP that waits to be sent is addressed
to all (R104). -/
structure State.Consistent (s : State) : Prop where
  remote : ∀ c ∈ s.msv.causes, c.code = .remoteTrip → c.category = if 16 ≤ c.index then .fast else .service
  limits : ∀ p ∈ s.msv.limits, p.1.categories = [.limit]
  trips : ∀ f ∈ s.lnc.queue, f.kind = .trip → f.dest = 15

/-- A run of commands stays safe from a state: each step answers a next state, and each state it passes is safe. -/
def State.SafeRun : Nat → State → Prop
  | 0, s => s.Obeys
  | k + 1, s => s.Obeys ∧ ∃ t, step s = .next t ∧ State.SafeRun k t

/-! ## What a command leaves unchanged -/

/-- The bytes of a slip that the part writes: its state, and its result code, length and data (R170, R190). -/
def resultByte (slip a : Nat) : Prop := a = slipBase slip + 2 ∨ (slipBase slip + 44 ≤ a ∧ a < slipBase slip + 64)

/-- Every byte of terminal memory outside the bytes that the part writes in one slip reads as before. -/
def SlipOnly (slip : Nat) (s t : State) : Prop := ∀ a, ¬ resultByte slip a → memRead t.mem a = memRead s.mem a

/-- Every byte of terminal memory outside the bytes that the part writes in the 32 slips reads as before. -/
def BoardOnly (s t : State) : Prop :=
  ∀ a, (∀ slip, slip < 32 → ¬ resultByte slip a) → memRead t.mem a = memRead s.mem a

/-- The parts of the state that a command's frame names. The update counters are not among them: every command
advances those of the regions it changed (R166; log 3). Nor are the marks of published bytes that have been written,
which say only whether a byte of unstated content still reads 0 (log 6). -/
inductive Part where
  /-- The time base, the time of the last reset and the waiting commands. -/
  | time
  | pins
  /-- Terminal memory as a whole. -/
  | mem
  /-- Terminal memory outside the bytes the part writes in slips, and its canonical form. -/
  | cells
  | trk | fleet | ddu | rpm | lch | lnc | stn | cal | msv | sst
  /-- NEWS. -/
  | news
  /-- W, the missed-kinds mask and count, and the ring of journal entries. -/
  | journal
  /-- The order contexts. -/
  | contexts
  /-- ENABLE, the armed mark, the next ticket and the taken read count. -/
  | port
  deriving DecidableEq, Repr

/-- The parts that raising or ending a cause can change: the list and what follows from it, at the gate, on the line
and for calls, and the completion of orders that a call or a frame held. -/
abbrev Part.ofCause : List Part := [.msv, .lch, .lnc, .cal, .mem, .news, .journal, .contexts]

/-- The parts that an event of the track or of a door drive can change. -/
abbrev Part.ofTrack : List Part := [.trk, .fleet, .ddu, .msv, .lch, .lnc, .cal, .mem, .news, .journal, .contexts]

/-- A part of the state is the same in two states. -/
def Part.same (s t : State) : Part → Prop
  | .time => t.now = s.now ∧ t.resetAt = s.resetAt ∧ t.pending = s.pending
  | .pins => t.pins = s.pins
  | .mem => t.mem = s.mem
  | .cells => BoardOnly s t ∧ (Memory.wf s.mem = true → Memory.wf t.mem = true)
  | .trk => t.trk = s.trk
  | .fleet => t.fleet = s.fleet
  | .ddu => t.ddu = s.ddu
  | .rpm => t.rpm = s.rpm
  | .lch => t.lch = s.lch
  | .lnc => t.lnc = s.lnc
  | .stn => t.stn = s.stn
  | .cal => t.cal = s.cal
  | .msv => t.msv = s.msv
  | .sst => t.sst = s.sst
  | .news => t.obc.news = s.obc.news
  | .journal => t.obc.written = s.obc.written ∧ t.obc.missedMask = s.obc.missedMask ∧
      t.obc.missedCount = s.obc.missedCount ∧ t.obc.journal = s.obc.journal
  | .contexts => t.obc.contexts = s.obc.contexts
  | .port => t.obc.enable = s.obc.enable ∧ t.obc.armed = s.obc.armed ∧ t.obc.nextTicket = s.obc.nextTicket ∧
      t.obc.taken = s.obc.taken

/-- A change from `s` to `t` leaves every part unchanged that is not listed. -/
structure ChangesOnly (s : State) (parts : List Part) (t : State) : Prop where
  same : ∀ p, p ∉ parts → Part.same s t p

/-- A slip holds an answer: its state DONE or REFUSED, its result code and its result data (R170, R190). -/
def State.Answered (s : State) (slip : Nat) (r : OrderResult) : Prop :=
  s.slipState slip = (if r.done then 3 else 4) ∧
    memRead s.mem (slipBase slip + 44) = byteOf r.code.code ∧
    memRead s.mem (slipBase slip + 45) = byteOf r.data.length ∧
    ∀ i, ∀ h : i < r.data.length, memRead s.mem (slipBase slip + 46 + i) = r.data[i]

end Sys2Proof.Machine
end

