-- ==== Sys2Proof/Certificates/Slice0/Obligations.lean ====
section
/-! DEFINITION. The statements for the provers, section by section of the spec. -/

open Sys2Proof Sys2Proof.Machine

/-! ## What the statements say of the cause list -/

/-- The cause list holds an ordinary entry of a code and source index in a sub-state. -/
def Sys2Proof.Machine.State.Lists (s : State) (code : CauseCode) (index : Nat) (sub : SubState) : Prop :=
  ∃ c ∈ s.msv.causes, c.isOf code index = true ∧ c.sub = sub

/-- No ordinary entry of a code and source index is ACTIVE. -/
def Sys2Proof.Machine.State.NoneActive (s : State) (code : CauseCode) (index : Nat) : Prop :=
  ∀ c ∈ s.msv.causes, c.isOf code index = true → c.sub = .clearedUnacked

/-! ## Section 1: the terminal track -/

/-- Section 1.4: an arrival in TRACKING with the rope moving, a place free, no tag window open and the spacing kept
places an entry at the back of the track, opens the tag window on it, and changes nothing else. The model's own
choices here: the model's names of entries, frames and calls (log 16). -/
def Obligations.ArrivalPlacesEntryAtBack : Prop :=
  ∀ s : State, s.trk.state = .tracking → s.rpm.standstill = false → s.trk.entries.length < 16 →
    s.trk.window = none → s.lch.z3Count = s.countZ3 →
    (∀ d, s.trk.lastArrival = some d → s.sst.active.zone.arrivalMin * 10 ≤ (s.rpm.dist - d).toNat) →
    ∃ t, exec .arrival s = .next t ∧
      t.trk = { s.trk with
        entries := s.trk.entries ++ [{ uid := s.trk.nextUid, cabin := 0, zone := 0, travel := 0, door := .latched,
                                       missedByCloser := false, gateServed := false, atGate := false,
                                       ownBarred := false, arrivalDist := s.rpm.dist, overdue := false,
                                       waiver := false }]
        window := some ⟨s.trk.nextUid, false⟩, lastArrival := some s.rpm.dist, nextUid := s.trk.nextUid + 1 } ∧
      ChangesOnly s [.trk] t

/-- R7: while the track is LOST each edge of the track unit counts at its boundary, and neither the track, a fleet
record nor a channel changes. The model's own choices here: pin rows that carry a level (log 18). -/
def Obligations.LostEdgesAreCounted : Prop :=
  ∀ s : State, s.trk.state = .lost →
    (∃ t, exec .arrival s = .next t ∧ t.trk = { s.trk with lostEdges := s.trk.lostEdges.bump 0 } ∧
      ChangesOnly s [.trk] t) ∧
    (∀ edge, s.lch.sampling = false → ∃ t, exec (.boundaryEdge edge) s = .next t ∧
      t.trk = { s.trk with lostEdges := s.trk.lostEdges.bump (boundaryOf edge) } ∧ ChangesOnly s [.trk, .pins] t) ∧
    (∃ t, exec .cabinAtGate s = .next t ∧ t.trk = { s.trk with lostEdges := s.trk.lostEdges.bump 4 } ∧
      ChangesOnly s [.trk, .pins] t)

/-- R10 to R12: a complete frame whose halves agree resolves the entry of the open tag window. A tag registered to a
cabin that is in no other entry gives it that cabin number, closes the window, sets the unknown-arrival count to 0 and
writes the cabin's fleet record. A tag of a cabin that is in another entry leaves it cabin 0, and sets the count to 0
as well. An unregistered tag leaves it cabin 0 and raises the count, which at 3 raises TAG_READER; a registered tag
ends that condition. The model's own choices here: times in the model's ms (log 2); the model's names of entries,
frames and calls (log 16). -/
def Obligations.ValidTagResolvesCabin : Prop :=
  ∀ (s : State) (hi lo : Byte) (w : TagWindow) (e : TrackEntry),
    s.trk.tagBytes = [] → s.trk.window = some w → s.entry w.uid = some e →
    let frame : List TagByte := [⟨hi, true⟩, ⟨lo, true⟩, ⟨~~~hi, true⟩, ⟨~~~lo, true⟩]
    (∀ n, s.tagCabin (hi ++ lo) = some n → (∀ x ∈ s.trk.entries, x.uid ≠ e.uid → x.cabin ≠ n) → n ≤ s.fleet.length →
      ∃ t, exec (.tagFrame frame) s = .next t ∧
        t.trk = { s.trk with
          window := none, unknownCount := 0
          entries := s.trk.entries.map fun x => if x.uid = e.uid then { x with cabin := n, overdue := false } else x } ∧
        t.fleetRec n = { s.fleetRec n with state := .inTerminal, lastArrival := some e.arrivalDist } ∧
        (∀ k, k ≠ n → t.fleetRec k = s.fleetRec k) ∧ (s.CausesOk → t.NoneActive .tagReader 0) ∧
        ChangesOnly s [.trk, .fleet, .msv, .lch, .journal, .news] t) ∧
    (∀ n, s.tagCabin (hi ++ lo) = some n → (∃ x ∈ s.trk.entries, x.uid ≠ e.uid ∧ x.cabin = n) →
      ∃ t, exec (.tagFrame frame) s = .next t ∧ t.trk = { s.trk with window := none, unknownCount := 0 } ∧
        (s.CausesOk → t.NoneActive .tagReader 0) ∧ ChangesOnly s [.trk, .msv, .lch, .journal, .news] t) ∧
    (s.tagCabin (hi ++ lo) = none → ∃ t, exec (.tagFrame frame) s = .next t ∧
      t.trk = { s.trk with window := none, unknownCount := min 3 (s.trk.unknownCount + 1) } ∧
      (s.trk.unknownCount < 2 → ChangesOnly s [.trk, .journal, .news] t) ∧
      (2 ≤ s.trk.unknownCount → s.msv.causes.length < 31 → t.Lists .tagReader 0 .activeUnacked ∧
        (.tagReader, 0) ∈ t.msv.limits) ∧
      ChangesOnly s (.trk :: Part.ofCause) t)

/-- R10, R194: bytes of an incomplete frame are held; a frame whose halves do not agree, a byte with a dominant stop
bit and a gap each discard the bytes held and are remembered by an open tag window. -/
def Obligations.InvalidTagIsRemembered : Prop :=
  ∀ (s : State) (a b c d : Byte), s.trk.tagBytes = [] → ¬ (c = ~~~a ∧ d = ~~~b) →
    (∃ t, exec (.tagFrame [⟨a, true⟩, ⟨b, true⟩, ⟨c, true⟩]) s = .next t ∧
      t.trk = { s.trk with tagBytes := [a, b, c] } ∧ ChangesOnly s [.trk] t) ∧
    (∃ t, exec (.tagFrame [⟨a, true⟩, ⟨b, true⟩, ⟨c, true⟩, ⟨d, true⟩]) s = .next t ∧
      t.trk = { s.trk with window := s.trk.window.map fun w => { w with invalidSeen := true } } ∧
      ChangesOnly s [.trk] t) ∧
    (∃ t, exec (.tagFrame [⟨a, true⟩, ⟨b, false⟩]) s = .next t ∧
      t.trk = { s.trk with window := s.trk.window.map fun w => { w with invalidSeen := true } } ∧
      ChangesOnly s [.trk] t) ∧
    (∀ held, held ≠ [] → ∃ t,
      exec .tagByteGapTimeout { s with trk := { s.trk with tagBytes := held } } = .next t ∧
      t.trk = { s.trk with window := s.trk.window.map fun w => { w with invalidSeen := true } } ∧
      ChangesOnly s [.trk] t) ∧
    (∃ t, exec .tagByteGapTimeout s = .next t ∧ ChangesOnly s [] t)

/-- What a boundary match reads and writes of an entry: the entry's name, cabin, zone, travel and marks. -/
def Sys2Proof.Machine.TrackEntry.place (e : TrackEntry) : Nat × Nat × Nat × Nat × Bool × Bool :=
  (e.uid, e.cabin, e.zone, e.travel, e.overdue, e.waiver)

/-- R14: at a match at B1, B2, B3 or B5 the front-most entry of the zone behind the boundary moves into the next zone
with travel 0 and its marks cleared; every other entry keeps its zone, travel and marks, and the order of the list
stays. The model's own choices here: the model's names of entries, frames and calls (log 16). -/
def Obligations.BoundaryMatchMovesFrontEntry : Prop :=
  ∀ (s : State) (edge : EdgeAt) (e : TrackEntry), edge ≠ .b6 → s.trk.state = .tracking → s.rpm.standstill = false →
    s.frontOf (boundaryOf edge - 1) = some e → (s.zoneLen e.zone * 5000 ≤ e.travel ∨ e.waiver = true) →
    ∃ t, exec (.boundaryEdge edge) s = .next t ∧ t.trk.state = .tracking ∧
      t.trk.entries.map (·.place) = (s.trk.entries.map fun x =>
        if x.uid = e.uid then (x.uid, x.cabin, boundaryOf edge, 0, false, false) else x.place) ∧
      ChangesOnly s (.pins :: Part.ofTrack) t ∧ (edge ≠ .b5 → t.pins = s.pins)

/-- R14: an edge that is no match leaves the track, the fleet and the channels unchanged: at standstill, and before
half the zone length, it is chatter, which leaves every part but the journal unchanged; with no entry behind the
boundary PHANTOM is raised. (B5 ends a grip test too, so its edge is taken here while none runs.) The model's own
choices here: pin rows that carry a level (log 18). -/
def Obligations.UnmatchedEdgesMoveNothing : Prop :=
  ∀ (s : State) (edge : EdgeAt), s.trk.state = .tracking → s.lch.sampling = false →
    (s.rpm.standstill = true →
      ∃ t, exec (.boundaryEdge edge) s = .next t ∧ (edge ≠ .b5 → t.pins = s.pins) ∧
        ChangesOnly s [.pins, .journal, .news] t) ∧
    (∀ e, s.frontOf (boundaryOf edge - 1) = some e → e.travel < s.zoneLen e.zone * 5000 → e.waiver = false →
      ∃ t, exec (.boundaryEdge edge) s = .next t ∧ ChangesOnly s [.pins, .journal, .news] t) ∧
    (s.rpm.standstill = false → s.frontOf (boundaryOf edge - 1) = none →
      ∃ t, exec (.boundaryEdge edge) s = .next t ∧
        ChangesOnly s (.pins :: Part.ofCause) t ∧
        (s.msv.causes.length < 31 → s.CausesOk →
          ∃ c ∈ t.msv.causes, c.code = .phantom ∧ c.index = boundaryOf edge ∧ c.sub = .clearedUnacked))

/-- R16: a match at B6 removes the entry, sets a numbered cabin IN_LINE, and makes the rope distance the
last-departure distance; every other entry and fleet record stays. The model's own choices here: the model's names of
entries, frames and calls (log 16). -/
def Obligations.DepartureRemovesEntry : Prop :=
  ∀ (s : State) (e : TrackEntry), s.trk.state = .tracking → s.rpm.standstill = false → s.frontOf 5 = some e →
    (s.zoneLen e.zone * 5000 ≤ e.travel ∨ e.waiver = true) →
    ∃ t, exec (.boundaryEdge .b6) s = .next t ∧
      t.trk = { s.trk with entries := s.trk.entries.filter (·.uid ≠ e.uid) } ∧
      (0 < e.cabin → e.cabin ≤ s.fleet.length → (t.fleetRec e.cabin).state = .inLine) ∧
      (∀ k, k ≠ e.cabin → t.fleetRec k = s.fleetRec k) ∧ t.lch.lastDeparture = some s.rpm.dist ∧
      ChangesOnly s Part.ofTrack t

/-- R17, R71: B4 rising with an entry in Z3 that does not stand at the gate sets AT_GATE on it, makes its door state
LATCHED if LATCH is active, and makes it the gate entry. With its door not proven the gate stays HOLDING. The model's
own choices here: the model's names of entries, frames and calls (log 16); pin rows that carry a level (log 18). -/
def Obligations.CabinComesToGate : Prop :=
  ∀ (s : State) (e : TrackEntry), s.trk.state = .tracking → s.rpm.standstill = false → s.frontOf 3 = some e →
    e.atGate = false → s.lch.gate = .empty → (s.trk.entries.map (·.uid)).Nodup →
    ∃ t, exec .cabinAtGate s = .next t ∧ t.pins = { s.pins with b4 := true } ∧
      t.trk.entries = (s.trk.entries.map fun x =>
        if x.uid = e.uid then
          { x with atGate := true, door := if s.pins.latch then .latched else x.door }
        else x) ∧
      t.lch.gateEntry = some e.uid ∧ t.lch.gate ≠ .empty ∧
      (s.pins.latch = false → s.entryGarage e = false → t.lch.gate = .holding) ∧
      ChangesOnly s [.pins, .trk, .lch, .journal, .news] t

/-- R18, R19: at a window end in TRACKING every entry outside Z3 accrues the window travel at its zone's ratio,
saturating, and is marked overdue when its travel exceeds 125 % of its zone; an entry in Z3 accrues nothing. The
model's own choices here: the model's names of entries, frames and calls (log 16). -/
def Obligations.WindowEndAccruesTravel : Prop :=
  ∀ s : State, s.trk.state = .tracking → (s.trk.entries.map (·.uid)).Nodup →
    ∃ t, exec .trackWindowEnd s = .next t ∧
      t.trk.entries.map (·.place) = s.trk.entries.map (fun x =>
        if x.zone = 3 then x.place
        else
          let d := min 4294967295 (x.travel + s.rpm.dWin * s.zoneRatio x.zone / 1000)
          (x.uid, x.cabin, x.zone, d, x.overdue || decide (s.zoneLen x.zone * 12500 < d), x.waiver)) ∧
      ChangesOnly s Part.ofTrack t

/-- R21, R22: an accepted REBUILD_TRACK replaces the track by one entry for each pair, in the given order, with travel
0 and the first-match waiver set, sets TRACKING, closes the tag window and answers OK. The model's own choices here:
orders as commands with their slip (log 1). -/
def Obligations.RebuildReplacesTrack : Prop :=
  ∀ (s : State) (slip : Nat) (pairs : List (Nat × Nat)), slip < 32 → Memory.wf s.mem = true →
    (s.msv.state = .standby ∨ s.msv.state = .held) → s.rpm.standstill = true → s.pairsOk pairs = true →
    s.lch.divert = none →
    ∃ t, exec (.rebuildTrack slip pairs) s = .next t ∧
      t.trk.state = .tracking ∧ t.trk.window = none ∧ t.trk.lastArrival = none ∧
      t.trk.entries.map (fun x => (x.cabin, x.zone, x.travel, x.arrivalDist, x.overdue, x.waiver)) =
        pairs.map (fun p => (p.1, p.2, 0, s.rpm.dist, false, true)) ∧
      t.trk.lostEdges = s.trk.lostEdges ∧
      (∀ p ∈ pairs, 0 < p.1 → p.1 ≤ s.fleet.length → (t.fleetRec p.1).state = .inTerminal) ∧
      (∀ k, (s.fleetRec k).state = .inTerminal → (∀ p ∈ pairs, p.1 ≠ k) → 0 < k → (t.fleetRec k).state = .unplaced) ∧
      t.Answered slip resultOk ∧
      ChangesOnly s Part.ofTrack t

/-- R25, R26: outside STANDBY, BAR_CABIN sets and UNBAR_CABIN clears BARRED of the cabin's record, and GARAGE_CABIN
sets GARAGE_PENDING; each answers OK, changes no other record, and writes no byte of memory outside its slip. The
model's own choices here: orders as commands with their slip (log 1). -/
def Obligations.CabinOrdersSetTheirFlag : Prop :=
  ∀ (s : State) (slip n : Nat), slip < 32 → Memory.wf s.mem = true → s.msv.state ≠ .standby → 1 ≤ n → n ≤ 96 →
    s.fleet.length = 96 →
    (∃ t, exec (.barCabin slip n) s = .next t ∧ t.fleetRec n = { s.fleetRec n with barred := true } ∧
      (∀ k, k ≠ n → t.fleetRec k = s.fleetRec k) ∧ t.Answered slip resultOk ∧ SlipOnly slip s t ∧
      ChangesOnly s [.fleet, .lch, .journal, .news, .mem] t) ∧
    ((s.fleetRec n).weakCount < 3 →
      ∃ t, exec (.unbarCabin slip n) s = .next t ∧ t.fleetRec n = { s.fleetRec n with barred := false } ∧
      (∀ k, k ≠ n → t.fleetRec k = s.fleetRec k) ∧ t.Answered slip resultOk ∧ SlipOnly slip s t ∧
      ChangesOnly s [.fleet, .lch, .journal, .news, .mem] t) ∧
    (s.registered n = true → (s.fleetRec n).state ≠ .garaged →
      ∃ t, exec (.garageCabin slip n) s = .next t ∧ t.fleetRec n = { s.fleetRec n with garagePending := true } ∧
      (∀ k, k ≠ n → t.fleetRec k = s.fleetRec k) ∧ t.Answered slip resultOk ∧ SlipOnly slip s t ∧
      ChangesOnly s [.fleet, .lch, .journal, .news, .mem] t)

/-! ## Section 2: door and gate drives -/

/-- What a channel holds as a stroke of its active door plan begins (R37). -/
def Sys2Proof.Machine.Chan.begun (x : Chan) (p : ChannelPlan) (now : Nat) (close : Bool) (origin : Origin) : Chan :=
  { x with
    state := if close then .strokingClose else .strokingOpen
    origin := origin, retry := 0, params := ⟨p.openTime, p.closeTime, p.reverseTime, p.recloseLimit⟩
    timer := some (now + if close then p.closeTime else p.openTime) }

/-- R34, R37: the entry matched at B1 engages the opener and the entry matched at B3 the closer, where the channel is
IDLE, unengaged and in AUTO or ONE_SHOT and no limit or obstruction shows: the stroke of the active door plan begins,
ONE_SHOT becomes MANUAL, and the entry's door state becomes OPENING or CLOSING. The model's own choices here: times in
the model's ms (log 2); the model's names of entries, frames and calls (log 16). -/
def Obligations.MatchEngagesDoorChannel : Prop :=
  ∀ (s : State) (e : TrackEntry), s.trk.state = .tracking → s.rpm.standstill = false →
    (s.trk.entries.map (·.uid)).Nodup → s.lch.gateEntry ≠ some e.uid →
    (s.zoneLen e.zone * 5000 ≤ e.travel ∨ e.waiver = true) →
    (s.frontOf 0 = some e → s.ddu.d0.serves = true → s.pins.channels.d0.openLim = false →
      ∃ t, exec (.boundaryEdge .b1) s = .next t ∧
        t.ddu = { s.ddu with d0 := (s.ddu.d0.accept e.uid).begun s.sst.active.door.channels.d0 s.now false .engagement } ∧
        (t.entry e.uid).map (·.door) = some .opening ∧
        ChangesOnly s Part.ofTrack t) ∧
    (s.frontOf 2 = some e → s.ddu.d1.serves = true → s.pins.channels.d1.closedLim = false →
      s.pins.channels.d1.obstr = false → s.ddu.d2.engaged ≠ some e.uid →
      ∃ t, exec (.boundaryEdge .b3) s = .next t ∧
        t.ddu = { s.ddu with d1 := (s.ddu.d1.accept e.uid).begun s.sst.active.door.channels.d1 s.now true .engagement } ∧
        (t.entry e.uid).map (·.door) = some .closing ∧
        ChangesOnly s Part.ofTrack t)

/-- R35: where the channel cannot serve the engagement, its state and mode stay, the entry's door state becomes
MISSED, and the closer marks the entry MISSED_BY_CLOSER. The model's own choices here: the model's names of entries,
frames and calls (log 16). -/
def Obligations.UnservedEngagementIsMissed : Prop :=
  ∀ (s : State) (e : TrackEntry), s.trk.state = .tracking → s.rpm.standstill = false →
    (s.trk.entries.map (·.uid)).Nodup → s.lch.gateEntry ≠ some e.uid →
    (s.zoneLen e.zone * 5000 ≤ e.travel ∨ e.waiver = true) →
    (s.frontOf 0 = some e → s.ddu.d0.serves = false →
      ∃ t, exec (.boundaryEdge .b1) s = .next t ∧ t.ddu = s.ddu ∧ (t.entry e.uid).map (·.door) = some .missed ∧
        ChangesOnly s Part.ofTrack t) ∧
    (s.frontOf 2 = some e → s.ddu.d1.serves = false → s.ddu.d2.engaged ≠ some e.uid →
      ∃ t, exec (.boundaryEdge .b3) s = .next t ∧ t.ddu = s.ddu ∧
        (t.entry e.uid).map (fun x => (x.door, x.missedByCloser)) = some (.missed, true) ∧
        ChangesOnly s Part.ofTrack t)

/-- R43, R44: at a B2 match an entry whose door is not OPEN is withheld from the boarding gate, which stays as it is
when it holds no engagement; an IDLE, unengaged gate in AUTO or ONE_SHOT with OPEN_LIM inactive opens for an entry
whose door is OPEN; a gate that stands open for an earlier entry is handed over. At a window end that brings the entry
engaged with D2 to the close point, and at the B3 match of an entry still engaged, which raises GATE_LATE, the gate
that stands open closes and the gate still opening has its close due. GATE_LATE is listed while the list has room for
it and for what the same match may raise before it: LAUNCH_QUEUE_FULL, DOOR_MISSED or DOOR_JAM, and the DRIVE_OFF of a
mode pending on D1. The model's own choices here: times in the model's ms (log 2); the order of effects inside one
event (log 8); the model's names of entries, frames and calls (log 16); when a close due is cleared (log 26). -/
def Obligations.BoardingGateServesOpenDoor : Prop :=
  ∀ (s : State) (e : TrackEntry), s.trk.state = .tracking → (s.trk.entries.map (·.uid)).Nodup →
    let begun : Chan :=
      Chan.begun { s.ddu.d2 with closeDue := false } s.sst.active.door.channels.d2 s.now true .engagement
    (s.rpm.standstill = false → s.frontOf 1 = some e → (s.zoneLen e.zone * 5000 ≤ e.travel ∨ e.waiver = true) →
      (e.door ≠ .opened → s.ddu.d2.engaged = none →
        ∃ t, exec (.boundaryEdge .b2) s = .next t ∧ t.ddu = s.ddu ∧
          ChangesOnly s Part.ofTrack t) ∧
      (e.door = .opened → s.ddu.d2.serves = true → s.pins.channels.d2.openLim = false →
        ∃ t, exec (.boundaryEdge .b2) s = .next t ∧
          t.ddu = { s.ddu with
            d2 := (s.ddu.d2.accept e.uid).begun s.sst.active.door.channels.d2 s.now false .engagement } ∧
          ChangesOnly s Part.ofTrack t) ∧
      (e.door = .opened → s.ddu.d2.waitsToClose = true → s.ddu.d2.mode ≠ .off →
        ∃ t, exec (.boundaryEdge .b2) s = .next t ∧
          t.ddu = { s.ddu with d2 := { s.ddu.d2 with engaged := some e.uid, closeDue := false } } ∧
          (t.entry e.uid).map (·.gateServed) = some true ∧
          ChangesOnly s Part.ofTrack t)) ∧
    (s.ddu.d2.engaged = some e.uid → e ∈ s.trk.entries → e.zone = 2 →
      let reached := s.zoneLen 2 * s.sst.active.zone.gateClosePct * 100 ≤
        min 4294967295 (e.travel + s.rpm.dWin * s.zoneRatio 2 / 1000)
      (¬ reached → ∃ t, exec .trackWindowEnd s = .next t ∧ t.ddu = s.ddu ∧ ChangesOnly s Part.ofTrack t) ∧
      (reached → s.ddu.d2.state = .strokingOpen → ∃ t, exec .trackWindowEnd s = .next t ∧
        t.ddu = { s.ddu with d2 := { s.ddu.d2 with closeDue := true } } ∧ ChangesOnly s Part.ofTrack t) ∧
      (reached → s.ddu.d2.state = .idle → s.pins.channels.d2.closedLim = false → s.pins.channels.d2.obstr = false →
        ∃ t, exec .trackWindowEnd s = .next t ∧ t.ddu = { s.ddu with d2 := begun } ∧ ChangesOnly s Part.ofTrack t)) ∧
    (s.rpm.standstill = false → s.frontOf 2 = some e → (s.zoneLen e.zone * 5000 ≤ e.travel ∨ e.waiver = true) →
      s.ddu.d2.engaged = some e.uid →
      (s.ddu.d2.state = .idle → s.pins.channels.d2.closedLim = false ∧ s.pins.channels.d2.obstr = false) →
      ∃ t, exec (.boundaryEdge .b3) s = .next t ∧ ChangesOnly s Part.ofTrack t ∧
        (s.CausesOk → s.msv.causes.length < (if s.ddu.d1.pendingMode = none then 29 else 28) →
          t.Lists .gateLate 2 .clearedUnacked) ∧
        t.ddu.d2 = (match s.ddu.d2.state with
          | .idle => begun
          | .strokingOpen => { s.ddu.d2 with closeDue := true }
          | _ => s.ddu.d2))

/-- R38, R39, R46: OPEN_LIM becoming active proves an open stroke and CLOSED_LIM becoming active a close stroke: the
channel becomes IDLE with its timer stopped, no other channel changes, and a STROKE order in progress is answered
PROVEN in its slip. A limit that becomes inactive, and CLOSED_LIM outside a close stroke, change the input alone. The
model's own choices here: layouts of journal details and result data (log 7); pin rows that carry a level (log 18). -/
def Obligations.LimitProvesStroke : Prop :=
  ∀ (s : State) (c : Channel),
    ((s.ddu.get c).state = .strokingOpen → (s.ddu.get c).closeDue = false →
      ∃ t, exec (.openLimActive c true) s = .next t ∧ (t.ddu.get c).state = .idle ∧ (t.ddu.get c).timer = none ∧
        (∀ d, d ≠ c → t.ddu.get d = s.ddu.get d) ∧
        (∀ k, (s.ddu.get c).origin = .order k → ∀ x, s.context k = some x → Memory.wf s.mem = true → x.slip < 32 →
          s.slipState x.slip = 2 → s.slipTicket x.slip = x.ticket → (s.ddu.get c).pendingMode = none →
          t.Answered x.slip ⟨true, .proven, [byteOf (channelCode c), 0, byteOf (s.ddu.get c).retry]⟩) ∧
        ChangesOnly s (.pins :: Part.ofTrack) t) ∧
    ((s.ddu.get c).state = .strokingClose →
      ∃ t, exec (.closedLimActive c true) s = .next t ∧ (t.ddu.get c).state = .idle ∧ (t.ddu.get c).timer = none ∧
        (t.ddu.get c).engaged = none ∧ (∀ d, d ≠ c → t.ddu.get d = s.ddu.get d) ∧
        (∀ k, (s.ddu.get c).origin = .order k → ∀ x, s.context k = some x → Memory.wf s.mem = true → x.slip < 32 →
          s.slipState x.slip = 2 → s.slipTicket x.slip = x.ticket → (s.ddu.get c).pendingMode = none →
          t.Answered x.slip ⟨true, .proven, [byteOf (channelCode c), 1, byteOf (s.ddu.get c).retry]⟩) ∧
        ChangesOnly s (.pins :: Part.ofTrack) t) ∧
    (∃ t, exec (.openLimActive c false) s = .next t ∧ ChangesOnly s [.pins] t) ∧
    (∃ t, exec (.closedLimActive c false) s = .next t ∧ ChangesOnly s [.pins] t) ∧
    ((s.ddu.get c).state ≠ .strokingClose →
      ∃ t, exec (.closedLimActive c true) s = .next t ∧ ChangesOnly s [.pins] t)

/-- R39, R40: OBSTR becoming active in a close stroke with OPEN_LIM inactive reverses it for the reverse time; while
retries remain, the end of the reversal, by its time or by OPEN_LIM, starts another close attempt with the retry count
one higher. Nothing but the channel and its inputs changes. The model's own choices here: times in the model's ms (log
2); pin rows that carry a level (log 18). -/
def Obligations.ObstructionReversesAndRetries : Prop :=
  ∀ (s : State) (c : Channel),
    ((s.ddu.get c).state = .strokingClose → (s.inputs c).openLim = false →
      ∃ t, exec (.obstrActive c true) s = .next t ∧
        t.ddu = s.ddu.set c { s.ddu.get c with
          state := .reversing, timer := some (s.now + (s.ddu.get c).params.reverseTime) } ∧
        ChangesOnly s [.pins, .ddu] t) ∧
    ((s.ddu.get c).state = .reversing → (s.ddu.get c).retry < (s.ddu.get c).params.recloseLimit →
      (s.inputs c).closedLim = false → (s.inputs c).obstr = false →
      ((s.ddu.get c).timer ≠ none → ∃ t, exec (.reverseTimeExpiry c) s = .next t ∧
        t.ddu = s.ddu.set c { s.ddu.get c with
          state := .strokingClose, retry := (s.ddu.get c).retry + 1
          timer := some (s.now + (s.ddu.get c).params.closeTime) } ∧
        ChangesOnly s [.ddu] t) ∧
      ∃ t, exec (.openLimActive c true) s = .next t ∧
        t.ddu = s.ddu.set c { s.ddu.get c with
          state := .strokingClose, retry := (s.ddu.get c).retry + 1
          timer := some (s.now + (s.ddu.get c).params.closeTime) } ∧
        ChangesOnly s [.pins, .ddu] t)

/-- R41: a stroke whose open or close time expires, and a reversal that ends with the retries exhausted, fails: the
channel is JAMMED, but for a failed open of D0, which leaves it IDLE; its timer stops and its engagement is released;
no other channel changes. The model's own choices here: times in the model's ms (log 2). -/
def Obligations.StrokeFailuresJam : Prop :=
  ∀ (s : State) (c : Channel), (s.ddu.get c).timer ≠ none →
    ((s.ddu.get c).state = .strokingOpen →
      ∃ t, exec (.openTimeExpiry c) s = .next t ∧
        (t.ddu.get c).state = (if c = .d0 then .idle else .jammed) ∧ (t.ddu.get c).timer = none ∧
        (t.ddu.get c).engaged = none ∧ (∀ d, d ≠ c → t.ddu.get d = s.ddu.get d) ∧
        ChangesOnly s Part.ofTrack t) ∧
    ((s.ddu.get c).state = .strokingClose →
      ∃ t, exec (.closeTimeExpiry c) s = .next t ∧ (t.ddu.get c).state = .jammed ∧ (t.ddu.get c).timer = none ∧
        (t.ddu.get c).engaged = none ∧ (∀ d, d ≠ c → t.ddu.get d = s.ddu.get d) ∧
        ChangesOnly s Part.ofTrack t) ∧
    ((s.ddu.get c).state = .reversing → (s.ddu.get c).params.recloseLimit ≤ (s.ddu.get c).retry →
      ∃ t, exec (.reverseTimeExpiry c) s = .next t ∧ (t.ddu.get c).state = .jammed ∧ (t.ddu.get c).timer = none ∧
        (t.ddu.get c).engaged = none ∧ (∀ d, d ≠ c → t.ddu.get d = s.ddu.get d) ∧
        ChangesOnly s Part.ofTrack t)

/-- The number of each drive mode (R187). -/
def modeNumbers : List (Nat × DriveMode) := [(0, .off), (1, .auto), (2, .manual), (3, .oneShot)]

/-- R45: SET_DRIVE_MODE is answered OK. On a stroking channel the mode is held as pending and nothing else changes; on
any other channel the mode is set and the channel is IDLE with its timer stopped, and no other channel changes. OFF on
D0 or D1 needs STANDBY or HELD. The model's own choices here: orders as commands with their slip (log 1). -/
def Obligations.SetDriveModeSetsOrHolds : Prop :=
  ∀ (s : State) (slip : Nat) (c : Channel) (p : Nat × DriveMode), p ∈ modeNumbers → slip < 32 →
    Memory.wf s.mem = true →
    (p.2 = .off → isDoor c = true → s.msv.state = .standby ∨ s.msv.state = .held) →
    ∃ t, exec (.setDriveMode slip (channelCode c) p.1) s = .next t ∧ t.Answered slip resultOk ∧
      (∀ d, d ≠ c → t.ddu.get d = s.ddu.get d) ∧
      ((s.ddu.get c).state.stroking = true →
        t.ddu.get c = { s.ddu.get c with pendingMode := some p.2 } ∧ SlipOnly slip s t ∧
        ChangesOnly s [.ddu, .mem, .news] t) ∧
      ((s.ddu.get c).state.stroking = false → (t.ddu.get c).mode = p.2 ∧ (t.ddu.get c).state = .idle ∧
        (t.ddu.get c).timer = none ∧
        ChangesOnly s (.ddu :: Part.ofCause) t)

/-- R48: HALT_DRIVE stops a running stroke: the channel is HALTED with its timer stopped and no engagement, a pending
mode takes effect, no other channel changes, and the order is answered OK. The model's own choices here: orders as
commands with their slip (log 1). -/
def Obligations.HaltDriveStopsStroke : Prop :=
  ∀ (s : State) (slip : Nat) (c : Channel), slip < 32 → Memory.wf s.mem = true →
    (s.ddu.get c).state.stroking = true →
    ∃ t, exec (.haltDrive slip (channelCode c)) s = .next t ∧ t.Answered slip resultOk ∧
      (t.ddu.get c).state = .halted ∧ (t.ddu.get c).timer = none ∧ (t.ddu.get c).engaged = none ∧
      (t.ddu.get c).closeDue = false ∧ (t.ddu.get c).pendingMode = none ∧
      (t.ddu.get c).mode = ((s.ddu.get c).pendingMode).getD (s.ddu.get c).mode ∧
      (∀ d, d ≠ c → t.ddu.get d = s.ddu.get d) ∧
      ChangesOnly s Part.ofTrack t

/-- R46, R171: an accepted STROKE takes the lowest free context, leaves its slip TAKEN, and starts the stroke of the
active door plan with origin ORDER. (The input that would end or reverse it at once is inactive.) Outside D1 CLOSE it
engages no entry, and then nothing but the channel, the context and the slip's state byte changes. The model's own
choices here: orders as commands with their slip (log 1); times in the model's ms (log 2). -/
def Obligations.StrokeOrderStartsStroke : Prop :=
  ∀ (s : State) (slip k direction : Nat) (c : Channel), slip < 32 → Memory.wf s.mem = true →
    s.freeContext? = some k → direction ≤ 1 → (s.ddu.get c).mode = .manual → (s.ddu.get c).state = .idle →
    (c = .d2 → s.ddu.d2.engaged = none) →
    (direction = 0 → (s.inputs c).openLim = false) →
    (direction = 1 → (s.inputs c).closedLim = false ∧ (s.inputs c).obstr = false) →
    ∃ t, exec (.stroke slip (channelCode c) direction) s = .next t ∧ t.slipState slip = 2 ∧
      t.context k = some ⟨s.slipTicket slip, slip, .stroke (channelCode c) direction, s.clockTime⟩ ∧
      t.ddu.get c = Chan.begun { s.ddu.get c with
          engaged := if c = .d1 ∧ direction = 1 then s.strokeEntry else none }
        (s.channelPlan c) s.now (decide (direction = 1)) (.order k) ∧
      (∀ d, d ≠ c → t.ddu.get d = s.ddu.get d) ∧ SlipOnly slip s t ∧
      (¬ (c = .d1 ∧ direction = 1) → ChangesOnly s [.ddu, .contexts, .mem] t)

/-! ## Section 3: rope speed, rope position and tension -/

/-- R53 to R56: a window end computes the two speeds, the measured speed and the window travel, advances the rope
distance with the remainder kept, and counts the window as disagreeing or agreeing. -/
def Obligations.RopeWindowMeasuresRope : Prop :=
  ∀ (s : State) (tension : Nat), ∃ t, exec (.ropeWindowEnd tension) s = .next t ∧
    t.rpm.vA = min 999 (s.rpm.nA * s.sst.active.rope.tA / 1000) ∧
    t.rpm.vB = min 999 (s.rpm.nB * s.sst.active.rope.tB / 1000) ∧
    t.rpm.v = max t.rpm.vA t.rpm.vB ∧
    t.rpm.dWin = max (s.rpm.nA * s.sst.active.rope.tA) (s.rpm.nB * s.sst.active.rope.tB) ∧
    t.rpm.dist = s.rpm.dist + BitVec.ofNat 32 ((s.rpm.rem + t.rpm.dWin) / 1000) ∧
    t.rpm.rem = s.rpm.rem + t.rpm.dWin - 1000 * ((s.rpm.rem + t.rpm.dWin) / 1000) ∧
    (let limit := max 10 (max t.rpm.vA t.rpm.vB * s.sst.active.rope.tol / 100)
     let apart := max t.rpm.vA t.rpm.vB - min t.rpm.vA t.rpm.vB
     (limit < apart → t.rpm.disagreeCount = min 10 (s.rpm.disagreeCount + 1) ∧ t.rpm.agreeCount = 0) ∧
     (apart ≤ limit → t.rpm.agreeCount = min 10 (s.rpm.agreeCount + 1) ∧ t.rpm.disagreeCount = 0))

/-- R52, R57, R58: a pulse is counted up to 4095. A window end publishes and clears the pulse counts with their
saturation flags; the disagreement state follows the counts of the windows, and TACHO_DISAGREE follows it; the
zero-window count and STANDSTILL follow the measured speed. The model's own choices here: times in the model's ms (log
2). -/
def Obligations.RopeWindowJudgesStandstill : Prop :=
  ∀ (s : State) (tension : Nat),
    (∃ t, exec (.tachPulse .a) s = .next t ∧ t.rpm = { s.rpm with nA := min 4095 (s.rpm.nA + 1) } ∧
      ChangesOnly s [.rpm] t) ∧
    (∃ t, exec (.tachPulse .b) s = .next t ∧ t.rpm = { s.rpm with nB := min 4095 (s.rpm.nB + 1) } ∧
      ChangesOnly s [.rpm] t) ∧
    ∃ t, exec (.ropeWindowEnd tension) s = .next t ∧
      t.rpm.nA = 0 ∧ t.rpm.nB = 0 ∧ t.rpm.lastA = s.rpm.nA ∧ t.rpm.lastB = s.rpm.nB ∧
      t.rpm.satA = decide (s.rpm.nA = 4095) ∧ t.rpm.satB = decide (s.rpm.nB = 4095) ∧
      (s.rpm.disagreeing = false → t.rpm.disagreeing = decide (3 ≤ t.rpm.disagreeCount)) ∧
      (s.rpm.disagreeing = true → t.rpm.disagreeing = decide (t.rpm.agreeCount ≠ 10)) ∧
      (s.msv.causes.length < 31 → s.CausesOk →
        (s.rpm.disagreeing = false → 3 ≤ t.rpm.disagreeCount → t.Lists .tachoDisagree 0 .activeUnacked) ∧
        (s.rpm.disagreeing = true → t.rpm.agreeCount = 10 → t.NoneActive .tachoDisagree 0)) ∧
      (t.rpm.v = 0 → t.rpm.zeroCount = min 10 (s.rpm.zeroCount + 1) ∧
        t.rpm.standstill = (s.rpm.standstill || decide (t.rpm.zeroCount = 10))) ∧
      (t.rpm.v ≠ 0 → t.rpm.zeroCount = 0 ∧ t.rpm.standstill = false) ∧
      ChangesOnly s (.time :: .rpm :: Part.ofCause) t

/-- R62 to R65: a good sample gives the tension position and the state GOOD, and each side's condition of TENSION_WARN
and TENSION_TRIP is whether the position lies outside the plan's band on that side; a bad sample makes the state
FAULTY and keeps the position and the conditions. -/
def Obligations.TensionSampleIsClassified : Prop :=
  ∀ (s : State) (tension : Nat),
    (40 ≤ tension → tension ≤ 4055 → ∃ t, exec (.ropeWindowEnd tension) s = .next t ∧
      t.rpm.sensor = .good ∧ t.rpm.tensionC = tension ∧
      (let p := tension * s.sst.active.rope.span / 4095
       t.rpm.tensionP = some p ∧
       t.rpm.warnLow = decide (p < s.sst.active.rope.warnLow) ∧
       t.rpm.warnHigh = decide (s.sst.active.rope.warnHigh < p) ∧
       t.rpm.tripLow = decide (p < s.sst.active.rope.tripLow) ∧
       t.rpm.tripHigh = decide (s.sst.active.rope.tripHigh < p))) ∧
    ((tension < 40 ∨ 4055 < tension) → ∃ t, exec (.ropeWindowEnd tension) s = .next t ∧
      t.rpm.sensor = .faulty ∧ t.rpm.tensionC = tension ∧ t.rpm.tensionP = s.rpm.tensionP ∧
      t.rpm.warnLow = s.rpm.warnLow ∧ t.rpm.warnHigh = s.rpm.warnHigh ∧
      t.rpm.tripLow = s.rpm.tripLow ∧ t.rpm.tripHigh = s.rpm.tripHigh)

/-- R67, R68: each loop changes its state as the table says, by a change of its input and by the expiry of its timer,
and no other loop changes. A loop that becomes OPEN raises RPD_LOCAL with its number, which stops the line fast, and a
loop that becomes CLOSED ends its condition. The model's own choices here: times in the model's ms (log 2); pin rows
that carry a level (log 18). -/
def Obligations.LoopStatesFollowTable : Prop :=
  ∀ (s : State) (l : RopeLoop),
    (∀ closed, s.pins.loops.get l ≠ closed →
      ∃ t, exec (.loopInputChange l closed) s = .next t ∧
        t.rpm.loops = s.rpm.loops.set l
          (match (s.rpm.loops.get l).state, closed with
           | .closed, false => ⟨.openPending, some (s.now + 20)⟩
           | .openPending, true => ⟨.closed, none⟩
           | .opened, true => ⟨.closePending, some (s.now + 20)⟩
           | .closePending, false => ⟨.opened, none⟩
           | _, _ => s.rpm.loops.get l) ∧
        t.pins.loops = s.pins.loops.set l closed ∧ ChangesOnly s [.pins, .rpm] t) ∧
    ∃ t, exec (.loopTimerExpiry l) s = .next t ∧
      t.rpm.loops = s.rpm.loops.set l
        (match (s.rpm.loops.get l).state with
         | .openPending => ⟨.opened, none⟩
         | .closePending => ⟨.closed, none⟩
         | _ => s.rpm.loops.get l) ∧
      (s.CausesOk → s.msv.causes.length < 31 →
        ((s.rpm.loops.get l).state = .openPending → t.Lists .rpdLocal (loopCode l) .activeUnacked ∧
          (s.msv.state = .run ∨ s.msv.state = .stoppingService →
            t.msv.state = .stoppingFast ∧ t.msv.chainOut = false)) ∧
        ((s.rpm.loops.get l).state = .closePending → t.NoneActive .rpdLocal (loopCode l))) ∧
      ChangesOnly s (.rpm :: Part.ofCause) t

/-! ## Section 4: launch, garage and the grip test -/

/-- R72, R73, R80: at a window end D_L is recomputed, and the entry held at the gate is launched when every condition
of the launch test holds, is sent to the garage when it is marked for it and the divert test passes, and stays held
otherwise. The last-launch distance changes by a launch alone. The model's own choices here: the model's names of
entries, frames and calls (log 16). -/
def Obligations.WindowEndDecidesGateEntry : Prop :=
  ∀ (s : State) (e : TrackEntry), s.lch.gate = .holding → s.lch.gateEntry = some e.uid → s.entry e.uid = some e →
    let dL := s.rpm.dist - s.lch.lastLaunch
    let diverts := s.entryGarage e = true ∧ (s.msv.state = .run ∨ s.msv.state = .held) ∧ s.trk.state = .tracking ∧
      s.lch.divert = none
    let launches := s.msv.state = .run ∧ s.trk.state = .tracking ∧ s.lch.divert = none ∧
      s.sst.active.zone.launchMin ≤ s.rpm.v ∧ s.entryBarred e = false ∧ s.entryGarage e = false ∧
      e.door = .latched ∧ s.pins.latch = true ∧ s.sst.active.zone.launchSpacing * 10 ≤ dL.toNat
    ∃ t, exec .launchWindowEnd s = .next t ∧
      t.lch.gate = (if diverts then .diverting else if launches then .launching else .holding) ∧
      t.lch.dL = (if launches then 0 else dL) ∧
      t.lch.lastLaunch = (if launches then s.rpm.dist else s.lch.lastLaunch) ∧
      t.lch.barredNotice = (s.lch.barredNotice || (s.entryBarred e && !s.entryGarage e)) ∧
      t.lch.gateEntry = s.lch.gateEntry ∧
      (diverts → ChangesOnly s [.lch] t) ∧ ChangesOnly s [.lch, .journal, .news] t

/-- R79: the launch estimate of a window end is 0 once the spacing is met or the gate is LAUNCHING, 65 535 while the
rope stands, and otherwise the least number of ms in which the rope covers the missing distance, or 65 535 if that
exceeds 65 534. Without a gate entry it is 65 535. -/
def Obligations.LaunchEstimateIsLeastWait : Prop :=
  ∀ s : State, ∃ t, exec .launchWindowEnd s = .next t ∧
    (s.lch.gateEntry = none → t.lch.estimate = 65535) ∧
    (s.lch.gateEntry ≠ none →
      (t.lch.gate = .launching → t.lch.estimate = 0) ∧
      (t.lch.gate ≠ .launching →
        let spacing := s.sst.active.zone.launchSpacing * 10
        let missing := (spacing - t.lch.dL.toNat) * 100
        (spacing ≤ t.lch.dL.toNat → t.lch.estimate = 0) ∧
        (t.lch.dL.toNat < spacing →
          (s.rpm.v = 0 → t.lch.estimate = 65535) ∧
          (0 < s.rpm.v →
            (missing ≤ 65534 * s.rpm.v →
              missing ≤ t.lch.estimate * s.rpm.v ∧ (t.lch.estimate - 1) * s.rpm.v < missing ∧ 0 < t.lch.estimate) ∧
            (65534 * s.rpm.v < missing → t.lch.estimate = 65535)))))

/-- R74, R77, R80: B4 falling empties the gate. In LAUNCHING, while TRACKING, the gate entry moves to Z4 with travel
0; in DIVERTING it is removed and kept in the divert record; in HOLDING and EMPTY the passage is an uncommanded
launch, which raises UNCOMMANDED_LAUNCH and moves the front-most Z3 entry of a TRACKING track to Z4. The last-launch
distance and D_L stay. The model's own choices here: the model's names of entries, frames and calls (log 16); pin rows
that carry a level (log 18). -/
def Obligations.B4FallingEmptiesGate : Prop :=
  ∀ s : State, (s.trk.entries.map (·.uid)).Nodup →
    ∃ t, exec .b4Falling s = .next t ∧
      t.lch.gate = .empty ∧ t.lch.gateEntry = none ∧ t.lch.proofTimer = none ∧ t.lch.barredNotice = false ∧
      t.lch.proofExpired = false ∧ t.lch.lastLaunch = s.lch.lastLaunch ∧ t.lch.dL = s.lch.dL ∧
      t.pins = { s.pins with b4 := false } ∧
      (s.lch.gate = .launching → s.trk.state = .tracking → ∀ u, s.lch.gateEntry = some u →
        t.trk.entries.map (·.place) = s.trk.entries.map fun x =>
          if x.uid = u then (x.uid, x.cabin, 4, 0, false, x.waiver) else x.place) ∧
      (s.lch.gate = .launching → s.trk.state = .lost → t.trk = s.trk) ∧
      (s.lch.gate = .diverting → ∀ u, s.lch.gateEntry = some u → ∀ e, s.entry u = some e →
        t.trk.entries = s.trk.entries.filter (·.uid ≠ u) ∧
        t.lch.divert = some ⟨e.cabin, e.door, e.gateServed, e.missedByCloser⟩) ∧
      (s.lch.gate = .empty ∨ s.lch.gate = .holding →
        (s.trk.state = .tracking → ∀ e, s.frontOf 3 = some e →
          t.trk.entries.map (·.place) = s.trk.entries.map fun x =>
            if x.uid = e.uid then (x.uid, x.cabin, 4, 0, false, x.waiver) else x.place) ∧
        (s.trk.state = .lost ∨ s.frontOf 3 = none → t.trk = s.trk) ∧
        (s.CausesOk → s.msv.causes.length < 31 → t.Lists .uncommandedLaunch 0 .clearedUnacked) ∧
        (s.msv.state = .run ∨ s.msv.state = .stoppingService → s.msv.causes.length < 31 →
          s.CausesOk → t.msv.chainOut = false ∧ t.msv.state = .stoppingFast)) ∧
      ChangesOnly s (.pins :: Part.ofTrack) t

/-- R84, R85, R86: B5 rising with the rope moving starts a test of the front-most Z4 entry with peak 0; each force
sample raises the peak; B5 falling grades it by the table, pushes the reading onto the cabin's history of four, and
bars the cabin for NO_READING, FAIL and a third WEAK grade. The model's own choices here: the order of effects inside
one event (log 8); the model's names of entries, frames and calls (log 16); pin rows that carry a level (log 18). -/
def Obligations.GripTestGradesPeak : Prop :=
  ∀ s : State, s.CausesOk →
    (s.rpm.standstill = false → s.lch.sampling = false → s.lch.divert = none →
      ∃ t, exec .b5Rising s = .next t ∧ t.pins = { s.pins with b5 := true } ∧
        t.lch = { s.lch with
          sampling := true, peak := 0
          testEntry := if s.trk.state = .tracking then (s.frontOf 4).map (·.uid) else none } ∧
        ChangesOnly s [.pins, .lch] t) ∧
    (∀ force, ∃ t, exec (.gripForceSample force) s = .next t ∧
      t.lch = { s.lch with peak := if s.lch.sampling then max s.lch.peak force else s.lch.peak } ∧
      ChangesOnly s [.lch] t) ∧
    (s.lch.sampling = true → ∃ t, exec (.boundaryEdge .b5) s = .next t ∧
      t.lch.sampling = false ∧ t.lch.testEntry = none ∧
      (let p := s.sst.active.rope
       let f := s.lch.peak
       let grade : Grade := if f < 20 then .noReading else if f < p.fFail then .fail else if f < p.fWarn then .weak
         else if p.fHigh < f then .high else .good
       let cabin := (s.lch.testEntry.map s.entryCabin).getD 0
       t.lch.lastReading = some ⟨f, cabin, grade⟩ ∧
       (0 < cabin → cabin ≤ s.fleet.length →
         (t.fleetRec cabin).history = ((f, grade) :: (s.fleetRec cabin).history).take 4 ∧
         (t.fleetRec cabin).barred = ((s.fleetRec cabin).barred || decide (f < 20 ∨ grade = .fail ∨
           3 ≤ (((f, grade) :: (s.fleetRec cabin).history).take 4).countP (·.2 = .weak)))) ∧
       (∀ k, k ≠ cabin → t.fleetRec k = s.fleetRec k) ∧
       (grade = .noReading ∨ grade = .fail → t.msv.state ≠ .run ∧ t.msv.state ≠ .stoppingService) ∧
       (grade = .high → t.msv.state ≠ .run)) ∧
      ChangesOnly s (.pins :: Part.ofTrack) t)

/-- R81: a divert awaiting G_IN ends at G_IN rising, which sets the cabin GARAGED and clears its GARAGE_PENDING, or at
B5 rising with the rope moving, which places the cabin in Z4 behind the entries of Z5 and Z4 and starts its grip test
order; at standstill B5 rising changes the pin alone. G_IN without a divert record is journalled and nothing else. The
model's own choices here: the order of effects inside one event (log 8); the model's names of entries, frames and
calls (log 16); pin rows that carry a level (log 18); the arrival distance of a re-entry (log 24). -/
def Obligations.DivertEndsAtGarageSwitch : Prop :=
  ∀ s : State,
    (s.lch.divert = none → ∃ t, exec .gInRising s = .next t ∧ ChangesOnly s [.journal, .news] t) ∧
    (∀ d, s.lch.divert = some d →
      (0 < d.cabin → d.cabin ≤ s.fleet.length → ∃ t, exec .gInRising s = .next t ∧ t.lch.divert = none ∧
        (t.fleetRec d.cabin).state = .garaged ∧ (t.fleetRec d.cabin).garagePending = false ∧
        (∀ k, k ≠ d.cabin → t.fleetRec k = s.fleetRec k) ∧ ChangesOnly s [.fleet, .lch, .journal, .news] t) ∧
      (s.rpm.standstill = false → s.lch.sampling = false → s.trk.state = .tracking → s.trk.entries.length < 16 →
        ∃ t, exec .b5Rising s = .next t ∧ t.lch.divert = none ∧ t.lch.sampling = true ∧ t.fleet = s.fleet ∧
          t.trk.entries = s.trk.entries.takeWhile (4 ≤ ·.zone) ++
            [TrackEntry.mk s.trk.nextUid d.cabin 4 0 d.door d.missedByCloser d.gateServed false false s.rpm.dist
              false false] ++ s.trk.entries.dropWhile (4 ≤ ·.zone) ∧
          (s.CausesOk → t.msv.state ≠ .run) ∧ ChangesOnly s (.pins :: .trk :: Part.ofCause) t)) ∧
    (s.rpm.standstill = true → ∃ t, exec .b5Rising s = .next t ∧ t.pins = { s.pins with b5 := true } ∧
      ChangesOnly s [.pins] t)

/-- R3, R6, R78, R82, R83: RELEASE_CABIN of a garaged cabin arms an insertion for 60 s and holds a context; G_OUT then
places the cabin at the back of Z3 with door state UNKNOWN, sets it IN_TERMINAL and completes the order OK; into a
LOST track it is not placed and the order is answered TRACK_LOST, into a full one FULL, and the track becomes LOST; a
cabin no longer GARAGED is answered WRONG_STATE. The expiry of the 60 s completes it TIMEOUT and leaves the cabin
GARAGED. A G_OUT without an insertion places an entry of cabin 0 at the back of Z3 of a located track, which raises
LAUNCH_QUEUE_FULL at the limit; a full track refuses it with TRACK_OVERFLOW and becomes LOST; a LOST one is unchanged.
The model's own choices here: orders as commands with their slip (log 1); times in the model's ms (log 2); the
LAUNCH_QUEUE_FULL condition (log 14); the model's names of entries, frames and calls (log 16). -/
def Obligations.ReleaseReturnsGaragedCabin : Prop :=
  ∀ (s : State) (slip n k : Nat), Memory.wf s.mem = true →
    let placed (cabin : Nat) : List TrackEntry :=
      s.trk.entries.takeWhile (3 ≤ ·.zone) ++
        [TrackEntry.mk s.trk.nextUid cabin 3 0 .unknown false false false false s.rpm.dist false false] ++
        s.trk.entries.dropWhile (3 ≤ ·.zone)
    let lost (t : State) : Prop :=
      t.trk.state = .lost ∧ t.trk.entries.map (·.uid) = s.trk.entries.map (·.uid) ∧ t.trk.window = none ∧
        (s.msv.causes.length < 30 → s.CausesOk → t.Lists .trackOverflow 0 .clearedUnacked ∧
          t.Lists .trackLost 0 .activeUnacked) ∧
        (s.CausesOk → t.msv.state ≠ .run ∧ t.msv.state ≠ .stoppingService)
    (slip < 32 → s.freeContext? = some k → 1 ≤ n → n ≤ 96 → (s.msv.state = .run ∨ s.msv.state = .held) →
      s.trk.state = .tracking → (s.fleetRec n).state = .garaged → s.lch.insertion = none →
      ∃ t, exec (.releaseCabin slip n) s = .next t ∧ t.slipState slip = 2 ∧ SlipOnly slip s t ∧
        t.context k = some ⟨s.slipTicket slip, slip, .releaseCabin n, s.clockTime⟩ ∧
        t.lch = { s.lch with insertion := some ⟨n, k, s.now + 60000⟩ } ∧
        ChangesOnly s [.lch, .contexts, .mem] t) ∧
    (∀ i, s.lch.insertion = some i → ∀ x, s.context i.context = some x → x.slip < 32 → s.slipState x.slip = 2 →
      s.slipTicket x.slip = x.ticket →
      (∃ t, exec .insertionTimeout s = .next t ∧ t.lch = { s.lch with insertion := none } ∧
        t.context i.context = none ∧ t.Answered x.slip (refusal .timeout) ∧ SlipOnly x.slip s t ∧
        ChangesOnly s [.lch, .contexts, .mem, .news] t) ∧
      ((s.fleetRec i.cabin).state = .garaged → s.trk.state = .tracking → s.trk.entries.length < 16 → 0 < i.cabin →
        i.cabin ≤ s.fleet.length → s.lch.z3Count = s.countZ3 →
        ∃ t, exec .gOutRising s = .next t ∧ t.lch.insertion = none ∧ (t.fleetRec i.cabin).state = .inTerminal ∧
          (∀ k, k ≠ i.cabin → t.fleetRec k = s.fleetRec k) ∧
          t.trk = { s.trk with entries := placed i.cabin, nextUid := s.trk.nextUid + 1 } ∧ t.countZ3 = s.countZ3 + 1 ∧
          t.context i.context = none ∧ (s.lnc.queue.length < 15 → t.Answered x.slip resultOk) ∧
          (s.countZ3 < s.sst.active.zone.queueLimit → s.lch.queueFull = false →
            t.Answered x.slip resultOk ∧ SlipOnly x.slip s t ∧
            ChangesOnly s [.trk, .fleet, .lch, .contexts, .mem, .news, .journal] t) ∧
          (s.sst.active.zone.queueLimit ≤ s.countZ3 → s.lch.queueFull = false → s.msv.causes.length < 31 →
            t.lch.queueFull = true ∧ t.Lists .launchQueueFull 0 .activeUnacked) ∧
          ChangesOnly s Part.ofTrack t) ∧
      ((s.fleetRec i.cabin).state = .garaged → s.trk.state = .lost →
        ∃ t, exec .gOutRising s = .next t ∧ t.lch = { s.lch with insertion := none } ∧
          t.context i.context = none ∧ t.Answered x.slip (refusal .trackLost) ∧ SlipOnly x.slip s t ∧
          (0 < i.cabin → i.cabin ≤ s.fleet.length → (t.fleetRec i.cabin).state = .unplaced) ∧
          ChangesOnly s [.fleet, .lch, .contexts, .mem, .news] t) ∧
      ((s.fleetRec i.cabin).state = .garaged → s.trk.state = .tracking → 16 ≤ s.trk.entries.length →
        ∃ t, exec .gOutRising s = .next t ∧ t.lch.insertion = none ∧ t.context i.context = none ∧ lost t ∧
          (s.lnc.queue.length < 15 → t.Answered x.slip (refusal .full)) ∧
          (0 < i.cabin → i.cabin ≤ s.fleet.length → (t.fleetRec i.cabin).state = .unplaced) ∧
          ChangesOnly s Part.ofTrack t) ∧
      ((s.fleetRec i.cabin).state ≠ .garaged →
        ∃ t, exec .gOutRising s = .next t ∧ t.lch.insertion = none ∧ t.context i.context = none ∧ t.fleet = s.fleet ∧
          t.Answered x.slip (refusal .wrongState) ∧ ChangesOnly s Part.ofTrack t)) ∧
    (s.lch.insertion = none →
      (s.trk.state = .lost → ∃ t, exec .gOutRising s = .next t ∧ ChangesOnly s [.journal, .news] t) ∧
      (s.trk.state = .tracking → s.trk.entries.length < 16 → s.lch.z3Count = s.countZ3 →
        ∃ t, exec .gOutRising s = .next t ∧ t.trk = { s.trk with entries := placed 0, nextUid := s.trk.nextUid + 1 } ∧
          t.countZ3 = s.countZ3 + 1 ∧
          (s.countZ3 < s.sst.active.zone.queueLimit → s.lch.queueFull = false →
            ChangesOnly s [.trk, .lch, .journal, .news] t) ∧
          (s.sst.active.zone.queueLimit ≤ s.countZ3 → s.lch.queueFull = false → s.msv.causes.length < 31 →
            t.lch.queueFull = true ∧ t.Lists .launchQueueFull 0 .activeUnacked) ∧
          ChangesOnly s (.trk :: Part.ofCause) t) ∧
      (s.trk.state = .tracking → 16 ≤ s.trk.entries.length →
        ∃ t, exec .gOutRising s = .next t ∧ lost t ∧ ChangesOnly s Part.ofTrack t))

/-- R4, R75: LATCH becoming active makes the door state of the entry at the gate LATCHED, which stops the proof timer
and ends the condition of DOOR_NOT_PROVEN; LATCH becoming inactive leaves the door state and starts the timer with the
full proof wait, unless the proof expired mark is set. The expiry of the timer sets the mark and raises
DOOR_NOT_PROVEN; while the timer is stopped it changes nothing. The model's own choices here: times in the model's ms
(log 2); the model's names of entries, frames and calls (log 16); pin rows that carry a level (log 18). -/
def Obligations.LatchProofRunsTimer : Prop :=
  ∀ (s : State) (e : TrackEntry), s.lch.gate = .holding → s.lch.gateEntry = some e.uid → s.entry e.uid = some e →
    e.atGate = true → s.entryBarred e = false → s.entryGarage e = false → s.CausesOk →
    (s.pins.latch = false →
      ∃ t, exec (.latchChange true) s = .next t ∧ t.pins = { s.pins with latch := true } ∧
        t.trk = { s.trk with entries := s.trk.entries.map fun x => if x.atGate then { x with door := .latched } else x } ∧
        t.lch.proofTimer = none ∧ (s.lch.proofExpired = true → t.NoneActive .doorNotProven 0) ∧
        ChangesOnly s (.pins :: .trk :: Part.ofCause) t) ∧
    (s.pins.latch = true →
      ∃ t, exec (.latchChange false) s = .next t ∧ t.pins = { s.pins with latch := false } ∧
        t.lch = { s.lch with proofTimer :=
          if s.lch.proofTimer.isSome then s.lch.proofTimer
          else if s.lch.proofExpired then none else some (s.now + s.sst.active.zone.proofWait) } ∧
        ChangesOnly s [.pins, .lch] t) ∧
    (∃ t, exec (.latchChange s.pins.latch) s = .next t ∧ ChangesOnly s [] t) ∧
    (s.lch.proofTimer = none → ∃ t, exec .proofTimerExpiry s = .next t ∧ ChangesOnly s [] t) ∧
    (s.lch.proofTimer ≠ none → ∃ t, exec .proofTimerExpiry s = .next t ∧
      t.lch.proofTimer = none ∧ t.lch.proofExpired = true ∧ t.trk = s.trk ∧ t.msv.state ≠ .run ∧
      (s.msv.causes.length < 31 → t.Lists .doorNotProven 0 .activeUnacked) ∧ ChangesOnly s Part.ofCause t)

/-! ## Section 5: the tower line -/

/-- R100, R101, R103, R105, R171: an accepted SEND_NOTE takes the lowest free context, leaves its slip TAKEN, and
queues its frame behind every frame of its priority or a more urgent one; the beginning of a status or time period
does the same with a STATUS or TIME, or marks a queued one renewed. No queued frame is lost. Without a place a
SEND_NOTE is refused LINE_BUSY, and a STATUS takes the place of the youngest NOTE that is not on the line, whose order
is answered LINE_BUSY; with no such NOTE it is not queued. The model's own choices here: orders as commands with their
slip (log 1); times in the model's ms (log 2); the model's names of entries, frames and calls (log 16). -/
def Obligations.FramesQueueByPriority : Prop :=
  ∀ (s : State) (slip k dest : Nat) (code : Word) (text : List Byte),
    (ordinaryPlace s.lnc.queue = true → slip < 32 → Memory.wf s.mem = true → s.freeContext? = some k → text.length ≤ 12 →
      (dest = 15 ∨ (1 ≤ dest ∧ dest ≤ 13 ∧ s.present dest = true)) →
      ∃ t, exec (.sendNote slip dest code text) s = .next t ∧ t.slipState slip = 2 ∧ SlipOnly slip s t ∧
        t.context k = some ⟨s.slipTicket slip, slip, .sendNote dest code text, s.clockTime⟩ ∧
        t.lnc = { s.lnc with
          queue := s.lnc.queue.takeWhile (·.kind.priority ≤ 10) ++
            [TxFrame.mk s.lnc.nextFid .note dest (BitVec.ofNat 8 (code.toNat / 256) :: BitVec.ofNat 8 code.toNat :: text)
              0 .obc (some k) false] ++ s.lnc.queue.dropWhile (·.kind.priority ≤ 10)
          nextFid := s.lnc.nextFid + 1 } ∧
        ChangesOnly s [.lnc, .contexts, .mem] t) ∧
    (ordinaryPlace s.lnc.queue = true → ∃ t, exec .statusTimerExpiry s = .next t ∧
      ∃ u, exec .timeTimerExpiry s = .next u ∧
      t.lnc.statusTimer = s.now + s.sst.active.line.statusPeriod ∧ u.lnc.timeTimer = s.now + 60000 ∧
      (let renewed (q : List TxFrame) (kind : FrameKind) :=
         q.map fun f => if f.kind = kind then { f with renewed := true } else f
       t.lnc.queue = (if s.lnc.queue.any (·.kind = .status) then renewed s.lnc.queue .status
         else s.lnc.queue.takeWhile (·.kind.priority ≤ 4) ++
           [TxFrame.mk s.lnc.nextFid .status 15 [] 0 .lnc none false] ++
           s.lnc.queue.dropWhile (·.kind.priority ≤ 4)) ∧
       u.lnc.queue = (if s.lnc.queue.any (·.kind = .time) then renewed s.lnc.queue .time
         else s.lnc.queue.takeWhile (·.kind.priority ≤ 8) ++
           [TxFrame.mk s.lnc.nextFid .time 15 [] 0 .lnc none false] ++
           s.lnc.queue.dropWhile (·.kind.priority ≤ 8))) ∧
      ChangesOnly s [.lnc] t ∧ ChangesOnly s [.lnc] u) ∧
    (ordinaryPlace s.lnc.queue = false → slip < 32 → Memory.wf s.mem = true → s.freeContext? = some k →
      text.length ≤ 12 → (dest = 15 ∨ (1 ≤ dest ∧ dest ≤ 13 ∧ s.present dest = true)) →
      ∃ t, exec (.sendNote slip dest code text) s = .next t ∧ t.Answered slip (refusal .lineBusy) ∧ SlipOnly slip s t ∧
        ChangesOnly s [.mem, .news] t) ∧
    (ordinaryPlace s.lnc.queue = false → s.lnc.queue.any (·.kind = .status) = false →
      let waits := s.lnc.queue.filter fun f => f.kind = .note && decide (s.lnc.attempt.map (·.fid) ≠ some f.fid)
      (waits = [] → ∃ t, exec .statusTimerExpiry s = .next t ∧ t.lnc.queue = s.lnc.queue ∧
        t.lnc.statusTimer = s.now + s.sst.active.line.statusPeriod ∧ ChangesOnly s [.lnc, .journal, .news] t) ∧
      (∀ g ∈ waits, (∀ f ∈ waits, f.fid ≤ g.fid) → (s.lnc.queue.map (·.fid)).Nodup →
        let rest := s.lnc.queue.filter (·.fid ≠ g.fid)
        ∃ t, exec .statusTimerExpiry s = .next t ∧
          t.lnc.queue = rest.takeWhile (·.kind.priority ≤ 4) ++ [TxFrame.mk s.lnc.nextFid .status 15 [] 0 .lnc none false]
            ++ rest.dropWhile (·.kind.priority ≤ 4) ∧
          (Memory.wf s.mem = true → ∀ c, g.context = some c → ∀ x, s.context c = some x → x.slip < 32 →
            s.slipState x.slip = 2 → s.slipTicket x.slip = x.ticket →
            t.Answered x.slip (refusal .lineBusy) ∧ SlipOnly x.slip s t ∧ t.context c = none) ∧
          ChangesOnly s [.lnc, .mem, .news, .journal, .contexts] t))

/-- R90, R91, R95, R102, R103: in IDLE the part starts an attempt of the front frame, a STATUS or TIME with the values
of the moment; a lost arbitration ends the attempt in RECEIVING and counts as no retry, a bit error cuts it. A start
bit taken in IDLE, or in GAP after at least 10 recessive bit times, begins a reception; in GAP after fewer it restarts
the count of recessive bit times. Each of these changes the line controller alone, and the queue keeps every frame. An
attempt outside IDLE or with an empty queue, a lost arbitration and a bit error outside TRANSMITTING, and a start bit
outside IDLE and GAP change nothing. The model's own choices here: line bits taken as events (log 12); the drop at the
retry limit (log 13); the model's names of entries, frames and calls (log 16). -/
def Obligations.AttemptsKeepTheQueue : Prop :=
  ∀ (s : State) (recessive : Nat),
    (∀ f, s.lnc.queue.head? = some f → s.lnc.state = .idle → ∃ t, exec .transmitAttempt s = .next t ∧
      t.lnc = { s.lnc with
        state := .transmitting, attempts := s.lnc.attempts + 1
        queue := { f with renewed := false } :: s.lnc.queue.tail
        attempt := some ⟨f.fid, f.kind, f.dest, match f.kind with
          | .status => [BitVec.ofNat 8 s.msv.state.code, BitVec.ofNat 8 (s.msv.ceiling / 256),
              BitVec.ofNat 8 s.msv.ceiling, BitVec.ofNat 8 (s.rpm.v / 256), BitVec.ofNat 8 s.rpm.v,
              if s.msv.chainOut then 1 else 0]
          | .time => [BitVec.ofNat 8 (s.sst.clock.seconds.toNat / 16777216),
              BitVec.ofNat 8 (s.sst.clock.seconds.toNat / 65536), BitVec.ofNat 8 (s.sst.clock.seconds.toNat / 256),
              BitVec.ofNat 8 s.sst.clock.seconds.toNat, if s.sst.clock.valid then 1 else 0]
          | _ => f.payload⟩ } ∧
      ChangesOnly s [.lnc] t) ∧
    (s.lnc.state ≠ .idle ∨ s.lnc.queue = [] → ∃ t, exec .transmitAttempt s = .next t ∧ ChangesOnly s [] t) ∧
    ∃ l, exec .arbitrationLoss s = .next l ∧ ∃ b, exec .bitError s = .next b ∧
      ∃ u, exec (.startBitReceived recessive) s = .next u ∧
      l.lnc = (if s.lnc.state = .transmitting then
        { s.lnc with state := .receiving, attempt := none, arbLoss := s.lnc.arbLoss + 1 } else s.lnc) ∧
      (s.lnc.state = .transmitting → b.lnc.state = .gap ∧ b.lnc.attempt = none ∧
        b.lnc.cut = s.lnc.attempt.map (·.fid) ∧ b.lnc.bitErrors = s.lnc.bitErrors + 1 ∧
        b.lnc.cutLimit = s.sst.active.line.retryLimit ∧ b.lnc.queue = s.lnc.queue ∧
        b.lnc.bitRate = s.sst.active.line.bitRate) ∧
      (s.lnc.state ≠ .transmitting → b.lnc = s.lnc) ∧
      u.lnc = (match s.lnc.state with
        | .idle => { s.lnc with state := .receiving }
        | .gap => if 10 ≤ recessive then { s.lnc with state := .receiving } else { s.lnc with recessive := 0 }
        | _ => s.lnc) ∧
      ChangesOnly s [.lnc] l ∧ ChangesOnly s [.lnc] b ∧ ChangesOnly s [.lnc] u

/-- R96, R99, R102, R103: at the end of an attempt a delivered frame leaves the queue; a frame that is not
acknowledged, or whose cut attempt is counted at the next IDLE, gets one more retry up to the retry limit of the end
of its attempt and is then dropped; a STATUS or TIME stays only if it was renewed. The order of a NOTE that leaves the
queue is answered OK or UNDELIVERED. The model's own choices here: line bits taken as events (log 12); the drop at the
retry limit (log 13); the model's names of entries, frames and calls (log 16). -/
def Obligations.AttemptOutcomeDecidesFrame : Prop :=
  ∀ (s : State) (f : TxFrame), s.lnc.queue.find? (·.fid = f.fid) = some f →
    let retried := s.lnc.queue.map fun g => if g.fid = f.fid then { g with retry := g.retry + 1 } else g
    let without := s.lnc.queue.filter (·.fid ≠ f.fid)
    let kept := s.lnc.queue.map fun g => if g.fid = f.fid then { g with renewed := false } else g
    let failed (limit : Nat) := if f.kind.periodic then (if f.renewed then kept else without)
      else if f.retry < limit then retried else without
    (s.lnc.state = .transmitting → s.lnc.attempt.map (·.fid) = some f.fid →
      ∃ d, exec (.ackSlotOutcome true) s = .next d ∧ ∃ u, exec (.ackSlotOutcome false) s = .next u ∧
        d.lnc.state = .gap ∧ d.lnc.attempt = none ∧ d.lnc.sent = s.lnc.sent + 1 ∧
        d.lnc.queue = (if f.kind.periodic ∧ f.renewed then kept else without) ∧ d.stn = s.stn ∧
        u.lnc.state = .gap ∧ u.lnc.attempt = none ∧ u.lnc.sent = s.lnc.sent ∧ u.lnc.queue = failed s.sst.active.line.retryLimit ∧
        (f.kind.periodic = true ∨ f.retry < s.sst.active.line.retryLimit → u.stn = s.stn ∧
          ChangesOnly s [.lnc] u) ∧
        (f.kind = .note → Memory.wf s.mem = true → ∀ k, f.context = some k → ∀ x, s.context k = some x → x.slip < 32 →
          s.slipState x.slip = 2 → s.slipTicket x.slip = x.ticket →
          d.Answered x.slip resultOk ∧ SlipOnly x.slip s d ∧
          (s.sst.active.line.retryLimit ≤ f.retry → u.Answered x.slip (refusal .undelivered) ∧ SlipOnly x.slip s u)) ∧
        ChangesOnly s [.lnc, .stn, .cal, .mem, .news, .journal, .contexts] d ∧
        ChangesOnly s [.lnc, .stn, .cal, .mem, .news, .journal, .contexts] u) ∧
    (s.lnc.state = .gap → s.lnc.cut = some f.fid → ∃ t, exec .idleGapReached s = .next t ∧
      t.lnc.state = .idle ∧ t.lnc.cut = none ∧ t.lnc.queue = failed s.lnc.cutLimit ∧
      ChangesOnly s [.lnc, .stn, .cal, .mem, .news, .journal, .contexts] t) ∧
    (s.lnc.state = .gap → s.lnc.cut = none → ∃ t, exec .idleGapReached s = .next t ∧
      t.lnc.state = .idle ∧ t.lnc.queue = s.lnc.queue ∧ ChangesOnly s [.lnc] t)

/-- R97, R98, R106, R110, R119: a receive error is counted for the station that sent the frame, or unattributed. A
valid frame of any kind is counted, and counted for its sender with the time it was heard; a frame addressed to 14 is
ignored; a NOTE of 2 to 14 bytes addressed to 0 or 15 from a LIVE station is journalled with its sender, code and
text. The model's own choices here: layouts of journal details and result data (log 7); line bits taken as events (log
12). -/
def Obligations.ReceivedFramesAreCounted : Prop :=
  ∀ (s : State) (sender kind : Nat) (dest : Nat) (payload : List Byte), 1 ≤ sender → sender ≤ 13 →
    s.stn.records.length = 14 →
    (∃ t, exec (.receiveError (some sender)) s = .next t ∧
      t.stationRec sender = { s.stationRec sender with crcErrors := (s.stationRec sender).crcErrors + 1 } ∧
      (∀ a, a ≠ sender → t.stationRec a = s.stationRec a) ∧ t.lnc.unattributed = s.lnc.unattributed ∧
      t.lnc.state = (if s.lnc.state = .receiving then .gap else s.lnc.state) ∧ ChangesOnly s [.stn, .lnc] t) ∧
    (∃ t, exec (.receiveError none) s = .next t ∧ t.lnc.unattributed = s.lnc.unattributed + 1 ∧
      ChangesOnly s [.lnc] t) ∧
    (payload.length ≤ 16 →
      (dest = 14 → ∃ t, exec (.otherFrameReceived kind ⟨sender, dest, payload⟩) s = .next t ∧
        t.lnc.received = s.lnc.received ∧ ChangesOnly s [.lnc] t) ∧
      (dest ≠ 14 →
        (∃ t, exec (.otherFrameReceived kind ⟨sender, dest, payload⟩) s = .next t ∧
          t.lnc.received = s.lnc.received + 1 ∧ (t.stationRec sender).frames = (s.stationRec sender).frames + 1 ∧
          (t.stationRec sender).lastHeard = some s.clockTime ∧
          (∀ a, a ≠ sender → t.stationRec a = s.stationRec a) ∧
          ((s.stationRec sender).state = .live → s.present sender = true → ChangesOnly s [.stn, .lnc] t) ∧
          ChangesOnly s (.stn :: Part.ofCause) t) ∧
        (∀ b0 b1 text, payload = b0 :: b1 :: text → text.length ≤ 12 → dest = 0 ∨ dest = 15 →
          (s.stationRec sender).state = .live → s.present sender = true → s.obc.span < 256 → s.obc.missedMask = 0 →
          s.obc.missedCount = 0 → ∃ t, exec (.noteReceived ⟨sender, dest, payload⟩) s = .next t ∧
            t.lnc.received = s.lnc.received + 1 ∧ t.obc.written = s.obc.written + 1 ∧
            (t.obc.journal.head?).map (fun j => (j.seq, j.time, j.kind, j.block, j.detail)) =
              some (s.obc.written, s.clockTime, .noteReceived, .lnc,
                [BitVec.ofNat 8 sender, b1, b0, BitVec.ofNat 8 text.length] ++ text) ∧
            ChangesOnly s [.stn, .lnc, .journal, .news] t)))

/-- R99, R113, R135: a break ends the attempt uncounted, keeps every queued frame, stops every silence timer and
raises LINE_BREAK, which stops the line fast; its end returns the line to IDLE and ends the condition. A break that
begins again, or ends while none is in progress, changes nothing. The model's own choices here: line bits taken as
events (log 12). -/
def Obligations.BreakStopsTheLine : Prop :=
  ∀ (s : State) (sender : Option Nat), s.CausesOk →
    (s.lnc.state = .inBreak →
      (∃ t, exec (.breakBegin sender) s = .next t ∧ ChangesOnly s [] t) ∧
      ∃ t, exec .breakEnd s = .next t ∧ t.lnc.state = .idle ∧ t.NoneActive .lineBreak 0 ∧ t.cal.breakMark = false ∧
        t.lnc.breaks = s.lnc.breaks ∧ ChangesOnly s (.stn :: Part.ofCause) t) ∧
    (s.lnc.state ≠ .inBreak →
      (∃ t, exec .breakEnd s = .next t ∧ ChangesOnly s [] t) ∧
      ∃ t, exec (.breakBegin sender) s = .next t ∧ t.lnc.state = .inBreak ∧ t.lnc.attempt = none ∧
        t.lnc.cut = none ∧ t.lnc.breaks = s.lnc.breaks + 1 ∧ t.cal.breakMark = true ∧
        (∀ r ∈ t.stn.records, r.timer = none) ∧ t.msv.state ≠ .run ∧ t.msv.state ≠ .stoppingService ∧
        (s.msv.causes.length < 31 → t.Lists .lineBreak 0 .activeUnacked) ∧
        (s.lnc.queue.length < 15 → ∀ f ∈ s.lnc.queue, f ∈ t.lnc.queue) ∧
        ChangesOnly s (.stn :: Part.ofCause) t)

/-! ## Section 6: line stations and remote trips -/

/-- What a call record holds, less its clock readings and what the call view shows of its timers. -/
def Sys2Proof.Machine.CallRec.core (r : CallRec) :
    Nat × Nat × Nat × Bool × CallOrigin × CallState × List Nat × Timer × Timer × Option Nat :=
  (r.id, r.caller, r.callee, r.urgent, r.origin, r.state, r.parties, r.waitTimer, r.ringTimer, r.context)

/-- R114, R115, R116, R118: a STATUS of a present station that is not EXCLUDED, addressed to 0 or 15, makes it LIVE
and restarts its silence timer outside a break; its first two bytes give the states of the sheaves the line plan
counts, the stop request, the hook and the fault. A sheave that is not OK raises RPD_REMOTE once, one that is OK ends
it, and the reported request replaces the active ones. A STATUS of an EXCLUDED station is recorded, without a cause.
No other station's record changes. The model's own choices here: times in the model's ms (log 2); line bits taken as
events (log 12). -/
def Obligations.StatusReportsStation : Prop :=
  ∀ (s : State) (a dest : Nat) (b0 b1 : Byte) (rest : List Byte), 1 ≤ a → a ≤ 13 → dest = 0 ∨ dest = 15 →
    1 ≤ rest.length → rest.length ≤ 14 → s.stn.records.length = 14 → s.present a = true →
    (s.stationRec a).sheaveActive.length = 4 → (s.stationRec a).sheaves.length = 4 →
    let count := s.sst.active.line.sheaveCount a
    let sheave (i : Nat) : SheaveState := sheaveOf (b0.toNat / 4 ^ (3 - i) % 4)
    ∃ t, exec (.statusReceived ⟨a, dest, b0 :: b1 :: rest⟩) s = .next t ∧ ChangesOnly s (.stn :: Part.ofCause) t ∧
      (∀ x, x ≠ a → t.stationRec x = s.stationRec x) ∧
      (∀ i, i < 4 → (t.stationRec a).sheaves[i]? =
        if i < count then some (sheave i) else (s.stationRec a).sheaves[i]?) ∧
      (t.stationRec a).reqService = decide (b1.toNat / 64 = 1) ∧ (t.stationRec a).reqFast = decide (2 ≤ b1.toNat / 64) ∧
      (t.stationRec a).hook = (if b1.toNat / 32 % 2 = 1 then .offHook else .onHook) ∧
      (t.stationRec a).fault = decide (b1.toNat / 16 % 2 = 1) ∧
      ((s.stationRec a).state = .excluded → (t.stationRec a).state = .excluded ∧ ChangesOnly s [.stn, .lnc] t) ∧
      ((s.stationRec a).state ≠ .excluded →
        (t.stationRec a).state = .live ∧
        (t.stationRec a).timer = (if s.lnc.state = .inBreak then none
          else some (s.now + s.sst.active.line.silence a)) ∧
        (∀ i, i < count → i < 4 → (t.stationRec a).sheaveActive[i]? = some (decide (sheave i ≠ .ok))) ∧
        (s.CausesOk → s.msv.causes.length < 26 →
          (∀ i, i < count → i < 4 → (s.stationRec a).sheaveActive[i]? = some false → sheave i ≠ .ok →
            t.Lists .rpdRemote (4 * a + i) .activeUnacked) ∧
          (∀ i, i < count → i < 4 → (s.stationRec a).sheaveActive[i]? = some true → sheave i = .ok →
            t.NoneActive .rpdRemote (4 * a + i)) ∧
          ((s.stationRec a).reqFast = false → 2 ≤ b1.toNat / 64 → t.Lists .remoteTrip (16 + a) .activeUnacked) ∧
          ((s.stationRec a).reqFast = true → b1.toNat / 64 < 2 → t.NoneActive .remoteTrip (16 + a)) ∧
          ((s.stationRec a).reqService = false → b1.toNat / 64 = 1 → t.Lists .remoteTrip a .activeUnacked) ∧
          ((s.stationRec a).reqService = true → b1.toNat / 64 ≠ 1 → t.NoneActive .remoteTrip a)))

/-- R114, R116, R137: a TRIP of a present station addressed to 0 or 15 adds its category to the station's requests,
any value but SERVICE taken as FAST, and raises REMOTE_TRIP unless that request was active; from an EXCLUDED station
it is journalled alone. A FAST request of a LIVE station, where the line plan enables it and no call exists, also
places an URGENT trip call to that station, which is granted at once and rings the valley. The model's own choices
here: times in the model's ms (log 2); the order of effects inside one event (log 8); line bits taken as events (log
12). -/
def Obligations.TripRaisesRemoteTrip : Prop :=
  ∀ (s : State) (a dest : Nat) (b0 b1 : Byte) (rest : List Byte), 1 ≤ a → a ≤ 13 → dest = 0 ∨ dest = 15 →
    rest.length ≤ 14 → s.stn.records.length = 14 → s.present a = true →
    ∃ t, exec (.tripReceived ⟨a, dest, b0 :: b1 :: rest⟩) s = .next t ∧ ChangesOnly s (.stn :: Part.ofCause) t ∧
      (∀ x, x ≠ a → t.stationRec x = s.stationRec x) ∧
      ((s.stationRec a).state = .excluded → ChangesOnly s [.stn, .lnc, .journal, .news] t) ∧
      ((s.stationRec a).state ≠ .excluded →
        (t.stationRec a).reqService = ((s.stationRec a).reqService || decide (b0 = 1)) ∧
        (t.stationRec a).reqFast = ((s.stationRec a).reqFast || decide (b0 ≠ 1)) ∧
        ((s.stationRec a).state = .live → (s.stationRec a).reqFast = false → b0 ≠ 1 → s.cal.table = [] →
          (s.sst.active.line.tripCallEnable = false → t.cal.table = []) ∧
          (s.sst.active.line.tripCallEnable = true → t.cal.ringOut = true ∧ t.cal.table.map (·.core) =
            [(s.cal.nextId, 0, a, true, .trip, .ringing, [], none,
              some (s.now + 1000 * s.sst.active.line.ringTimeout), none)])) ∧
        (s.CausesOk → s.Consistent → s.msv.causes.length < 31 →
          ((s.stationRec a).reqService = false → b0 = 1 → t.Lists .remoteTrip a .activeUnacked ∧ t.msv.state ≠ .run) ∧
          ((s.stationRec a).reqFast = false → b0 ≠ 1 → t.Lists .remoteTrip (16 + a) .activeUnacked ∧
            t.msv.state ≠ .run ∧ t.msv.state ≠ .stoppingService)))

/-- R111, R112, R117, R120 to R122: the expiry of a silence timer whose time is reached makes a station SILENT, which
raises STATION_SILENT for a supervised one; an expiry that finds the timer stopped or restarted changes nothing.
EXCLUDE_STATION under the key in STANDBY or HELD makes a station EXCLUDED and ends its conditions; the first exclusion
raises EXCLUSION_ACTIVE. INCLUDE_STATION under the key makes it UNHEARD with its join grace and its reports cleared;
the last inclusion ends EXCLUSION_ACTIVE. The model's own choices here: orders as commands with their slip (log 1);
times in the model's ms (log 2). -/
def Obligations.StationsLeaveAndRejoin : Prop :=
  ∀ (s : State) (slip a : Nat), slip < 32 → Memory.wf s.mem = true → 1 ≤ a → a ≤ 13 → s.stn.records.length = 14 →
    s.present a = true → s.CausesOk → s.msv.causes.length < 30 →
    ((∀ d, (s.stationRec a).timer = some d → s.now < d) →
      ∃ t, exec (.silenceTimerExpiry a) s = .next t ∧ ChangesOnly s [] t) ∧
    (∀ d, (s.stationRec a).timer = some d → d ≤ s.now → ∃ t, exec (.silenceTimerExpiry a) s = .next t ∧
      ChangesOnly s (.stn :: Part.ofCause) t ∧
      (t.stationRec a).state = .silent ∧ (t.stationRec a).timer = none ∧
      (∀ x, x ≠ a → t.stationRec x = s.stationRec x) ∧
      ((s.stationRec a).state = .live → (t.stationRec a).upSince = 0) ∧
      (s.sst.active.line.supervised a = true → t.Lists .stationSilent a .activeUnacked ∧ t.msv.state ≠ .run ∧
        t.msv.state ≠ .stoppingService)) ∧
    (s.pins.setupKey = true → s.msv.state = .standby ∨ s.msv.state = .held → (s.stationRec a).state ≠ .excluded →
      ∃ t, exec (.excludeStation slip a) s = .next t ∧ ChangesOnly s (.stn :: Part.ofCause) t ∧
        t.Answered slip resultOk ∧
        (t.stationRec a).state = .excluded ∧ (t.stationRec a).timer = none ∧
        (t.stationRec a).sheaves = (s.stationRec a).sheaves ∧ (∀ x, x ≠ a → t.stationRec x = s.stationRec x) ∧
        t.NoneActive .stationSilent a ∧ t.NoneActive .remoteTrip a ∧ t.NoneActive .remoteTrip (16 + a) ∧
        (∀ i, i < 4 → t.NoneActive .rpdRemote (4 * a + i)) ∧
        (s.excludedCount = 0 → t.Lists .exclusionActive 0 .activeUnacked ∧ (.exclusionActive, 0) ∈ t.msv.limits)) ∧
    (s.pins.setupKey = true → (s.stationRec a).state = .excluded →
      ∃ t, exec (.includeStation slip a) s = .next t ∧ ChangesOnly s (.stn :: Part.ofCause) t ∧
        t.Answered slip resultOk ∧
        (t.stationRec a).state = .unheard ∧ (t.stationRec a).sheaves = List.replicate 4 .unreported ∧
        (t.stationRec a).reqService = false ∧ (t.stationRec a).reqFast = false ∧
        (t.stationRec a).hook = .unreported ∧ (t.stationRec a).fault = false ∧
        (t.stationRec a).timer = (if s.lnc.state = .inBreak then none
          else some (s.now + 2 * s.sst.active.line.silence a)) ∧
        (∀ x, x ≠ a → t.stationRec x = s.stationRec x) ∧
        (s.excludedCount = 1 → t.NoneActive .exclusionActive 0 ∧ (.exclusionActive, 0) ∉ t.msv.limits))

/-! ## Section 7: calls on the talk pair -/

/-- The transmit queue holds a frame of a kind, a destination and a payload. -/
def Sys2Proof.Machine.State.Queues (s : State) (kind : FrameKind) (dest : Nat) (payload : List Byte) : Prop :=
  ∃ f ∈ s.lnc.queue, f.kind = kind ∧ f.dest = dest ∧ f.payload = payload

/-- The call table gains one record, and every other record stays as it is. -/
def Sys2Proof.Machine.State.GainsCall (s t : State) (id caller callee : Nat) (urgent : Bool) (origin : CallOrigin)
    (wait : Timer) (context : Option Nat) : Prop :=
  (t.cal.table.filter (·.id ≠ id)).map (·.core) = s.cal.table.map (·.core) ∧
    (t.cal.find id).map (·.core) =
      some (id, caller, callee, urgent, origin, .waiting, [caller], wait, none, context) ∧
    t.cal.table.length = s.cal.table.length + 1

/-- R125 to R129, R132, R133, R138: a request that R127 does not turn away, with room in the table, creates the record
of the next call id. Into an empty table it is granted at once: RINGING with its ring timer, a PAIR_GRANT queued, and
a CALL answered OK with the call id. While another call holds the pair, and is not preempted, the record waits with
its wait timer, and a CALL stays TAKEN. An URGENT request preempts a NORMAL call that holds the pair, and in a full
table displaces the youngest waiting NORMAL call. A PAIR_REQ of a SILENT station, one to a callee that is invalid,
SILENT or EXCLUDED, and one that finds the table full are denied with their reason, a repeated one is absorbed; a CALL
gets the result of its row. The model's own choices here: orders as commands with their slip (log 1); times in the
model's ms (log 2); layouts of journal details and result data (log 7); line bits taken as events (log 12); which
refusal of a CALL is tested first (log 28). -/
def Obligations.RequestCreatesCall : Prop :=
  ∀ (s : State) (slip k a callee : Nat) (urgent : Bool), slip < 32 → Memory.wf s.mem = true →
    1 ≤ s.cal.nextId → s.cal.nextId ≤ 255 → (∀ r ∈ s.cal.table, r.id ≠ s.cal.nextId) →
    s.cal.breakMark = false → ordinaryPlace s.lnc.queue = true → callee ≤ 255 →
    let kind := if urgent then 1 else 0
    let payload : List Byte := [BitVec.ofNat 8 callee, BitVec.ofNat 8 kind]
    let grant (caller : Nat) : List Byte :=
      [BitVec.ofNat 8 s.cal.nextId, BitVec.ofNat 8 caller, BitVec.ofNat 8 callee, BitVec.ofNat 8 kind]
    let ring : Timer := some (s.now + 1000 * s.sst.active.line.ringTimeout)
    let wait : Timer := some (s.now + 1000 * s.sst.active.line.waitTimeout)
    let seeks (caller : Nat) : Prop := s.requestCase caller callee = .seekRoom
    let invalid (caller : Nat) : Prop :=
      callee = 14 ∨ 15 < callee ∨ callee = caller ∨ (callee ≠ 15 ∧ s.present callee = false)
    let unavailable : Prop := 1 ≤ callee ∧ callee ≤ 13 ∧ s.present callee = true ∧
      ((s.stationRec callee).state = .silent ∨ (s.stationRec callee).state = .excluded)
    let full : Prop := 5 ≤ s.cal.table.length ∧ (urgent = true → s.cal.holding.all (·.urgent) = true ∧
      ∀ r ∈ s.cal.table, r.state = .waiting → r.urgent = true)
    (1 ≤ a → a ≤ 13 → (s.stationRec a).state = .live →
      let denied (t : State) (reason : Nat) : Prop := t.cal = s.cal ∧
        t.Queues .pairDenied a [BitVec.ofNat 8 reason, BitVec.ofNat 8 callee] ∧
        ChangesOnly s [.stn, .lnc, .journal, .news] t
      (s.cal.table.length < 5 → seeks a →
        ∃ t, exec (.pairReqReceived ⟨a, 0, payload⟩) s = .next t ∧ ChangesOnly s (.stn :: Part.ofCause) t ∧
          1 ≤ t.cal.nextId ∧ t.cal.nextId ≤ 255 ∧ (∀ r ∈ t.cal.table, r.id ≠ t.cal.nextId) ∧
          (s.cal.table = [] → t.Queues .pairGrant 15 (grant a) ∧ t.cal.table.map (·.core) =
            [(s.cal.nextId, a, callee, urgent, .station, .ringing, [a], none, ring, none)] ∧
            ChangesOnly s [.stn, .lnc, .cal, .journal, .news] t) ∧
          (s.cal.holding.any (fun h => h.urgent || !urgent) = true → t.lnc.queue = s.lnc.queue ∧
            s.GainsCall t s.cal.nextId a callee urgent .station wait none)) ∧
      (∀ h, s.cal.table.head? = some h → h.state ≠ .waiting → h.urgent = false → urgent = true → h.id ≤ 255 →
        (∀ r ∈ s.cal.table.tail, r.state = .waiting ∧ r.urgent = false ∧ r.id ≠ h.id) → seeks a →
        ∃ t, exec (.pairReqReceived ⟨a, 0, payload⟩) s = .next t ∧ t.cal.table.map (·.core) =
            (s.cal.nextId, a, callee, true, .station, .ringing, [a], none, ring, none) :: s.cal.table.tail.map (·.core) ∧
          t.Queues .pairRecall 15 [BitVec.ofNat 8 h.id, 6] ∧ ChangesOnly s (.stn :: Part.ofCause) t) ∧
      (∀ i, i < s.cal.table.length → ∀ w, s.cal.table[i]? = some w → (s.cal.table.map (·.id)).Nodup →
        s.cal.holding.any (·.urgent) = true → 5 ≤ s.cal.table.length → urgent = true → w.state = .waiting →
        w.urgent = false → w.id ≤ 255 → (s.cal.table.drop (i + 1)).all (fun r => r.state ≠ .waiting || r.urgent) = true → seeks a →
        ∃ t, exec (.pairReqReceived ⟨a, 0, payload⟩) s = .next t ∧
          (t.cal.table.filter (·.id ≠ s.cal.nextId)).map (·.core) = (s.cal.table.eraseIdx i).map (·.core) ∧
          (t.cal.find s.cal.nextId).map (·.core) =
            some (s.cal.nextId, a, callee, true, .station, .waiting, [a], wait, none, none) ∧
          (w.caller ≠ 0 → t.Queues .pairDenied w.caller [7, BitVec.ofNat 8 w.callee]) ∧
          ChangesOnly s (.stn :: Part.ofCause) t) ∧
      (s.present a = true → invalid a ∨ unavailable →
        ∃ t, exec (.pairReqReceived ⟨a, 0, payload⟩) s = .next t ∧ denied t 10) ∧
      (seeks a → full → ∃ t, exec (.pairReqReceived ⟨a, 0, payload⟩) s = .next t ∧ denied t 8) ∧
      (s.requestCase a callee = .duplicate → ∃ t, exec (.pairReqReceived ⟨a, 0, payload⟩) s = .next t ∧
        ChangesOnly s [.stn, .lnc] t ∧ t.lnc.queue = s.lnc.queue)) ∧
    (1 ≤ a → a ≤ 13 → s.present a = true → (s.stationRec a).state = .silent →
      ∃ t, exec (.pairReqReceived ⟨a, 0, payload⟩) s = .next t ∧ t.cal = s.cal ∧
        t.Queues .pairDenied a [9, BitVec.ofNat 8 callee] ∧ ChangesOnly s [.stn, .lnc, .journal, .news] t) ∧
    (s.freeContext? = some k → 1 ≤ callee →
      (s.cal.table.length < 5 → seeks 0 →
        ∃ t, exec (.call slip callee kind) s = .next t ∧
          ChangesOnly s [.lnc, .cal, .mem, .news, .journal, .contexts] t ∧ t.cal.valleyOffHook = true ∧
          (s.cal.table = [] → SlipOnly slip s t ∧ t.Queues .pairGrant 15 (grant 0) ∧ t.cal.table.map (·.core) =
            [(s.cal.nextId, 0, callee, urgent, .host, .ringing, [0], none, ring, none)] ∧
            t.Answered slip ⟨true, .ok, [BitVec.ofNat 8 s.cal.nextId]⟩ ∧ t.context k = none) ∧
          (s.cal.holding.any (fun h => h.urgent || !urgent) = true → SlipOnly slip s t ∧ t.slipState slip = 2 ∧
            t.context k = some ⟨s.slipTicket slip, slip, .call callee kind, s.clockTime⟩ ∧
            s.GainsCall t s.cal.nextId 0 callee urgent .host wait (some k))) ∧
      (let refused (code : ResultCode) : Prop := ∃ t, exec (.call slip callee kind) s = .next t ∧
         t.Answered slip (refusal code) ∧ SlipOnly slip s t ∧ ChangesOnly s [.mem, .news] t
       (invalid 0 → refused .badArg) ∧ (unavailable → refused .stationSilent) ∧
       (s.requestCase 0 callee = .duplicate → refused .busy) ∧ (seeks 0 → full → refused .full)))

/-- R130, R131, R139: OFF from the callee of a RINGING call makes it TALKING with the station among its parties and
its ring timer stopped; ANSWER does the same for the valley, whose ringing stops and whose handset is connected,
queues a HOOK frame and answers OK. No other record changes. A HOOK frame with a call id of no record moves no call.
The model's own choices here: orders as commands with their slip (log 1); line bits taken as events (log 12). -/
def Obligations.OffHookConnectsCall : Prop :=
  ∀ (s : State) (slip a : Nat) (r : CallRec) (rest : List CallRec), slip < 32 → Memory.wf s.mem = true →
    s.cal.table = r :: rest → r.state = .ringing → r.id ≤ 255 → (∀ x ∈ rest, x.id ≠ r.id) →
    1 ≤ a → a ≤ 13 → s.present a = true → (s.stationRec a).state = .live →
    (r.callee = a → ∃ t, exec (.hookReceived ⟨a, 0, [BitVec.ofNat 8 r.id, 1]⟩) s = .next t ∧
      t.cal.table.map (·.core) = (r.id, r.caller, r.callee, r.urgent, r.origin, .talking, r.parties ++ [a], r.waitTimer,
        none, r.context) :: rest.map (·.core) ∧
      t.cal.voiceConnect = decide (0 ∈ r.parties) ∧ t.lnc.queue = s.lnc.queue ∧
      ChangesOnly s [.stn, .lnc, .cal, .journal, .news] t) ∧
    (r.callee = 0 ∨ r.callee = 15 → 0 ∉ r.parties → ∃ t, exec (.answer slip r.id) s = .next t ∧
      ChangesOnly s [.lnc, .cal, .mem, .news, .journal, .contexts] t ∧
      t.cal.table.map (·.core) = (r.id, r.caller, r.callee, r.urgent, r.origin, .talking, r.parties ++ [0], r.waitTimer,
        none, r.context) :: rest.map (·.core) ∧
      t.cal.voiceConnect = true ∧ t.cal.ringOut = false ∧ t.cal.valleyOffHook = true ∧ t.Answered slip resultOk ∧
      (s.cal.breakMark = false → ordinaryPlace s.lnc.queue = true →
        t.Queues .hook 15 [BitVec.ofNat 8 r.id, 1]) ∧
      (s.cal.breakMark = true → SlipOnly slip s t ∧ t.lnc = s.lnc)) ∧
    (∀ id : Byte, s.cal.find id.toNat = none → ∃ t, exec (.hookReceived ⟨a, 0, [id, 1]⟩) s = .next t ∧
      t.cal = s.cal ∧ ChangesOnly s [.stn, .lnc] t)

/-- R132 to R134, R138, R140: a call ends when its ring timer or its wait timer expires, when the valley as its caller
hangs up, when a station in it hangs up, and when a station it names becomes SILENT. Its record leaves the table. A
holding call gives the pair to the first waiting call, which rings, or leaves it FREE; a waiting call leaves every
other record as it is, and its CALL is answered TIMEOUT, ABORTED or STATION_SILENT with the call id and the end
reason. The model's own choices here: orders as commands with their slip (log 1); times in the model's ms (log 2);
layouts of journal details and result data (log 7); line bits taken as events (log 12). -/
def Obligations.CallEndGivesPairOn : Prop :=
  ∀ (s : State) (slip a : Nat) (h : CallRec) (rest : List CallRec), slip < 32 → Memory.wf s.mem = true →
    s.cal.table = h :: rest → (s.cal.table.map (·.id)).Nodup → (∀ x ∈ rest, x.state = .waiting) →
    let given := match rest with
      | [] => []
      | w :: others => (w.id, w.caller, w.callee, w.urgent, w.origin, CallState.ringing, w.parties, none,
          some (s.now + 1000 * s.sst.active.line.ringTimeout), none) :: others.map CallRec.core
    let involves (x : CallRec) : Bool := x.caller = a || x.callee = a || x.parties.contains a
    (h.state = .ringing → h.ringTimer ≠ none → ∃ t, exec (.ringTimerExpiry h.id) s = .next t ∧
      t.cal.table.map (·.core) = given ∧
      (rest = [] → t.cal.ringOut = false ∧ t.cal.voiceConnect = false) ∧
      ChangesOnly s [.lnc, .cal, .mem, .news, .journal, .contexts] t) ∧
    (h.state ≠ .waiting → h.caller = 0 → ∃ t, exec (.hangUp slip h.id) s = .next t ∧
      ChangesOnly s [.lnc, .cal, .mem, .news, .journal, .contexts] t ∧
      t.cal.table.map (·.core) = given ∧
      (rest = [] → t.cal.ringOut = false ∧ t.cal.voiceConnect = false) ∧
      t.Answered slip resultOk) ∧
    (h.state ≠ .waiting → h.caller ≠ 0 → 0 ∉ h.parties → ∃ t, exec (.hangUp slip h.id) s = .next t ∧ t.cal = s.cal ∧
      t.Answered slip (refusal .wrongState) ∧ SlipOnly slip s t ∧ ChangesOnly s [.mem, .news] t) ∧
    (h.state ≠ .waiting → ∀ w, rest.head? = some w → w.waitTimer ≠ none →
      ∃ t, exec (.waitTimerExpiry w.id) s = .next t ∧ t.cal.table.map (·.core) = (h :: rest.tail).map (·.core) ∧
        (∀ k, w.context = some k → ∀ x, s.context k = some x → x.slip < 32 → s.slipState x.slip = 2 →
          s.slipTicket x.slip = x.ticket → t.Answered x.slip ⟨false, .timeout, [BitVec.ofNat 8 w.id, 4]⟩ ∧
          (s.cal.breakMark = true ∨ w.caller = 0 ∨ ordinaryPlace s.lnc.queue = true → SlipOnly x.slip s t)) ∧
        ChangesOnly s [.lnc, .cal, .mem, .news, .journal, .contexts] t) ∧
    (h.state ≠ .waiting → ∀ w, rest.head? = some w → w.caller = 0 →
      ∃ t, exec (.hangUp slip w.id) s = .next t ∧ t.cal.table.map (·.core) = (h :: rest.tail).map (·.core) ∧
        t.Answered slip resultOk ∧
        (∀ k, w.context = some k → ∀ x, s.context k = some x → x.slip < 32 → x.slip ≠ slip → s.slipState x.slip = 2 →
          s.slipTicket x.slip = x.ticket → t.Answered x.slip ⟨false, .aborted, [BitVec.ofNat 8 w.id, 2]⟩ ∧
          t.context k = none) ∧
        ChangesOnly s [.cal, .mem, .news, .journal, .contexts] t) ∧
    (h.id ≤ 255 → 1 ≤ a → a ≤ 13 → s.present a = true → (s.stationRec a).state = .live →
      (h.state = .talking ∧ (h.callee ≠ 15 ∧ a ∈ h.parties ∨ h.callee = 15 ∧ h.caller = a)) ∨
        (h.state = .ringing ∧ h.caller = a) →
      ∃ t, exec (.hookReceived ⟨a, 0, [BitVec.ofNat 8 h.id, 0]⟩) s = .next t ∧
        t.cal.table.map (·.core) = given ∧
        (s.cal.breakMark = false → s.lnc.queue.length < 14 → ordinaryPlace s.lnc.queue = true →
          t.Queues .pairRecall 15 [BitVec.ofNat 8 h.id, if h.state = .talking then 1 else 2]) ∧
        ChangesOnly s [.stn, .lnc, .cal, .mem, .news, .journal, .contexts] t) ∧
    (1 ≤ a → a ≤ 13 → s.present a = true → h.state ≠ .waiting →
      (∃ d, (s.stationRec a).timer = some d ∧ d ≤ s.now) →
      (h.caller = a ∨ h.callee = a → rest.any involves = false →
        ∃ t, exec (.silenceTimerExpiry a) s = .next t ∧ t.cal.table.map (·.core) = given ∧
          (s.cal.breakMark = false → s.lnc.queue.length < 12 → t.Queues .pairRecall 15 [BitVec.ofNat 8 h.id, 5]) ∧
          ChangesOnly s (.stn :: Part.ofCause) t) ∧
      (∀ w, rest.head? = some w → w.callee = a → w.caller = 0 → (h :: rest.tail).any involves = false →
        ∃ t, exec (.silenceTimerExpiry a) s = .next t ∧
          t.cal.table.map (·.core) = (h :: rest.tail).map (·.core) ∧
          (∀ k, w.context = some k → ∀ x, s.context k = some x → x.slip < 32 → s.slipState x.slip = 2 →
            s.slipTicket x.slip = x.ticket →
            t.Answered x.slip ⟨false, .stationSilent, [BitVec.ofNat 8 w.id, 5]⟩) ∧
          ChangesOnly s (.stn :: Part.ofCause) t))

/-- R136, R141: while the re-announce timer runs, its expiry clears the mark and queues one frame that states the pair
state, PAIR_GRANT for the holding call or PAIR_FREE, and outside that changes nothing; a timer second of the call view
shows each record's remaining times in whole seconds. The model's own choices here: times in the model's ms (log 2);
call seconds from the time base (log 22). -/
def Obligations.PairStateIsAnnounced : Prop :=
  ∀ s : State,
    (s.cal.reannounce = none → ∃ t, exec .reannounceTimerExpiry s = .next t ∧ ChangesOnly s [] t) ∧
    (s.cal.reannounce ≠ none → s.cal.breakMark = false → ordinaryPlace s.lnc.queue = true →
      ∃ t, exec .reannounceTimerExpiry s = .next t ∧ t.cal = { s.cal with reannounce := none } ∧
        (s.cal.holding = none → t.Queues .pairFree 15 []) ∧
        (∀ h, s.cal.holding = some h → t.Queues .pairGrant 15 [BitVec.ofNat 8 h.id, BitVec.ofNat 8 h.caller,
          BitVec.ofNat 8 h.callee, if h.urgent then 1 else 0]) ∧
        t.lnc.queue.length = s.lnc.queue.length + 1 ∧ (∀ f ∈ s.lnc.queue, f ∈ t.lnc.queue) ∧
        ChangesOnly s [.lnc, .cal] t) ∧
    (∃ t, exec .callViewTimerSecond s = .next t ∧
      t.cal.table = (s.cal.table.map fun r =>
        { r with shownWait := (match r.waitTimer with | none => 0 | some d => (d - s.now) / 1000)
                 shownRing := (match r.ringTimer with | none => 0 | some d => (d - s.now) / 1000) }) ∧
      ChangesOnly s [.cal] t)

/-! ## Section 8: stop causes, the speed ceiling and the safety chain -/

/-- R145, R149, R151, R156 to R158, R161: outside STANDBY, STOP and FAST_STOP leave their cause CLEARED_UNACKED,
appended with repeat count 0 or repeated with one more. In RUN, STOP begins a service stop with the chain closed;
FAST_STOP in RUN and STOPPING_SERVICE begins a fast stop with the chain open. The ceiling in force and SPEED_REF
become 0, and a fall from RUN starts the deceleration watch. Their cause finding a full list sets the aggregate entry
CAUSE_OVERFLOW, or repeats it, leaves the list as it is and begins a fast stop. The model's own choices here: orders
as commands with their slip (log 1); times in the model's ms (log 2); the envelope shown before a watch's first window
end (log 31). -/
def Obligations.OperatorStopsLine : Prop :=
  ∀ (s : State) (slip : Nat), slip < 32 → Memory.wf s.mem = true → s.msv.state ≠ .standby → s.Obeys → s.CausesOk →
    let watch (decel : Nat) : Watch :=
      let e := s.msv.ceiling + max 20 (s.msv.ceiling / 10)
      let e0 := match s.msv.watch with | none => e | some w => max e (w.e0 - w.decel * (s.now - w.start) / 1000)
      ⟨e0, decel, s.now, e0⟩
    let repeats (code : CauseCode) := ((s.msv.causes.find? (·.isOf code 0)).map fun c => min 255 (c.repeats + 1)).getD 0
    let overflows (t : State) : Prop :=
      t.msv.causes = s.msv.causes ∧ t.msv.chainOut = false ∧ t.msv.ceiling = 0 ∧ t.msv.speedRef = 0 ∧
        t.msv.aggregate = some (match s.msv.aggregate with
          | none => ⟨s.clockTime, 0⟩
          | some g => { g with repeats := min 255 (g.repeats + 1) }) ∧
        t.msv.state = (if s.msv.state = .run ∨ s.msv.state = .stoppingService then .stoppingFast else s.msv.state) ∧
        ChangesOnly s Part.ofCause t
    (s.msv.causes.length < 31 ∨ (∃ c ∈ s.msv.causes, c.isOf .operatorStop 0 = true) →
      ∃ t, exec (.stop slip) s = .next t ∧ t.Answered slip resultOk ∧ t.Lists .operatorStop 0 .clearedUnacked ∧
      (∃ c ∈ t.msv.causes, c.code = .operatorStop ∧ c.repeats = repeats .operatorStop) ∧
      t.msv.state = (if s.msv.state = .run then .stoppingService else s.msv.state) ∧ t.msv.chainOut = s.msv.chainOut ∧
      t.msv.ceiling = 0 ∧ t.msv.speedRef = 0 ∧
      (0 < s.msv.ceiling → t.msv.watch = some (watch s.sst.active.rope.aService)) ∧ SlipOnly slip s t ∧
      ChangesOnly s [.msv, .lch, .mem, .news, .journal] t) ∧
    (s.msv.causes.length < 31 ∨ (∃ c ∈ s.msv.causes, c.isOf .operatorFast 0 = true) →
      ∃ t, exec (.fastStop slip) s = .next t ∧ t.Answered slip resultOk ∧ t.Lists .operatorFast 0 .clearedUnacked ∧
      (∃ c ∈ t.msv.causes, c.code = .operatorFast ∧ c.repeats = repeats .operatorFast) ∧
      t.msv.state = (if s.msv.state = .run ∨ s.msv.state = .stoppingService then .stoppingFast else s.msv.state) ∧
      t.msv.chainOut = false ∧ t.msv.ceiling = 0 ∧ t.msv.speedRef = 0 ∧
      (0 < s.msv.ceiling → t.msv.watch = some (watch s.sst.active.rope.aFast)) ∧
      (s.Consistent → s.lnc.queue.length < 16 → t.Queues .trip 15 [2, 35]) ∧ ChangesOnly s Part.ofCause t) ∧
    (31 ≤ s.msv.causes.length →
      ((∀ c ∈ s.msv.causes, c.isOf .operatorStop 0 = false) → ∃ t, exec (.stop slip) s = .next t ∧ overflows t ∧
        t.Answered slip resultOk ∧
        (s.Consistent → s.msv.aggregate = none → s.lnc.queue.length < 16 → t.Queues .trip 15 [2, 36])) ∧
      ((∀ c ∈ s.msv.causes, c.isOf .operatorFast 0 = false) → ∃ t, exec (.fastStop slip) s = .next t ∧ overflows t ∧
        t.Answered slip resultOk ∧
        (s.Consistent → s.lnc.queue.length < 15 → t.Queues .trip 15 [2, 35] ∧
          (s.msv.aggregate = none → t.Queues .trip 15 [2, 36]))))

/-- R150, R152, R154, R155, R159: START of valid tables takes STANDBY to HELD and changes no cause; RESUME at
standstill, with the track TRACKING and no latched cause, takes HELD to RUN with the chain closed, and to
STOPPING_FAST with the chain open when the external chain is; CHAIN_SENSE opening under a closed chain raises
EXTERNAL_CHAIN, under an open one only the pin changes. SET_CEILING stores the value, clamped to the design maximum.
The model's own choices here: orders as commands with their slip (log 1); layouts of journal details and result data
(log 7); pin rows that carry a level (log 18). -/
def Obligations.StartAndResumeMoveSupervisor : Prop :=
  ∀ (s : State) (slip value : Nat), slip < 32 → Memory.wf s.mem = true → s.Obeys → s.CausesOk →
    s.msv.causes.length < 31 →
    let top := s.sst.active.rope.designMax
    (s.msv.state = .standby → s.sst.active.firstFailure = none → ∃ t, exec (.start slip) s = .next t ∧
      t.Answered slip resultOk ∧ t.msv.state = .held ∧ t.msv.chainOut = false ∧ t.msv.causes = s.msv.causes ∧
      t.msv.opCeiling = s.msv.opCeiling ∧ SlipOnly slip s t ∧ ChangesOnly s [.msv, .lch, .mem, .news, .journal] t) ∧
    (s.msv.state = .held → s.rpm.standstill = true → s.msv.hasLatched = false → s.trk.state = .tracking →
      ∃ t, exec (.resume slip) s = .next t ∧ t.Answered slip resultOk ∧ ChangesOnly s Part.ofCause t ∧
        (s.pins.chainSense = true → t.msv.state = .run ∧ t.msv.chainOut = true ∧ t.msv.causes = s.msv.causes ∧
          t.msv.ceiling = s.msv.ceiling ∧ t.msv.target ≤ top ∧ t.msv.target ≤ s.msv.opCeiling ∧
          SlipOnly slip s t ∧ ChangesOnly s [.msv, .lch, .mem, .news, .journal] t) ∧
        (s.pins.chainSense = false → t.msv.state = .stoppingFast ∧ t.msv.chainOut = false ∧
          t.Lists .externalChain 0 .activeUnacked)) ∧
    (s.pins.chainSense = true → ∃ t, exec (.chainSenseChange false) s = .next t ∧
      t.pins = { s.pins with chainSense := false } ∧ ChangesOnly s (.pins :: Part.ofCause) t ∧
      (s.msv.chainOut = true → t.msv.state = .stoppingFast ∧ t.msv.chainOut = false ∧
        t.Lists .externalChain 0 .activeUnacked) ∧
      (s.msv.chainOut = false → ChangesOnly s [.pins, .news] t)) ∧
    (s.pins.chainSense = false → ∃ t, exec (.chainSenseChange true) s = .next t ∧
      t.pins = { s.pins with chainSense := true } ∧ ChangesOnly s [.pins, .msv, .lch, .news, .journal] t ∧
      t.NoneActive .externalChain 0) ∧
    (s.msv.state ≠ .standby → value ≤ 999 → ∃ t, exec (.setCeiling slip value) s = .next t ∧
      t.msv.opCeiling = min value top ∧ t.msv.ceiling = min s.msv.ceiling t.msv.target ∧ t.msv.state = s.msv.state ∧
      t.Answered slip (if value ≤ top then resultOk
        else ⟨true, .clamped, [BitVec.ofNat 8 top, BitVec.ofNat 8 (top / 256)]⟩) ∧
      SlipOnly slip s t ∧ ChangesOnly s [.msv, .mem, .news] t)

/-- R146: ACK_CAUSE of ALL removes every CLEARED_UNACKED entry and the aggregate entry and makes every other entry
ACTIVE_ACKED, in list order; of a slot with the code it holds it acknowledges that entry alone; of a slot that holds
no entry, or one with another code, it is refused WRONG_STATE. The model's own choices here: orders as commands with
their slip (log 1). -/
def Obligations.AckRemovesClearedCauses : Prop :=
  ∀ (s : State) (slip n : Nat), slip < 32 → Memory.wf s.mem = true → s.msv.state ≠ .standby → s.Obeys → s.CausesOk →
    (∃ t, exec (.ackCause slip 255 0) s = .next t ∧ SlipOnly slip s t ∧
      ChangesOnly s [.msv, .lch, .mem, .news, .journal] t ∧ t.Answered slip resultOk ∧ t.msv.aggregate = none ∧
      t.msv.causes = (s.msv.causes.filter fun c => c.sub ≠ .clearedUnacked).map fun c => { c with sub := .activeAcked }) ∧
    (∀ c, s.msv.causes[n]? = some c → n < 31 →
      (∃ t, exec (.ackCause slip n c.code.code) s = .next t ∧ SlipOnly slip s t ∧
        ChangesOnly s [.msv, .lch, .mem, .news, .journal] t ∧ t.Answered slip resultOk ∧
        t.msv.causes = (if c.sub = .clearedUnacked then s.msv.causes.eraseIdx n
          else s.msv.causes.set n { c with sub := .activeAcked })) ∧
      (∃ t, exec (.ackCause slip n (c.code.code + 1)) s = .next t ∧ t.Answered slip (refusal .wrongState) ∧
        SlipOnly slip s t ∧ ChangesOnly s [.mem, .news] t)) ∧
    (s.msv.causes.length ≤ n → n < 31 → ∃ t, exec (.ackCause slip n 0) s = .next t ∧
      t.Answered slip (refusal .wrongState) ∧ SlipOnly slip s t ∧ ChangesOnly s [.mem, .news] t)

/-- R149, R153, R154, R157, R158, R160 to R162: at a supervisor window end the measured speed is held against its
bound: above it the exceed count grows, and at 2 raises the speed cause of the situation, which takes RUN and
STOPPING_SERVICE to STOPPING_FAST at once, with a watch from the bound at the fast deceleration where the bound lies
above 20 cm/s; at or below it the count is 0 and no speed cause is active. A stop ends in HELD at standstill. In RUN,
within the bound, the ceiling in force rises by one step towards its target, and the watch ends when its envelope has
come down. The model's own choices here: times in the model's ms (log 2). -/
def Obligations.SupervisorWindowChecksSpeed : Prop :=
  ∀ s : State, s.Obeys → s.CausesOk → s.Named → s.msv.causes.length < 31 →
    let c := s.msv.ceiling
    let envelope := s.msv.watch.map fun w => w.e0 - w.decel * (s.now - w.start) / 1000
    let low := s.msv.state = .held ∨ s.msv.state = .standby
    let bound := if low then 20 else max (c + max 20 (c / 10)) (envelope.getD 0)
    ∃ t, exec .supervisorWindowEnd s = .next t ∧ ChangesOnly s Part.ofCause t ∧
      (bound < s.rpm.v → t.msv.exceed = min 2 (s.msv.exceed + 1) ∧
        (1 ≤ s.msv.exceed →
          (low → s.msv.ropeCreep = false → t.Lists .ropeCreep 0 .activeUnacked) ∧
          (¬ low → s.msv.watch ≠ none → s.msv.decelFail = false → t.Lists .decelFail 0 .activeUnacked) ∧
          (¬ low → s.msv.watch = none → s.msv.overspeed = false → t.Lists .overspeed 0 .activeUnacked) ∧
          (s.msv.state = .run ∨ s.msv.state = .stoppingService → s.rpm.standstill = false →
            (if s.msv.watch = none then s.msv.overspeed else s.msv.decelFail) = false →
            t.msv.state = .stoppingFast ∧ t.msv.chainOut = false ∧ t.msv.ceiling = 0 ∧
            t.msv.watch = if bound ≤ 20 then none else some ⟨bound, s.sst.active.rope.aFast, s.now, bound⟩))) ∧
      (s.rpm.v ≤ bound → t.msv.exceed = 0 ∧ t.NoneActive .overspeed 0 ∧ t.NoneActive .decelFail 0 ∧
        t.NoneActive .ropeCreep 0 ∧
        (s.Consistent → s.msv.state = .run → t.msv.state = .run ∧ t.msv.chainOut = true ∧
          t.msv.ceiling = min s.msv.target (c + max 1 (s.sst.active.rope.accel / 10)) ∧
          t.msv.speedRef = t.msv.ceiling * 4095 / s.sst.active.rope.designMax ∧
          t.msv.watch.isSome = envelope.any fun e => decide (c + max 20 (c / 10) < e))) ∧
      (s.msv.state = .stoppingService ∨ s.msv.state = .stoppingFast → s.rpm.standstill = true →
        t.msv.state = .held ∧ t.msv.chainOut = false ∧ t.msv.watch = none)

/-! ## Section 9: terminal memory, orders and the journal -/

/-- The contents that the seven update counters bracket, in the order of the front page, less what only the part sees: the
bytes of the cause list, of the track view, of the fleet view and of the active tables as the host reads them, the station
records and the call records. -/
def Sys2Proof.Machine.State.Differs (s t : State) : List Prop :=
  let bytes (lo hi : Nat) : Prop := ∃ a, lo ≤ a ∧ a < hi ∧ t.readByte a ≠ s.readByte a
  [bytes 0x1A 0x24 ∨ bytes 0x28 0x40 ∨ bytes 0x50 0x100, bytes 0x2900 0x2B00, bytes 0x2B00 0x2D00,
   ∃ a, { t.stationRec a with timer := none, sheaveActive := [] } ≠
     { s.stationRec a with timer := none, sheaveActive := [] },
   t.cal.table.map (fun r => (r.id, r.state, r.parties)) ≠ s.cal.table.map (fun r => (r.id, r.state, r.parties)),
   bytes 0x3000 0x3C00, bytes 0x3C00 0x4C00]

/-- The update counters in the order of the front page (R189). -/
def Sys2Proof.Machine.Counters.list (c : Counters) : List Word :=
  [c.front, c.causeList, c.track, c.station, c.call, c.fleet, c.active]

/-- R164 to R167, R169, R175, R188, R189: a write to NEWS clears the bits written 1, one to ENABLE replaces its bits,
0x5A to CONTROL arms the reset sequence, and every other host write cancels it. ATTN is asserted while a NEWS bit and
its ENABLE bit are set. The four registers and the items of the front page read as they stand. A write to a word the
host may write is read back from it and from nowhere else; one to a word of the part changes nothing. The high word of
H makes the part take H, or W less 256 when H is out of range. An odd offset and one outside terminal memory fault. A
command but a power-up advances the update counter of a region by 2 when it changes its contents, and by 2 or not at
all otherwise. The model's own choices here: update counters outside the frame (log 3); terminal memory as
host-written cells (log 4); the two faults of a host write (log 20); register bits without a name (log 34). -/
def Obligations.HostWritesReachTheirTarget : Prop :=
  ∀ (s : State) (offset : Nat) (value : Word),
    (∃ t, exec (.newsWrite value) s = .next t ∧ t.obc.news = s.obc.news &&& ~~~(value.setWidth 7) ∧
      t.obc = { s.obc with news := t.obc.news, armed := false, counters := t.obc.counters } ∧
      (t.attn = true ↔ ∃ b, b < 7 ∧ s.obc.news.getLsbD b = true ∧ value.getLsbD b = false ∧
        s.obc.enable.getLsbD b = true) ∧ ChangesOnly s [.news, .port] t) ∧
    (∃ t, exec (.enableWrite value) s = .next t ∧
      t.obc = { s.obc with enable := value.setWidth 7, armed := false, counters := t.obc.counters } ∧
      (t.attn = true ↔ ∃ b, b < 7 ∧ s.obc.news.getLsbD b = true ∧ value.getLsbD b = true) ∧ ChangesOnly s [.port] t) ∧
    (∃ t, exec .resetSequenceArm s = .next t ∧
      t.obc = { s.obc with armed := true, counters := t.obc.counters } ∧ ChangesOnly s [.port] t) ∧
    (s.readRegister 0 = some s.obc.nextTicket ∧
      (∃ w, s.readRegister 2 = some w ∧ ∀ b, b < 16 → w.getLsbD b = s.obc.news.getLsbD b) ∧
      (∃ w, s.readRegister 4 = some w ∧ ∀ b, b < 16 → w.getLsbD b = s.obc.enable.getLsbD b) ∧
      ∃ w, s.readRegister 6 = some w ∧ w.toNat % 8 = s.msv.state.code ∧ w.getLsbD 3 = s.msv.chainOut ∧
        w.getLsbD 4 = s.pins.chainSense ∧ w.getLsbD 5 = s.pins.setupKey ∧
        w.getLsbD 6 = decide (s.trk.state = .tracking) ∧ w.getLsbD 7 = s.obc.armed ∧ w.toNat < 256) ∧
    (s.readWord 0x1A = s.obc.nextTicket ∧ s.readWord 0x1E ++ s.readWord 0x1C = s.obc.written ∧
      s.readWord 0x22 ++ s.readWord 0x20 = s.obc.taken ∧ (s.readByte 0x6C).toNat = s.msv.state.code ∧
      s.readWord 0x70 = BitVec.ofNat 16 s.msv.ceiling ∧ s.readWord 0x74 = BitVec.ofNat 16 s.msv.speedRef ∧
      s.readByte 0x7F = BitVec.ofNat 8 s.msv.causes.length ∧
      (∀ a, a < 0x8000 → 0x100 ≤ a → a < 0x900 ∨ 0x4C00 ≤ a → s.readByte a = memRead s.mem a) ∧
      ∀ n, n < 31 → ∀ c, s.msv.causes[n]? = some c → (s.readByte (0x2900 + 16 * n)).toNat = c.code.code ∧
        (s.readByte (0x2902 + 16 * n)).toNat = c.sub.code ∧
        s.readByte (0x2904 + 16 * n) = BitVec.ofNat 8 c.index) ∧
    (s.obc.armed = false → ∃ t, exec .controlReset s = .next t ∧ ChangesOnly s [] t) ∧
    (value ≠ 0x5A → value ≠ 0xA5 → ∃ t, exec (.hostMemoryWrite .control value) s = .next t ∧
      t.obc = { s.obc with armed := false, counters := t.obc.counters } ∧ ChangesOnly s [.port] t) ∧
    (∃ t, exec (.hostMemoryWrite .control 0x5A) s = .next t ∧
      t.obc = { s.obc with armed := true, counters := t.obc.counters } ∧ ChangesOnly s [.port] t) ∧
    (∃ t, exec (.hostReadCountWrite value) s = .next t ∧ t.obc.armed = false ∧
      (let h := BitVec.ofNat 32 ((memRead s.mem 0x24).toNat + 256 * (memRead s.mem 0x25).toNat + 65536 * value.toNat)
       Memory.wf s.mem = true →
         t.obc.taken = if (s.obc.written - h).toNat ≤ 256 then h else s.obc.written - 256) ∧
      ChangesOnly s [.port, .mem, .cells] t) ∧
    (offset < 0x8000 → offset % 2 = 0 →
      ∃ t, exec (.hostMemoryWrite (.memory offset) value) s = .next t ∧ t.obc.armed = false ∧
        (offset = 0x24 ∨ offset = 0x26 ∨ (0x100 ≤ offset ∧ offset < 0x900) ∨ 0x4C00 ≤ offset →
          (Memory.wf s.mem = true → t.readWord offset = value) ∧
          (∀ a, a ≠ offset → a ≠ offset + 1 → memRead t.mem a = memRead s.mem a) ∧
          ChangesOnly s [.port, .mem, .cells] t) ∧
        (¬ (offset = 0x24 ∨ offset = 0x26 ∨ (0x100 ≤ offset ∧ offset < 0x900) ∨ 0x4C00 ≤ offset) →
          ChangesOnly s [.port] t)) ∧
    (0x8000 ≤ offset → exec (.hostMemoryWrite (.memory offset) value) s = .fault (.noSuchAddress offset)) ∧
    (offset < 0x8000 → offset % 2 = 1 → exec (.hostMemoryWrite (.memory offset) value) s = .fault (.oddOffset offset)) ∧
    ∀ i t, (∀ held seconds ms, i ≠ .powerUp held seconds ms) → exec i s = .next t →
      ∀ n, ∀ h : n < 7, ∃ step, t.obc.counters.list[n]? = (s.obc.counters.list[n]?).map (· + step) ∧
        (step = 0 ∨ step = 2) ∧ ((s.Differs t)[n] → step = 2)

/-- R170: a write to POST takes slips until none is POSTED with the next ticket. With none it takes nothing. A slip
taken alone with an unknown order kind is REFUSED BAD_ORDER, and one that holds SET_CEILING outside STANDBY is carried
out and DONE; every other slip POSTED with its ticket is REFUSED DUPLICATE_TICKET; the next ticket advances by one for
each ticket taken. The model's own choices here: orders as commands with their slip (log 1); how a slip's arguments
are read (log 25). -/
def Obligations.PostTakesTicketsInOrder : Prop :=
  ∀ (s : State) (value : Word), Memory.wf s.mem = true →
    ∃ t, exec (.postWrite value) s = .next t ∧ t.obc.armed = false ∧
      (∀ k, k < 32 → t.slipState k = 1 → t.slipTicket k ≠ t.obc.nextTicket) ∧
      (∀ k, k < 32 → t.slipTicket k = s.slipTicket k) ∧
      ((∀ k, k < 32 → s.slipState k = 1 → s.slipTicket k ≠ s.obc.nextTicket) →
        t.obc = { s.obc with armed := false } ∧ ChangesOnly s [.port] t) ∧
      (∀ k, k < 32 → s.slipState k = 1 → s.slipTicket k = s.obc.nextTicket →
        (∀ j, j < k → ¬ (s.slipState j = 1 ∧ s.slipTicket j = s.obc.nextTicket)) →
        (∀ j, j < 32 → s.slipState j = 1 → s.slipTicket j ≠ s.obc.nextTicket + 1) →
        ((memRead s.mem (slipBase k + 3)).toNat = 0 ∨ 26 < (memRead s.mem (slipBase k + 3)).toNat →
          t.Answered k (refusal .badOrder) ∧ t.obc.nextTicket = s.obc.nextTicket + 1 ∧
          ChangesOnly s [.mem, .news, .port] t ∧
          ∀ j, j < 32 → j ≠ k → s.slipState j = 1 → s.slipTicket j = s.obc.nextTicket →
            t.Answered j (refusal .duplicateTicket)) ∧
        ((memRead s.mem (slipBase k + 3)).toNat = 5 → s.msv.state ≠ .standby →
          s.arg16 k 0 ≤ s.sst.active.rope.designMax → s.arg16 k 0 ≤ 999 →
          t.Answered k resultOk ∧ t.obc.nextTicket = s.obc.nextTicket + 1 ∧ t.msv.opCeiling = s.arg16 k 0 ∧
          ChangesOnly s [.msv, .mem, .news, .port] t))

/-- R171 to R173: in STANDBY an order that is not taken there is REFUSED NOT_STARTED, and a long order while all eight
contexts are in use is REFUSED FULL; neither changes anything but its slip. A long order that ends when its slip is no
longer TAKEN with its ticket is journalled ORDER_ORPHANED and leaves the slip as it is. The model's own choices here:
orders as commands with their slip (log 1); layouts of journal details and result data (log 7). -/
def Obligations.OrdersAreRefusedOrOrphaned : Prop :=
  ∀ (s : State) (slip a b : Nat) (w : Word) (text : List Byte), slip < 32 → Memory.wf s.mem = true →
    (s.msv.state = .standby → ∀ i ∈ [Instr.stop slip, .fastStop slip, .resume slip, .setCeiling slip a,
        .ackCause slip a b, .barCabin slip a, .unbarCabin slip a, .garageCabin slip a, .releaseCabin slip a],
      ∃ t, exec i s = .next t ∧ t.Answered slip (refusal .notStarted) ∧ SlipOnly slip s t ∧
        ChangesOnly s [.mem, .news] t) ∧
    (s.msv.state ≠ .standby → s.obc.contexts.all (·.isSome) = true →
      ∀ i ∈ [Instr.releaseCabin slip a, .stroke slip a b, .sendNote slip a w text, .call slip a b, .saveSet slip a],
      ∃ t, exec i s = .next t ∧ t.Answered slip (refusal .full) ∧ SlipOnly slip s t ∧
        ChangesOnly s [.mem, .news] t) ∧
    (∀ i, s.lch.insertion = some i → ∀ x, s.context i.context = some x →
      ¬ (s.slipState x.slip = 2 ∧ s.slipTicket x.slip = x.ticket) → s.obc.span < 256 → s.obc.missedMask = 0 →
      s.obc.missedCount = 0 → ∃ t, exec .insertionTimeout s = .next t ∧ t.context i.context = none ∧
        (t.obc.journal.head?).map (fun j => (j.seq, j.kind, j.detail)) = some (s.obc.written, .orderOrphaned,
          [BitVec.ofNat 8 x.ticket.toNat, BitVec.ofNat 8 (x.ticket.toNat / 256), BitVec.ofNat 8 x.slip,
            BitVec.ofNat 8 x.order.code, 4, BitVec.ofNat 8 ResultCode.timeout.code]) ∧
        t.mem = s.mem ∧ ChangesOnly s [.lch, .contexts, .news, .journal] t)

/-- R174, R175: an event that asks for a journal entry (here G_IN without a divert) has it written at sequence W with
the clock while the unread span is below 256, W advancing by one; when entries were missed before, a JOURNAL_GAP entry
with the mask and the count comes first, and both become 0; at a span of 256 the entry is not written, its kind's bit
is set in the mask and the missed count grows. The model's own choices here: layouts of journal details and result
data (log 7). -/
def Obligations.JournalWritesOrCounts : Prop :=
  ∀ s : State, s.lch.divert = none → ∃ t, exec .gInRising s = .next t ∧ ChangesOnly s [.journal, .news] t ∧
    (let span := (s.obc.written - s.obc.taken).toNat
     let missed := s.obc.missedMask ≠ 0 ∨ s.obc.missedCount ≠ 0
     let entry (seq : DWord) : DWord × ClockTime × Bool × JKind × Block × Nat :=
       (seq, s.clockTime, !s.sst.clock.valid, .fleetMismatch, .lch, 0)
     let shown (j : JEntry) := (j.seq, j.time, j.clockInvalid, j.kind, j.block, j.cabin)
     (span < 256 → ¬ missed → t.obc.written = s.obc.written + 1 ∧ (t.obc.journal.head?).map shown =
       some (entry s.obc.written) ∧ t.obc.journal.tail = s.obc.journal.take 255) ∧
     (span < 255 → missed → t.obc.written = s.obc.written + 2 ∧ t.obc.missedMask = 0 ∧ t.obc.missedCount = 0 ∧
       (t.obc.journal.head?).map shown = some (entry (s.obc.written + 1)) ∧
       ∃ g, t.obc.journal[1]? = some g ∧ g.kind = .journalGap ∧ g.seq = s.obc.written ∧ g.detail =
         [BitVec.ofNat 8 s.obc.missedMask.toNat, BitVec.ofNat 8 (s.obc.missedMask.toNat / 256),
           BitVec.ofNat 8 (s.obc.missedMask.toNat / 65536), BitVec.ofNat 8 (s.obc.missedMask.toNat / 16777216),
           BitVec.ofNat 8 s.obc.missedCount, BitVec.ofNat 8 (s.obc.missedCount / 256)]) ∧
     (256 ≤ span → t.obc.written = s.obc.written ∧ t.obc.journal = s.obc.journal ∧
       t.obc.missedMask = s.obc.missedMask ||| (1#29 <<< JKind.fleetMismatch.code) ∧
       t.obc.missedCount = min 65535 (s.obc.missedCount + 1)))

/-! ## Section 10: setup tables, stored sets, the clock and resets -/

/-- A 2-byte field of terminal memory, low byte first (R164). -/
def Sys2Proof.Machine.State.word (s : State) (a : Nat) : Nat :=
  (memRead s.mem a).toNat + 256 * (memRead s.mem (a + 1)).toNat

/-- R178, R179, R192: ADOPT of an unlocked table makes its pending copy active, with its revision one higher and given
as result. A ceiling table with a value above 999 is refused with the index of the first, a registry with a repeated
tag with its second cabin; the times of a door plan, a zone plan and a line plan are clamped to their ranges and the
order answered CLAMPED when one was. A table that is not UNLOCKED is refused LOCKED, and one other than the door plan
needs the key. A refused ADOPT leaves every active copy and revision. The model's own choices here: orders as commands
with their slip (log 1); layouts of journal details and result data (log 7); how validation counts and indexes fields
(log 15). -/
def Obligations.AdoptReplacesActiveCopy : Prop :=
  ∀ (s : State) (slip table n : Nat), slip < 32 → Memory.wf s.mem = true → s.sst.revisions.length = 6 →
    s.sst.locks.length = 6 →
    let cap (i : Nat) := s.word (0x4CC0 + 2 * i)
    let row (c : Channel) := 0x4C40 + 8 * channelCode c
    let held (v : Nat) := min 5000 (max 200 v)
    let inRange := [Channel.d0, .d1, .d2, .d3].all fun c =>
      [0, 2, 4].all fun i => decide (200 ≤ s.word (row c + i) ∧ s.word (row c + i) ≤ 5000)
    let revision (w : Word) : List Byte := [BitVec.ofNat 8 w.toNat, BitVec.ofNat 8 (w.toNat / 256)]
    (s.sst.locks[3]? = some .unlocked → s.pins.setupKey = true → s.msv.state = .standby ∨ s.msv.state = .held →
      ((∀ i, i < 4 → cap i ≤ 999) → ∀ w, s.sst.revisions[3]? = some w → ∃ t, exec (.adopt slip 3) s = .next t ∧
        t.sst = { s.sst with
          active := { s.sst.active with ceiling := ⟨cap 0, cap 1, cap 2, cap 3⟩ }
          revisions := s.sst.revisions.set 3 (w + 1) } ∧
        t.msv.opCeiling = s.msv.opCeiling ∧ t.Answered slip ⟨true, .ok, revision (w + 1)⟩ ∧ SlipOnly slip s t ∧
        ChangesOnly s [.sst, .msv, .mem, .news, .journal] t) ∧
      (n < 4 → 999 < cap n → (∀ i, i < n → cap i ≤ 999) → ∃ t, exec (.adopt slip 3) s = .next t ∧
        t.Answered slip ⟨false, .badArg, [BitVec.ofNat 8 n]⟩ ∧ SlipOnly slip s t ∧
        ChangesOnly s [.mem, .news] t)) ∧
    (s.sst.locks[1]? = some .unlocked →
      (∀ c, (memRead s.mem (row c + 6)).toNat ≤ 5 ∧ (memRead s.mem (row c + 7)).toNat ≤ 3) →
      ∀ w, s.sst.revisions[1]? = some w → ∃ t, exec (.adopt slip 1) s = .next t ∧
        (∀ c, t.sst.active.door.channels.get c = ⟨held (s.word (row c)), held (s.word (row c + 2)),
          held (s.word (row c + 4)), (memRead s.mem (row c + 6)).toNat, (memRead s.mem (row c + 7)).toNat⟩) ∧
        t.sst.active = { s.sst.active with door := t.sst.active.door } ∧
        t.sst.revisions = s.sst.revisions.set 1 (w + 1) ∧ t.ddu = s.ddu ∧
        t.Answered slip ⟨true, if inRange then .ok else .clamped, revision (w + 1)⟩ ∧
        ChangesOnly s [.sst, .mem, .news, .journal] t) ∧
    (table ≤ 5 → s.sst.locks[table]? ≠ some .unlocked → ∃ t, exec (.adopt slip table) s = .next t ∧
      t.Answered slip (refusal .locked) ∧ SlipOnly slip s t ∧ ChangesOnly s [.mem, .news] t) ∧
    (table ≤ 5 → table ≠ 1 → s.sst.locks[table]? = some .unlocked → s.pins.setupKey = false →
      ∃ t, exec (.adopt slip table) s = .next t ∧ t.Answered slip (refusal .keyRequired) ∧ SlipOnly slip s t ∧
      ChangesOnly s [.mem, .news] t) ∧
    (5 < table → ∃ t, exec (.adopt slip table) s = .next t ∧ t.Answered slip (refusal .badArg) ∧
      ChangesOnly s [.mem, .news] t) ∧
    (s.pins.setupKey = true → s.msv.state = .standby ∨ s.msv.state = .held →
      let at16 (i : Nat) := s.word (0x4C00 + i)
      let at8 (i : Nat) := (memRead s.mem (0x4C00 + i)).toNat
      let within (lo hi v : Nat) : Prop := lo ≤ v ∧ v ≤ hi
      let adopted (table : Nat) (code : ResultCode) (tables : Tables) (t : State) : Prop :=
        t.sst = { s.sst with active := tables, revisions := t.sst.revisions } ∧
        ∀ w, s.sst.revisions[table]? = some w → t.sst.revisions = s.sst.revisions.set table (w + 1) ∧
          t.Answered slip ⟨true, code, revision (w + 1)⟩
      (s.sst.locks[0]? = some .unlocked →
        (∀ i, i < 6 → i ≠ 3 → within 50 5000 (at16 (4 * i)) ∧ within 1 1000 (at16 (4 * i + 2))) →
        within 500 50000 (at16 24) → within 500 50000 (at16 26) → within 50 100 (at8 28) → within 1 6 (at8 29) →
        within 20 200 (at16 30) → within 50 95 (at8 32) →
        ∃ t, exec (.adopt slip 0) s = .next t ∧ SlipOnly slip s t ∧ ChangesOnly s [.sst, .mem, .news, .journal] t ∧
          adopted 0 (if 1000 ≤ at16 33 ∧ at16 33 ≤ 20000 then .ok else .clamped) { s.sst.active with
            zone := ⟨[at16 0, at16 4, at16 8, at16 12, at16 16, at16 20],
              [at16 2, at16 6, at16 10, at16 14, at16 18, at16 22], at16 24, at16 26, at8 28, at8 29, at16 30, at8 32,
              min 20000 (max 1000 (at16 33))⟩ } t) ∧
      (s.sst.locks[2]? = some .unlocked →
        within 100 20000 (at16 0x80) → within 100 20000 (at16 0x82) → within 1 25 (at8 0x84) →
        within 100 800 (at16 0x85) → within 10 200 (at16 0x87) → within 20 400 (at16 0x89) → within 5 100 (at8 0x8B) →
        within 100 20000 (at16 0x8C) → at16 0x8E < at16 0x90 → at16 0x90 < at16 0x92 → at16 0x92 < at16 0x94 →
        at16 0x94 ≤ at16 0x8C → 20 ≤ at16 0x96 → at16 0x96 < at16 0x98 → at16 0x98 ≤ at16 0x9A → at16 0x9A ≤ 1023 →
        ∃ t, exec (.adopt slip 2) s = .next t ∧ SlipOnly slip s t ∧
          ChangesOnly s [.sst, .msv, .mem, .news, .journal] t ∧
          adopted 2 .ok { s.sst.active with
            rope := ⟨at16 0x80, at16 0x82, at8 0x84, at16 0x85, at16 0x87, at16 0x89, at8 0x8B, at16 0x8C, at16 0x8E,
              at16 0x90, at16 0x92, at16 0x94, at16 0x96, at16 0x98, at16 0x9A⟩ } t) ∧
      (s.sst.locks[4]? = some .unlocked →
        let row (i : Nat) := 0x109 + 5 * i
        let period := min 2000 (max 200 (at16 0x102))
        let silence (i : Nat) := max (min 12000 (max 400 (at16 (row i + 3)))) (3 * period)
        within 0 2 (at8 0x100) → within 0 7 (at8 0x101) → at8 0x108 ≤ 13 →
        (∀ i, i < at8 0x108 → within 1 13 (at8 (row i)) ∧ at8 (row i + 1) ≤ 1 ∧ at8 (row i + 2) ≤ 4 ∧
          ∀ j, j < i → at8 (row j) ≠ at8 (row i)) →
        ∃ t, exec (.adopt slip 4) s = .next t ∧ ChangesOnly s (.sst :: .stn :: Part.ofCause) t ∧
          adopted 4 (if at16 0x102 = period ∧ 10 ≤ at8 0x104 ∧ at8 0x104 ≤ 60 ∧ 30 ≤ at16 0x105 ∧ at16 0x105 ≤ 300 ∧
              (List.range (at8 0x108)).all (fun i => decide (at16 (row i + 3) = silence i)) then .ok else .clamped)
            { s.sst.active with
              line := ⟨at8 0x100, at8 0x101, period, min 60 (max 10 (at8 0x104)), min 300 (max 30 (at16 0x105)),
                decide (at8 0x107 % 2 = 1), at8 0x108,
                (List.range (at8 0x108)).map fun i => ⟨at8 (row i), at8 (row i + 1), at8 (row i + 2), silence i⟩⟩ } t) ∧
      (s.sst.locks[5]? = some .unlocked →
        let named (i : Nat) : Bool := decide (at8 (0x200 + 3 * i) % 2 = 1)
        let repeats (j : Nat) : Prop :=
          named j = true ∧ ∃ i, i < j ∧ named i = true ∧ at16 (0x201 + 3 * i) = at16 (0x201 + 3 * j)
        ((∀ j, j < 96 → ¬ repeats j) → ∃ t, exec (.adopt slip 5) s = .next t ∧ SlipOnly slip s t ∧
          ChangesOnly s [.sst, .mem, .news, .journal] t ∧
          adopted 5 .ok { s.sst.active with
            registry := (List.range 96).map fun i => ⟨named i, BitVec.ofNat 16 (at16 (0x201 + 3 * i))⟩ } t) ∧
        ∀ j, j < 96 → repeats j → (∀ i, i < j → ¬ repeats i) → ∃ t, exec (.adopt slip 5) s = .next t ∧
          t.Answered slip ⟨false, .duplicateTag, [BitVec.ofNat 8 (j + 1)]⟩ ∧ SlipOnly slip s t ∧
          ChangesOnly s [.mem, .news] t))

/-- R180 to R183, R185, R186: UNLOCK needs the key; with it a TIGHT table is refused LOCKED and stays as it is, and so
is its LOCK to LOCKED; LOCK closes a table; with ALL each does so for every table. Turning the key off locks every
UNLOCKED table. SAVE_SET of a user set copies the active tables, and its end stores them with a passing CRC under the
start-set number; set 0 is read-only. LOAD_SET in STANDBY makes a good set active and advances every revision.
SET_CLOCK sets the seconds and VALID, and each second the clock advances. The model's own choices here: orders as
commands with their slip (log 1); times in the model's ms (log 2); how the up-time is read (log 21). -/
def Obligations.SetupStoreLocksSavesAndCounts : Prop :=
  ∀ (s : State) (slip table n k : Nat) (level : Lock) (seconds : DWord), slip < 32 → Memory.wf s.mem = true →
    table ≤ 5 → s.sst.locks.length = 6 →
    let number := if level = .tight then 2 else 1
    let put (x : Sst) (set : UserSet) : Sst := if n = 1 then { x with set1 := set } else { x with set2 := set }
    let stored := if n = 1 then s.sst.set1 else s.sst.set2
    let refused (i : Instr) (code : ResultCode) : Prop := ∃ t, exec i s = .next t ∧
      t.Answered slip (refusal code) ∧ SlipOnly slip s t ∧ ChangesOnly s [.mem, .news] t
    (s.pins.setupKey = true → s.sst.locks[table]? ≠ some .tight → ∃ t, exec (.unlock slip table) s = .next t ∧
      t.sst = { s.sst with locks := s.sst.locks.set table .unlocked } ∧ t.Answered slip resultOk ∧ SlipOnly slip s t ∧
      ChangesOnly s [.sst, .mem, .news] t) ∧
    (s.pins.setupKey = true → s.sst.locks[table]? = some .tight → refused (.unlock slip table) .locked) ∧
    (s.pins.setupKey = false → refused (.unlock slip table) .keyRequired ∧ refused (.unlock slip 255) .keyRequired) ∧
    (s.pins.setupKey = true → ∃ t, exec (.unlock slip 255) s = .next t ∧
      t.sst = { s.sst with locks := s.sst.locks.map fun l => if l = .tight then .tight else .unlocked } ∧
      t.Answered slip (if .tight ∈ s.sst.locks then refusal .locked else resultOk) ∧ SlipOnly slip s t ∧
      ChangesOnly s [.sst, .mem, .news] t) ∧
    (level ≠ .unlocked →
      (s.sst.locks[table]? ≠ some .tight ∨ level = .tight → ∃ t, exec (.lock slip table number) s = .next t ∧
        t.sst = { s.sst with locks := s.sst.locks.set table level } ∧ t.Answered slip resultOk ∧ SlipOnly slip s t ∧
        ChangesOnly s [.sst, .mem, .news] t) ∧
      (∃ t, exec (.lock slip 255 number) s = .next t ∧
        t.sst = { s.sst with locks := s.sst.locks.map fun l => if l = .tight then .tight else level } ∧
        t.Answered slip (if level = .locked ∧ .tight ∈ s.sst.locks then refusal .locked else resultOk) ∧
        SlipOnly slip s t ∧ ChangesOnly s [.sst, .mem, .news] t)) ∧
    (s.sst.locks[table]? = some .tight → refused (.lock slip table 1) .locked) ∧
    (∃ t, exec (.setupKeyChange false) s = .next t ∧ t.pins = { s.pins with setupKey := false } ∧
      t.sst = { s.sst with locks := s.sst.locks.map fun l => if l = .unlocked then .locked else l } ∧
      ChangesOnly s [.pins, .sst] t) ∧
    (∃ t, exec (.setupKeyChange true) s = .next t ∧ t.pins = { s.pins with setupKey := true } ∧
      ChangesOnly s [.pins] t) ∧
    (s.freeContext? = some k → refused (.saveSet slip 0) .readOnly ∧ (2 < n → refused (.saveSet slip n) .badArg)) ∧
    (n = 1 ∨ n = 2 → s.freeContext? = some k →
      (s.pins.setupKey = true → s.msv.state = .standby ∨ s.msv.state = .held → s.sst.saving = none →
        ∃ t, exec (.saveSet slip n) s = .next t ∧ t.slipState slip = 2 ∧
        t.context k = some ⟨s.slipTicket slip, slip, .saveSet n, s.clockTime⟩ ∧
        t.sst = put { s.sst with saving := some ⟨n, s.sst.active, s.sst.revisions, k⟩ } { stored with crcOk := false } ∧
        SlipOnly slip s t ∧ ChangesOnly s [.sst, .contexts, .mem] t)) ∧
    (∀ v, s.sst.saving = some v → v.set = n → n = 1 ∨ n = 2 → ∃ t, exec .saveSetDone s = .next t ∧
      t.sst = put { s.sst with saving := none, startSet := n } ⟨v.copy, true⟩ ∧
      (∀ x, s.context v.context = some x → x.slip < 32 → s.slipState x.slip = 2 → s.slipTicket x.slip = x.ticket →
        t.Answered x.slip resultOk ∧ SlipOnly x.slip s t) ∧
      ChangesOnly s [.sst, .mem, .news, .journal, .contexts] t) ∧
    (s.sst.saving = none → ∃ t, exec .saveSetDone s = .next t ∧ ChangesOnly s [] t) ∧
    (s.msv.state = .standby → s.pins.setupKey = true → .tight ∉ s.sst.locks → s.sst.saving = none →
      (n ≤ 2 → n = 0 ∨ stored.crcOk = true → ∃ t, exec (.loadSet slip n) s = .next t ∧ t.Answered slip resultOk ∧
        ChangesOnly s (.sst :: .stn :: Part.ofCause) t ∧
        t.sst = { s.sst with active := if n = 0 then {} else stored.tables
                             revisions := s.sst.revisions.map (· + 1), startSet := n }) ∧
      (n = 1 ∨ n = 2 → stored.crcOk = false → refused (.loadSet slip n) .setupInvalid) ∧
      (2 < n → refused (.loadSet slip n) .badArg)) ∧
    (∃ t, exec (.setClock slip seconds) s = .next t ∧ t.clockTime = ⟨seconds, 0⟩ ∧ t.sst.clock.valid = true ∧
      t.sst = { s.sst with clock := t.sst.clock } ∧ t.Answered slip resultOk ∧ SlipOnly slip s t ∧
      ChangesOnly s [.sst, .mem, .news, .journal] t) ∧
    (∃ t, exec .clockSecond s = .next t ∧ t.clockTime = ⟨s.sst.clock.seconds + 1, 0⟩ ∧
      t.sst = { s.sst with clock := t.sst.clock } ∧ t.upTime = s.upTime ∧
      t.sst.clock.valid = s.sst.clock.valid ∧ ChangesOnly s [.sst] t)

/-- R8, R27, R50, R61, R89, R124, R141, R163, R176, R181, R184 to R186: every reset leaves the supervisor in STANDBY
with the chain open and ceiling 0, TRACK_LOST alone raised but for DRIVE_OFF, the track LOST and empty, the gate
EMPTY, the contexts free, the next ticket 0, the locks closed and no call. A pin reset, and 0xA5 in an armed sequence,
count up the resets, keep the active tables, the clock, BARRED and the grip histories, and free every slip. A power-up
empties terminal memory and loads the start set, a number outside 0 to 2 taken as 0, or set 0 when its CRC fails. The
reset record shows the start set of the moment. The model's own choices here: times in the model's ms (log 2); reset
values the spec does not give (log 5); the order of effects inside one event (log 8); the power-up's operands (log
19). -/
def Obligations.ResetsStartThePart : Prop :=
  ∀ (s : State) (held : Bool) (seconds : DWord) (ms : Nat),
    let started (t : State) : Prop :=
      t.msv.state = .standby ∧ t.msv.chainOut = false ∧ t.msv.ceiling = 0 ∧ t.msv.speedRef = 0 ∧
      t.msv.limits = [] ∧ t.msv.watch = none ∧ t.msv.aggregate = none ∧
      (∀ x ∈ t.msv.causes, x.code = .trackLost ∨ x.code = .driveOff) ∧ t.Lists .trackLost 0 .activeUnacked ∧
      t.trk.state = .lost ∧ t.trk.entries = [] ∧ t.lch.gate = .empty ∧ t.lch.dL = 0 ∧ t.rpm.dist = 0 ∧
      t.rpm.standstill = false ∧ t.cal.table = [] ∧ t.lnc.state = .gap ∧ t.obc.contexts = List.replicate 8 none ∧
      t.obc.nextTicket = 0 ∧ t.obc.enable = 0x40 ∧ t.obc.armed = false ∧ 0x40#7 &&& t.obc.news = 0x40 ∧
      t.sst.locks = List.replicate 6 .locked ∧ t.sst.saving = none ∧ t.upTime = 0 ∧ t.pins = s.pins ∧
      t.pending = s.pending
    let kept (t : State) : Prop :=
      t.sst.resetCount = min 65535 (s.sst.resetCount + 1) ∧ t.sst.recordSet = s.sst.startSet ∧
      t.sst.startSet = s.sst.startSet ∧ t.sst.wasRunning = decide (s.msv.state ≠ .standby ∧ s.msv.state ≠ .held) ∧
      t.sst.active = s.sst.active ∧ t.sst.revisions = s.sst.revisions ∧ t.sst.clock = s.sst.clock ∧
      t.fleet.map (fun r => (r.barred, r.history, r.garagePending, r.state)) =
        s.fleet.map (fun r => (r.barred, r.history, false, .unplaced)) ∧
      (Memory.wf s.mem = true → (∀ k, k < 32 → t.slipState k = 0) ∧
        ∀ a, (∀ k, k < 32 → a ≠ slipBase k + 2) → memRead t.mem a = memRead s.mem a)
    (∃ t, exec .pinReset s = .next t ∧ started t ∧ kept t ∧ t.sst.resetKind = .pin) ∧
    (s.obc.armed = true → ∃ t, exec .controlReset s = .next t ∧ started t ∧ kept t ∧ t.sst.resetKind = .control) ∧
    ∃ t, exec (.powerUp held seconds ms) s = .next t ∧ started t ∧ t.sst.resetKind = .power ∧ t.sst.resetCount = 0 ∧
      t.mem = [] ∧ t.fleet = List.replicate 96 {} ∧ t.sst.revisions = List.replicate 6 1 ∧ t.obc.counters = {} ∧
      t.sst.startSet = (if s.sst.startSet ≤ 2 then s.sst.startSet else 0) ∧ t.sst.recordSet = t.sst.startSet ∧
      t.sst.set1 = s.sst.set1 ∧ t.sst.set2 = s.sst.set2 ∧
      (let set := if s.sst.startSet = 1 then s.sst.set1 else if s.sst.startSet = 2 then s.sst.set2 else ⟨{}, true⟩
       t.sst.fallback = !set.crcOk ∧ t.sst.active = if set.crcOk then set.tables else {}) ∧
      t.sst.clock.valid = (held && s.sst.clock.valid) ∧ t.sst.clock.seconds = (if held then seconds else 0)

/-! ## The whole part -/

/-- A step takes the command at the front of the queue and runs it on the part with the queue's rest; on an empty
queue 1 ms passes, and nothing else changes but the up-time and the update counter that brackets it. The model's own
choices here: orders as commands with their slip (log 1); times in the model's ms (log 2); update counters outside the
frame (log 3); how the up-time is read (log 21). -/
def Obligations.StepRunsFrontCommand : Prop :=
  (∀ (c : Instr) (rest : List Instr) (s : State),
    step { s with pending := c :: rest } = exec c { s with pending := rest }) ∧
    ∀ s : State, s.pending = [] → ∃ t, step s = .next t ∧
      t = { s with now := s.now + 1, obc := { s.obc with counters := t.obc.counters } }

/-- The part right after a power-up reset: its memory is in canonical form, its outputs obey its cause list, and its
tables keep their sizes. The supervisor is in STANDBY with TRACK_LOST raised, the track is LOST, and a STATUS and a
TIME are queued. The model's own choices here: reset values the spec does not give (log 5). -/
def Obligations.ResetIsInOrder : Prop :=
  Memory.wf State.reset.mem = true ∧ State.reset.Obeys ∧ State.reset.CausesOk ∧ State.reset.Sized ∧ State.reset.Named ∧
    State.reset.Consistent ∧
    State.reset.msv.state = .standby ∧ State.reset.msv.chainOut = false ∧
    State.reset.Lists .trackLost 0 .activeUnacked ∧
    State.reset.trk.state = .lost ∧ State.reset.lnc.queue.map (·.kind) = [.status, .time] ∧
    State.reset.sst.active = {} ∧ State.reset.obc.enable = 0x40 ∧ State.reset.pending = []

/-- R142, R148, R149, R154, R156 to R158: every step keeps the supervisor in order: CHAIN_OUT is closed exactly in RUN
and STOPPING_SERVICE, and then no FAST entry is listed; no latched entry is listed in RUN; the ceiling target is that
of the rules, the ceiling in force does not exceed it, and SPEED_REF follows; no two entries have one identity. -/
def Obligations.StepsKeepChainAndCeiling : Prop :=
  ∀ s t : State, s.Obeys → s.CausesOk → step s = .next t → t.Obeys ∧ t.CausesOk

/-- The commands that write terminal memory elsewhere than in the results of slips: a power-up and host writes. -/
def Sys2Proof.Instr.writesAnywhere : Instr → Bool
  | .powerUp _ _ _ | .hostReadCountWrite _ | .hostMemoryWrite _ _ => true
  | _ => false

/-- R2, R23, R100, R109, R126, R142, R164, R172, R174, R177: every step keeps the sizes of the part's tables and the
canonical form of terminal memory; every step but one that runs a power-up or a host write to memory leaves every byte
of terminal memory outside the states and results of the slips as it is. The model's own choices here: terminal memory
as host-written cells (log 4). -/
def Obligations.StepsKeepTablesAndMemory : Prop :=
  ∀ s t : State, step s = .next t →
    (s.Sized → t.Sized) ∧ (Memory.wf s.mem = true → Memory.wf t.mem = true) ∧
    (s.pending.head?.any (·.writesAnywhere) = false → BoardOnly s t)

/-- R78, R104, R116, R126, R147, R160 and log 16: every step keeps the part's names and counts in order: the entries
of the track have distinct names, older than the next one; the Z3 count is that of the track; the calls have distinct
ids, none of them the next id, and behind the first only waiting ones; a speed cause that is active has its condition
marked. Every step keeps each REMOTE_TRIP entry in the category of its index, the LIMIT register to LIMIT codes, and
every TRIP that waits to be sent addressed to all. The model's own choices here: the model's names of entries, frames
and calls (log 16). -/
def Obligations.StepsKeepNamesInOrder : Prop :=
  ∀ s t : State, step s = .next t →
    (s.Sized → s.CausesOk → s.Named → t.Named) ∧ (s.Consistent → t.Consistent)

/-- R92 to R94, R97: a receiver reads every frame a station can send, with its fields in range, from the stuffed bits
its sender drives: destuffing gives back the region, and its checks find the frame valid and unchanged. The model's
own choices here: line bits taken as events (log 12). -/
def Obligations.FramesRoundTrip : Prop :=
  ∀ f : LineFrame, f.priority < 16 → 1 ≤ f.sender → f.sender ≤ 13 → f.dest < 16 → f.dest ≠ 14 → f.kind < 16 →
    f.payload.length ≤ 16 →
    unstuff (stuff f.region) = some f.region ∧ checkRegion f.region = .valid f ∧
      f.bits = stuff f.region ++ [true, true, true, true, true]
end

