-- ==== Sys2Proof/Laws/State.lean ====
section
/-! SUPPORT. One lemma for each field and each update of State, true by `rfl`, so that no proof unfolds a record
update. -/

namespace Sys2Proof.Machine

-- One lemma at a time: three hundred proofs begun at once would each ask for a thread of its own.
set_option Elab.async false

open Sys2Proof

section
variable (s : State) (f : Pins → Pins)
@[simp] theorem State.updPins_now : (s.updPins f).now = s.now := rfl
@[simp] theorem State.updPins_resetAt : (s.updPins f).resetAt = s.resetAt := rfl
@[simp] theorem State.updPins_pins : (s.updPins f).pins = f s.pins := rfl
@[simp] theorem State.updPins_mem : (s.updPins f).mem = s.mem := rfl
@[simp] theorem State.updPins_trk : (s.updPins f).trk = s.trk := rfl
@[simp] theorem State.updPins_fleet : (s.updPins f).fleet = s.fleet := rfl
@[simp] theorem State.updPins_ddu : (s.updPins f).ddu = s.ddu := rfl
@[simp] theorem State.updPins_rpm : (s.updPins f).rpm = s.rpm := rfl
@[simp] theorem State.updPins_lch : (s.updPins f).lch = s.lch := rfl
@[simp] theorem State.updPins_lnc : (s.updPins f).lnc = s.lnc := rfl
@[simp] theorem State.updPins_stn : (s.updPins f).stn = s.stn := rfl
@[simp] theorem State.updPins_cal : (s.updPins f).cal = s.cal := rfl
@[simp] theorem State.updPins_msv : (s.updPins f).msv = s.msv := rfl
@[simp] theorem State.updPins_obc : (s.updPins f).obc = s.obc := rfl
@[simp] theorem State.updPins_sst : (s.updPins f).sst = s.sst := rfl
@[simp] theorem State.updPins_held : (s.updPins f).held = s.held := rfl
@[simp] theorem State.updPins_pending : (s.updPins f).pending = s.pending := rfl
end

section
variable (s : State) (f : List Host.Cell → List Host.Cell)
@[simp] theorem State.updMem_now : (s.updMem f).now = s.now := rfl
@[simp] theorem State.updMem_resetAt : (s.updMem f).resetAt = s.resetAt := rfl
@[simp] theorem State.updMem_pins : (s.updMem f).pins = s.pins := rfl
@[simp] theorem State.updMem_mem : (s.updMem f).mem = f s.mem := rfl
@[simp] theorem State.updMem_trk : (s.updMem f).trk = s.trk := rfl
@[simp] theorem State.updMem_fleet : (s.updMem f).fleet = s.fleet := rfl
@[simp] theorem State.updMem_ddu : (s.updMem f).ddu = s.ddu := rfl
@[simp] theorem State.updMem_rpm : (s.updMem f).rpm = s.rpm := rfl
@[simp] theorem State.updMem_lch : (s.updMem f).lch = s.lch := rfl
@[simp] theorem State.updMem_lnc : (s.updMem f).lnc = s.lnc := rfl
@[simp] theorem State.updMem_stn : (s.updMem f).stn = s.stn := rfl
@[simp] theorem State.updMem_cal : (s.updMem f).cal = s.cal := rfl
@[simp] theorem State.updMem_msv : (s.updMem f).msv = s.msv := rfl
@[simp] theorem State.updMem_obc : (s.updMem f).obc = s.obc := rfl
@[simp] theorem State.updMem_sst : (s.updMem f).sst = s.sst := rfl
@[simp] theorem State.updMem_held : (s.updMem f).held = s.held := rfl
@[simp] theorem State.updMem_pending : (s.updMem f).pending = s.pending := rfl
end

section
variable (s : State) (f : Trk → Trk)
@[simp] theorem State.updTrk_now : (s.updTrk f).now = s.now := rfl
@[simp] theorem State.updTrk_resetAt : (s.updTrk f).resetAt = s.resetAt := rfl
@[simp] theorem State.updTrk_pins : (s.updTrk f).pins = s.pins := rfl
@[simp] theorem State.updTrk_mem : (s.updTrk f).mem = s.mem := rfl
@[simp] theorem State.updTrk_trk : (s.updTrk f).trk = f s.trk := rfl
@[simp] theorem State.updTrk_fleet : (s.updTrk f).fleet = s.fleet := rfl
@[simp] theorem State.updTrk_ddu : (s.updTrk f).ddu = s.ddu := rfl
@[simp] theorem State.updTrk_rpm : (s.updTrk f).rpm = s.rpm := rfl
@[simp] theorem State.updTrk_lch : (s.updTrk f).lch = s.lch := rfl
@[simp] theorem State.updTrk_lnc : (s.updTrk f).lnc = s.lnc := rfl
@[simp] theorem State.updTrk_stn : (s.updTrk f).stn = s.stn := rfl
@[simp] theorem State.updTrk_cal : (s.updTrk f).cal = s.cal := rfl
@[simp] theorem State.updTrk_msv : (s.updTrk f).msv = s.msv := rfl
@[simp] theorem State.updTrk_obc : (s.updTrk f).obc = s.obc := rfl
@[simp] theorem State.updTrk_sst : (s.updTrk f).sst = s.sst := rfl
@[simp] theorem State.updTrk_held : (s.updTrk f).held = s.held := rfl
@[simp] theorem State.updTrk_pending : (s.updTrk f).pending = s.pending := rfl
end

section
variable (s : State) (f : List FleetRec → List FleetRec)
@[simp] theorem State.updFleet_now : (s.updFleet f).now = s.now := rfl
@[simp] theorem State.updFleet_resetAt : (s.updFleet f).resetAt = s.resetAt := rfl
@[simp] theorem State.updFleet_pins : (s.updFleet f).pins = s.pins := rfl
@[simp] theorem State.updFleet_mem : (s.updFleet f).mem = s.mem := rfl
@[simp] theorem State.updFleet_trk : (s.updFleet f).trk = s.trk := rfl
@[simp] theorem State.updFleet_fleet : (s.updFleet f).fleet = f s.fleet := rfl
@[simp] theorem State.updFleet_ddu : (s.updFleet f).ddu = s.ddu := rfl
@[simp] theorem State.updFleet_rpm : (s.updFleet f).rpm = s.rpm := rfl
@[simp] theorem State.updFleet_lch : (s.updFleet f).lch = s.lch := rfl
@[simp] theorem State.updFleet_lnc : (s.updFleet f).lnc = s.lnc := rfl
@[simp] theorem State.updFleet_stn : (s.updFleet f).stn = s.stn := rfl
@[simp] theorem State.updFleet_cal : (s.updFleet f).cal = s.cal := rfl
@[simp] theorem State.updFleet_msv : (s.updFleet f).msv = s.msv := rfl
@[simp] theorem State.updFleet_obc : (s.updFleet f).obc = s.obc := rfl
@[simp] theorem State.updFleet_sst : (s.updFleet f).sst = s.sst := rfl
@[simp] theorem State.updFleet_held : (s.updFleet f).held = s.held := rfl
@[simp] theorem State.updFleet_pending : (s.updFleet f).pending = s.pending := rfl
end

section
variable (s : State) (f : PerChannel Chan → PerChannel Chan)
@[simp] theorem State.updDdu_now : (s.updDdu f).now = s.now := rfl
@[simp] theorem State.updDdu_resetAt : (s.updDdu f).resetAt = s.resetAt := rfl
@[simp] theorem State.updDdu_pins : (s.updDdu f).pins = s.pins := rfl
@[simp] theorem State.updDdu_mem : (s.updDdu f).mem = s.mem := rfl
@[simp] theorem State.updDdu_trk : (s.updDdu f).trk = s.trk := rfl
@[simp] theorem State.updDdu_fleet : (s.updDdu f).fleet = s.fleet := rfl
@[simp] theorem State.updDdu_ddu : (s.updDdu f).ddu = f s.ddu := rfl
@[simp] theorem State.updDdu_rpm : (s.updDdu f).rpm = s.rpm := rfl
@[simp] theorem State.updDdu_lch : (s.updDdu f).lch = s.lch := rfl
@[simp] theorem State.updDdu_lnc : (s.updDdu f).lnc = s.lnc := rfl
@[simp] theorem State.updDdu_stn : (s.updDdu f).stn = s.stn := rfl
@[simp] theorem State.updDdu_cal : (s.updDdu f).cal = s.cal := rfl
@[simp] theorem State.updDdu_msv : (s.updDdu f).msv = s.msv := rfl
@[simp] theorem State.updDdu_obc : (s.updDdu f).obc = s.obc := rfl
@[simp] theorem State.updDdu_sst : (s.updDdu f).sst = s.sst := rfl
@[simp] theorem State.updDdu_held : (s.updDdu f).held = s.held := rfl
@[simp] theorem State.updDdu_pending : (s.updDdu f).pending = s.pending := rfl
end

section
variable (s : State) (f : Rpm → Rpm)
@[simp] theorem State.updRpm_now : (s.updRpm f).now = s.now := rfl
@[simp] theorem State.updRpm_resetAt : (s.updRpm f).resetAt = s.resetAt := rfl
@[simp] theorem State.updRpm_pins : (s.updRpm f).pins = s.pins := rfl
@[simp] theorem State.updRpm_mem : (s.updRpm f).mem = s.mem := rfl
@[simp] theorem State.updRpm_trk : (s.updRpm f).trk = s.trk := rfl
@[simp] theorem State.updRpm_fleet : (s.updRpm f).fleet = s.fleet := rfl
@[simp] theorem State.updRpm_ddu : (s.updRpm f).ddu = s.ddu := rfl
@[simp] theorem State.updRpm_rpm : (s.updRpm f).rpm = f s.rpm := rfl
@[simp] theorem State.updRpm_lch : (s.updRpm f).lch = s.lch := rfl
@[simp] theorem State.updRpm_lnc : (s.updRpm f).lnc = s.lnc := rfl
@[simp] theorem State.updRpm_stn : (s.updRpm f).stn = s.stn := rfl
@[simp] theorem State.updRpm_cal : (s.updRpm f).cal = s.cal := rfl
@[simp] theorem State.updRpm_msv : (s.updRpm f).msv = s.msv := rfl
@[simp] theorem State.updRpm_obc : (s.updRpm f).obc = s.obc := rfl
@[simp] theorem State.updRpm_sst : (s.updRpm f).sst = s.sst := rfl
@[simp] theorem State.updRpm_held : (s.updRpm f).held = s.held := rfl
@[simp] theorem State.updRpm_pending : (s.updRpm f).pending = s.pending := rfl
end

section
variable (s : State) (f : Lch → Lch)
@[simp] theorem State.updLch_now : (s.updLch f).now = s.now := rfl
@[simp] theorem State.updLch_resetAt : (s.updLch f).resetAt = s.resetAt := rfl
@[simp] theorem State.updLch_pins : (s.updLch f).pins = s.pins := rfl
@[simp] theorem State.updLch_mem : (s.updLch f).mem = s.mem := rfl
@[simp] theorem State.updLch_trk : (s.updLch f).trk = s.trk := rfl
@[simp] theorem State.updLch_fleet : (s.updLch f).fleet = s.fleet := rfl
@[simp] theorem State.updLch_ddu : (s.updLch f).ddu = s.ddu := rfl
@[simp] theorem State.updLch_rpm : (s.updLch f).rpm = s.rpm := rfl
@[simp] theorem State.updLch_lch : (s.updLch f).lch = f s.lch := rfl
@[simp] theorem State.updLch_lnc : (s.updLch f).lnc = s.lnc := rfl
@[simp] theorem State.updLch_stn : (s.updLch f).stn = s.stn := rfl
@[simp] theorem State.updLch_cal : (s.updLch f).cal = s.cal := rfl
@[simp] theorem State.updLch_msv : (s.updLch f).msv = s.msv := rfl
@[simp] theorem State.updLch_obc : (s.updLch f).obc = s.obc := rfl
@[simp] theorem State.updLch_sst : (s.updLch f).sst = s.sst := rfl
@[simp] theorem State.updLch_held : (s.updLch f).held = s.held := rfl
@[simp] theorem State.updLch_pending : (s.updLch f).pending = s.pending := rfl
end

section
variable (s : State) (f : Lnc → Lnc)
@[simp] theorem State.updLnc_now : (s.updLnc f).now = s.now := rfl
@[simp] theorem State.updLnc_resetAt : (s.updLnc f).resetAt = s.resetAt := rfl
@[simp] theorem State.updLnc_pins : (s.updLnc f).pins = s.pins := rfl
@[simp] theorem State.updLnc_mem : (s.updLnc f).mem = s.mem := rfl
@[simp] theorem State.updLnc_trk : (s.updLnc f).trk = s.trk := rfl
@[simp] theorem State.updLnc_fleet : (s.updLnc f).fleet = s.fleet := rfl
@[simp] theorem State.updLnc_ddu : (s.updLnc f).ddu = s.ddu := rfl
@[simp] theorem State.updLnc_rpm : (s.updLnc f).rpm = s.rpm := rfl
@[simp] theorem State.updLnc_lch : (s.updLnc f).lch = s.lch := rfl
@[simp] theorem State.updLnc_lnc : (s.updLnc f).lnc = f s.lnc := rfl
@[simp] theorem State.updLnc_stn : (s.updLnc f).stn = s.stn := rfl
@[simp] theorem State.updLnc_cal : (s.updLnc f).cal = s.cal := rfl
@[simp] theorem State.updLnc_msv : (s.updLnc f).msv = s.msv := rfl
@[simp] theorem State.updLnc_obc : (s.updLnc f).obc = s.obc := rfl
@[simp] theorem State.updLnc_sst : (s.updLnc f).sst = s.sst := rfl
@[simp] theorem State.updLnc_held : (s.updLnc f).held = s.held := rfl
@[simp] theorem State.updLnc_pending : (s.updLnc f).pending = s.pending := rfl
end

section
variable (s : State) (f : Stn → Stn)
@[simp] theorem State.updStn_now : (s.updStn f).now = s.now := rfl
@[simp] theorem State.updStn_resetAt : (s.updStn f).resetAt = s.resetAt := rfl
@[simp] theorem State.updStn_pins : (s.updStn f).pins = s.pins := rfl
@[simp] theorem State.updStn_mem : (s.updStn f).mem = s.mem := rfl
@[simp] theorem State.updStn_trk : (s.updStn f).trk = s.trk := rfl
@[simp] theorem State.updStn_fleet : (s.updStn f).fleet = s.fleet := rfl
@[simp] theorem State.updStn_ddu : (s.updStn f).ddu = s.ddu := rfl
@[simp] theorem State.updStn_rpm : (s.updStn f).rpm = s.rpm := rfl
@[simp] theorem State.updStn_lch : (s.updStn f).lch = s.lch := rfl
@[simp] theorem State.updStn_lnc : (s.updStn f).lnc = s.lnc := rfl
@[simp] theorem State.updStn_stn : (s.updStn f).stn = f s.stn := rfl
@[simp] theorem State.updStn_cal : (s.updStn f).cal = s.cal := rfl
@[simp] theorem State.updStn_msv : (s.updStn f).msv = s.msv := rfl
@[simp] theorem State.updStn_obc : (s.updStn f).obc = s.obc := rfl
@[simp] theorem State.updStn_sst : (s.updStn f).sst = s.sst := rfl
@[simp] theorem State.updStn_held : (s.updStn f).held = s.held := rfl
@[simp] theorem State.updStn_pending : (s.updStn f).pending = s.pending := rfl
end

section
variable (s : State) (f : Cal → Cal)
@[simp] theorem State.updCal_now : (s.updCal f).now = s.now := rfl
@[simp] theorem State.updCal_resetAt : (s.updCal f).resetAt = s.resetAt := rfl
@[simp] theorem State.updCal_pins : (s.updCal f).pins = s.pins := rfl
@[simp] theorem State.updCal_mem : (s.updCal f).mem = s.mem := rfl
@[simp] theorem State.updCal_trk : (s.updCal f).trk = s.trk := rfl
@[simp] theorem State.updCal_fleet : (s.updCal f).fleet = s.fleet := rfl
@[simp] theorem State.updCal_ddu : (s.updCal f).ddu = s.ddu := rfl
@[simp] theorem State.updCal_rpm : (s.updCal f).rpm = s.rpm := rfl
@[simp] theorem State.updCal_lch : (s.updCal f).lch = s.lch := rfl
@[simp] theorem State.updCal_lnc : (s.updCal f).lnc = s.lnc := rfl
@[simp] theorem State.updCal_stn : (s.updCal f).stn = s.stn := rfl
@[simp] theorem State.updCal_cal : (s.updCal f).cal = f s.cal := rfl
@[simp] theorem State.updCal_msv : (s.updCal f).msv = s.msv := rfl
@[simp] theorem State.updCal_obc : (s.updCal f).obc = s.obc := rfl
@[simp] theorem State.updCal_sst : (s.updCal f).sst = s.sst := rfl
@[simp] theorem State.updCal_held : (s.updCal f).held = s.held := rfl
@[simp] theorem State.updCal_pending : (s.updCal f).pending = s.pending := rfl
end

section
variable (s : State) (f : Msv → Msv)
@[simp] theorem State.updMsv_now : (s.updMsv f).now = s.now := rfl
@[simp] theorem State.updMsv_resetAt : (s.updMsv f).resetAt = s.resetAt := rfl
@[simp] theorem State.updMsv_pins : (s.updMsv f).pins = s.pins := rfl
@[simp] theorem State.updMsv_mem : (s.updMsv f).mem = s.mem := rfl
@[simp] theorem State.updMsv_trk : (s.updMsv f).trk = s.trk := rfl
@[simp] theorem State.updMsv_fleet : (s.updMsv f).fleet = s.fleet := rfl
@[simp] theorem State.updMsv_ddu : (s.updMsv f).ddu = s.ddu := rfl
@[simp] theorem State.updMsv_rpm : (s.updMsv f).rpm = s.rpm := rfl
@[simp] theorem State.updMsv_lch : (s.updMsv f).lch = s.lch := rfl
@[simp] theorem State.updMsv_lnc : (s.updMsv f).lnc = s.lnc := rfl
@[simp] theorem State.updMsv_stn : (s.updMsv f).stn = s.stn := rfl
@[simp] theorem State.updMsv_cal : (s.updMsv f).cal = s.cal := rfl
@[simp] theorem State.updMsv_msv : (s.updMsv f).msv = f s.msv := rfl
@[simp] theorem State.updMsv_obc : (s.updMsv f).obc = s.obc := rfl
@[simp] theorem State.updMsv_sst : (s.updMsv f).sst = s.sst := rfl
@[simp] theorem State.updMsv_held : (s.updMsv f).held = s.held := rfl
@[simp] theorem State.updMsv_pending : (s.updMsv f).pending = s.pending := rfl
end

section
variable (s : State) (f : Obc → Obc)
@[simp] theorem State.updObc_now : (s.updObc f).now = s.now := rfl
@[simp] theorem State.updObc_resetAt : (s.updObc f).resetAt = s.resetAt := rfl
@[simp] theorem State.updObc_pins : (s.updObc f).pins = s.pins := rfl
@[simp] theorem State.updObc_mem : (s.updObc f).mem = s.mem := rfl
@[simp] theorem State.updObc_trk : (s.updObc f).trk = s.trk := rfl
@[simp] theorem State.updObc_fleet : (s.updObc f).fleet = s.fleet := rfl
@[simp] theorem State.updObc_ddu : (s.updObc f).ddu = s.ddu := rfl
@[simp] theorem State.updObc_rpm : (s.updObc f).rpm = s.rpm := rfl
@[simp] theorem State.updObc_lch : (s.updObc f).lch = s.lch := rfl
@[simp] theorem State.updObc_lnc : (s.updObc f).lnc = s.lnc := rfl
@[simp] theorem State.updObc_stn : (s.updObc f).stn = s.stn := rfl
@[simp] theorem State.updObc_cal : (s.updObc f).cal = s.cal := rfl
@[simp] theorem State.updObc_msv : (s.updObc f).msv = s.msv := rfl
@[simp] theorem State.updObc_obc : (s.updObc f).obc = f s.obc := rfl
@[simp] theorem State.updObc_sst : (s.updObc f).sst = s.sst := rfl
@[simp] theorem State.updObc_held : (s.updObc f).held = s.held := rfl
@[simp] theorem State.updObc_pending : (s.updObc f).pending = s.pending := rfl
end

section
variable (s : State) (f : Sst → Sst)
@[simp] theorem State.updSst_now : (s.updSst f).now = s.now := rfl
@[simp] theorem State.updSst_resetAt : (s.updSst f).resetAt = s.resetAt := rfl
@[simp] theorem State.updSst_pins : (s.updSst f).pins = s.pins := rfl
@[simp] theorem State.updSst_mem : (s.updSst f).mem = s.mem := rfl
@[simp] theorem State.updSst_trk : (s.updSst f).trk = s.trk := rfl
@[simp] theorem State.updSst_fleet : (s.updSst f).fleet = s.fleet := rfl
@[simp] theorem State.updSst_ddu : (s.updSst f).ddu = s.ddu := rfl
@[simp] theorem State.updSst_rpm : (s.updSst f).rpm = s.rpm := rfl
@[simp] theorem State.updSst_lch : (s.updSst f).lch = s.lch := rfl
@[simp] theorem State.updSst_lnc : (s.updSst f).lnc = s.lnc := rfl
@[simp] theorem State.updSst_stn : (s.updSst f).stn = s.stn := rfl
@[simp] theorem State.updSst_cal : (s.updSst f).cal = s.cal := rfl
@[simp] theorem State.updSst_msv : (s.updSst f).msv = s.msv := rfl
@[simp] theorem State.updSst_obc : (s.updSst f).obc = s.obc := rfl
@[simp] theorem State.updSst_sst : (s.updSst f).sst = f s.sst := rfl
@[simp] theorem State.updSst_held : (s.updSst f).held = s.held := rfl
@[simp] theorem State.updSst_pending : (s.updSst f).pending = s.pending := rfl
end

section
variable (s : State) (f : Held → Held)
@[simp] theorem State.updHeld_now : (s.updHeld f).now = s.now := rfl
@[simp] theorem State.updHeld_resetAt : (s.updHeld f).resetAt = s.resetAt := rfl
@[simp] theorem State.updHeld_pins : (s.updHeld f).pins = s.pins := rfl
@[simp] theorem State.updHeld_mem : (s.updHeld f).mem = s.mem := rfl
@[simp] theorem State.updHeld_trk : (s.updHeld f).trk = s.trk := rfl
@[simp] theorem State.updHeld_fleet : (s.updHeld f).fleet = s.fleet := rfl
@[simp] theorem State.updHeld_ddu : (s.updHeld f).ddu = s.ddu := rfl
@[simp] theorem State.updHeld_rpm : (s.updHeld f).rpm = s.rpm := rfl
@[simp] theorem State.updHeld_lch : (s.updHeld f).lch = s.lch := rfl
@[simp] theorem State.updHeld_lnc : (s.updHeld f).lnc = s.lnc := rfl
@[simp] theorem State.updHeld_stn : (s.updHeld f).stn = s.stn := rfl
@[simp] theorem State.updHeld_cal : (s.updHeld f).cal = s.cal := rfl
@[simp] theorem State.updHeld_msv : (s.updHeld f).msv = s.msv := rfl
@[simp] theorem State.updHeld_obc : (s.updHeld f).obc = s.obc := rfl
@[simp] theorem State.updHeld_sst : (s.updHeld f).sst = s.sst := rfl
@[simp] theorem State.updHeld_held : (s.updHeld f).held = f s.held := rfl
@[simp] theorem State.updHeld_pending : (s.updHeld f).pending = s.pending := rfl
end

section
variable (s : State) (n : News)
@[simp] theorem State.setNews_now : (s.setNews n).now = s.now := rfl
@[simp] theorem State.setNews_resetAt : (s.setNews n).resetAt = s.resetAt := rfl
@[simp] theorem State.setNews_pins : (s.setNews n).pins = s.pins := rfl
@[simp] theorem State.setNews_mem : (s.setNews n).mem = s.mem := rfl
@[simp] theorem State.setNews_trk : (s.setNews n).trk = s.trk := rfl
@[simp] theorem State.setNews_fleet : (s.setNews n).fleet = s.fleet := rfl
@[simp] theorem State.setNews_ddu : (s.setNews n).ddu = s.ddu := rfl
@[simp] theorem State.setNews_rpm : (s.setNews n).rpm = s.rpm := rfl
@[simp] theorem State.setNews_lch : (s.setNews n).lch = s.lch := rfl
@[simp] theorem State.setNews_lnc : (s.setNews n).lnc = s.lnc := rfl
@[simp] theorem State.setNews_stn : (s.setNews n).stn = s.stn := rfl
@[simp] theorem State.setNews_cal : (s.setNews n).cal = s.cal := rfl
@[simp] theorem State.setNews_msv : (s.setNews n).msv = s.msv := rfl
@[simp] theorem State.setNews_obc_enable : (s.setNews n).obc.enable = s.obc.enable := rfl
@[simp] theorem State.setNews_obc_armed : (s.setNews n).obc.armed = s.obc.armed := rfl
@[simp] theorem State.setNews_obc_nextTicket : (s.setNews n).obc.nextTicket = s.obc.nextTicket := rfl
@[simp] theorem State.setNews_obc_written : (s.setNews n).obc.written = s.obc.written := rfl
@[simp] theorem State.setNews_obc_taken : (s.setNews n).obc.taken = s.obc.taken := rfl
@[simp] theorem State.setNews_obc_missedMask : (s.setNews n).obc.missedMask = s.obc.missedMask := rfl
@[simp] theorem State.setNews_obc_missedCount : (s.setNews n).obc.missedCount = s.obc.missedCount := rfl
@[simp] theorem State.setNews_obc_journal : (s.setNews n).obc.journal = s.obc.journal := rfl
@[simp] theorem State.setNews_obc_contexts : (s.setNews n).obc.contexts = s.obc.contexts := rfl
@[simp] theorem State.setNews_obc_counters : (s.setNews n).obc.counters = s.obc.counters := rfl
@[simp] theorem State.setNews_obc_news : (s.setNews n).obc.news = s.obc.news ||| n.mask := rfl
@[simp] theorem State.setNews_sst : (s.setNews n).sst = s.sst := rfl
@[simp] theorem State.setNews_held : (s.setNews n).held = s.held := rfl
@[simp] theorem State.setNews_pending : (s.setNews n).pending = s.pending := rfl
end

section
variable (s t : State)
@[simp] theorem finish_now : (finish s t).now = t.now := rfl
@[simp] theorem finish_resetAt : (finish s t).resetAt = t.resetAt := rfl
@[simp] theorem finish_pins : (finish s t).pins = t.pins := rfl
@[simp] theorem finish_mem : (finish s t).mem = t.mem := rfl
@[simp] theorem finish_trk : (finish s t).trk = t.trk := rfl
@[simp] theorem finish_fleet : (finish s t).fleet = t.fleet := rfl
@[simp] theorem finish_ddu : (finish s t).ddu = t.ddu := rfl
@[simp] theorem finish_rpm : (finish s t).rpm = t.rpm := rfl
@[simp] theorem finish_lch : (finish s t).lch = t.lch := rfl
@[simp] theorem finish_lnc : (finish s t).lnc = t.lnc := rfl
@[simp] theorem finish_stn : (finish s t).stn = t.stn := rfl
@[simp] theorem finish_cal : (finish s t).cal = t.cal := rfl
@[simp] theorem finish_msv : (finish s t).msv = t.msv := rfl
@[simp] theorem finish_obc_news : (finish s t).obc.news = t.obc.news := rfl
@[simp] theorem finish_obc_enable : (finish s t).obc.enable = t.obc.enable := rfl
@[simp] theorem finish_obc_armed : (finish s t).obc.armed = t.obc.armed := rfl
@[simp] theorem finish_obc_nextTicket : (finish s t).obc.nextTicket = t.obc.nextTicket := rfl
@[simp] theorem finish_obc_written : (finish s t).obc.written = t.obc.written := rfl
@[simp] theorem finish_obc_taken : (finish s t).obc.taken = t.obc.taken := rfl
@[simp] theorem finish_obc_missedMask : (finish s t).obc.missedMask = t.obc.missedMask := rfl
@[simp] theorem finish_obc_missedCount : (finish s t).obc.missedCount = t.obc.missedCount := rfl
@[simp] theorem finish_obc_journal : (finish s t).obc.journal = t.obc.journal := rfl
@[simp] theorem finish_obc_contexts : (finish s t).obc.contexts = t.obc.contexts := rfl
@[simp] theorem finish_obc_counters : (finish s t).obc.counters = bracketAll s t s.obc.counters := rfl
@[simp] theorem finish_sst : (finish s t).sst = t.sst := rfl
@[simp] theorem finish_held : (finish s t).held = t.held := rfl
@[simp] theorem finish_pending : (finish s t).pending = t.pending := rfl
end

end Sys2Proof.Machine
end

