-- ==== Sys2Proof/Laws/Memory.lean ====
section
/-! SUPPORT. The laws of terminal memory: a byte reads as it was last written, a write leaves every other byte alone,
and every memory operation keeps the canonical form. -/

namespace Sys2Proof.Machine

-- One lemma at a time, as in Laws/State.lean.
set_option Elab.async false

open Sys2Proof

/-! ## Other bytes -/

theorem memRead_memWrite_ne {m : List Host.Cell} {a b : Nat} {v : Byte} (h : b ≠ a) :
    memRead (memWrite m a v) b = memRead m b := by
  induction m with
  | nil => unfold memWrite; split <;> simp [memRead, Ne.symm h]
  | cons c rest ih =>
    obtain ⟨k, w⟩ := c
    unfold memWrite
    split
    · split <;> simp [memRead, Ne.symm h]
    · split
      · next hk => subst hk; split <;> simp [memRead, Ne.symm h]
      · simp only [memRead, ih]

theorem memRead_memWriteList_outside {bs : List Byte} {m : List Host.Cell} {a b : Nat}
    (h : b < a ∨ a + bs.length ≤ b) : memRead (memWriteList m a bs) b = memRead m b := by
  induction bs generalizing m a with
  | nil => rfl
  | cons x xs ih =>
    simp only [memWriteList, List.length_cons] at h ⊢
    rw [ih (by omega), memRead_memWrite_ne (by omega)]

/-! ## The canonical form -/

theorem memWfFrom_weaken {m : List Host.Cell} {lo lo' : Nat} (h : memWfFrom lo m = true) (hl : lo' ≤ lo) :
    memWfFrom lo' m = true := by
  cases m with
  | nil => rfl
  | cons c rest =>
    obtain ⟨k, w⟩ := c
    simp only [memWfFrom, Bool.and_eq_true, decide_eq_true_eq] at h ⊢; exact ⟨⟨by omega, h.1.2⟩, h.2⟩

theorem memWfFrom_memWrite {m : List Host.Cell} {lo a : Nat} {v : Byte} (h : memWfFrom lo m = true) (ha : lo ≤ a) :
    memWfFrom lo (memWrite m a v) = true := by
  induction m generalizing lo with
  | nil => unfold memWrite; split <;> simp_all [memWfFrom]
  | cons c rest ih =>
    obtain ⟨k, w⟩ := c
    have hk := h
    simp only [memWfFrom, Bool.and_eq_true, decide_eq_true_eq] at hk
    unfold memWrite
    split
    · split
      · exact h
      · simp_all [memWfFrom]
    · split
      · split
        · exact memWfFrom_weaken hk.2 (by omega)
        · next h1 h2 h3 => subst h2; simpa [memWfFrom, hk.2, ha] using h3
      · simp only [memWfFrom, Bool.and_eq_true, decide_eq_true_eq]
        exact ⟨hk.1, ih hk.2 (by omega)⟩

/-- A write keeps the canonical form. -/
theorem wf_memWrite {m : List Host.Cell} {a : Nat} {v : Byte} (h : Memory.wf m = true) :
    Memory.wf (memWrite m a v) = true := memWfFrom_memWrite h (Nat.zero_le a)

theorem wf_memWriteList {bs : List Byte} {m : List Host.Cell} {a : Nat} (h : Memory.wf m = true) :
    Memory.wf (memWriteList m a bs) = true := by
  induction bs generalizing m a with
  | nil => exact h
  | cons b bs ih => exact ih (wf_memWrite h)

theorem reset_mem_wf : Memory.wf State.reset.mem = true := rfl

/-! ## The byte written -/

theorem memRead_below {m : List Host.Cell} {lo a : Nat} (h : memWfFrom lo m = true) (ha : a < lo) : memRead m a = 0 := by
  induction m generalizing lo with
  | nil => rfl
  | cons c rest ih =>
    obtain ⟨k, w⟩ := c
    simp only [memWfFrom, Bool.and_eq_true, decide_eq_true_eq] at h
    have : k ≠ a := by omega
    simp only [memRead, if_neg this]
    exact ih h.2 (by omega)

theorem memRead_memWrite_from {m : List Host.Cell} {lo a : Nat} {v : Byte} (h : memWfFrom lo m = true) :
    memRead (memWrite m a v) a = v := by
  induction m generalizing lo with
  | nil => unfold memWrite; split <;> simp_all [memRead]
  | cons c rest ih =>
    obtain ⟨k, w⟩ := c
    simp only [memWfFrom, Bool.and_eq_true, decide_eq_true_eq] at h
    unfold memWrite
    split
    · split
      · next h1 h2 =>
        have : k ≠ a := by omega
        simp only [memRead, if_neg this, h2]
        exact memRead_below h.2 (by omega)
      · simp [memRead]
    · split
      · split
        · next h1 h2 h3 => subst h2; rw [h3]; exact memRead_below h.2 (by omega)
        · simp [memRead]
      · next h1 h2 =>
        simp only [memRead, if_neg (Ne.symm h2)]
        exact ih h.2

/-- A byte reads as it was written. -/
theorem memRead_memWrite_same {m : List Host.Cell} {a : Nat} {v : Byte} (h : Memory.wf m = true) :
    memRead (memWrite m a v) a = v := memRead_memWrite_from h

theorem memRead_memWriteList {bs : List Byte} {m : List Host.Cell} {a i : Nat} (h : Memory.wf m = true)
    (hi : i < bs.length) : memRead (memWriteList m a bs) (a + i) = bs[i] := by
  induction bs generalizing m a i with
  | nil => simp at hi
  | cons b bs ih =>
    cases i with
    | zero =>
      rw [memWriteList, memRead_memWriteList_outside (by simp), Nat.add_zero, memRead_memWrite_same h]
      rfl
    | succ i =>
      have := ih (m := memWrite m a b) (a := a + 1) (i := i) (wf_memWrite h) (by simpa using hi)
      rw [memWriteList, show a + (i + 1) = a + 1 + i by omega, this]
      rfl

/-! ## Slips -/

theorem setSlipState_boardOnly (s : State) (k n : Nat) : BoardOnly s (s.setSlipState k n) := by
  intro a ha
  unfold State.setSlipState
  split
  · next hk =>
    refine memRead_memWrite_ne fun h => ha k hk (Or.inl ?_)
    exact h
  · rfl

theorem writeResult_slipOnly (s : State) (k : Nat) (r : OrderResult) : SlipOnly k s (s.writeResult k r) := by
  intro a ha
  unfold State.writeResult
  split
  · next hk =>
    have h1 : a ≠ slipBase k + 2 := fun h => ha (Or.inl h)
    have h2 : a < slipBase k + 44 ∨ slipBase k + 64 ≤ a := by
      by_contra h
      exact ha (Or.inr (by omega))
    have h3 := List.length_take_le 16 r.data
    simp only [State.setNews_mem, State.setSlipState, if_pos hk, State.updMem_mem]
    rw [memRead_memWrite_ne h1, memRead_memWriteList_outside (by simp only [List.length_cons, List.length_nil]; omega),
      memRead_memWriteList_outside (by simp only [List.length_cons]; omega)]
  · rfl

theorem SlipOnly.board {s t : State} {k : Nat} (h : SlipOnly k s t) (hk : k < 32) : BoardOnly s t :=
  fun a ha => h a (ha k hk)

theorem writeResult_boardOnly (s : State) (k : Nat) (r : OrderResult) : BoardOnly s (s.writeResult k r) := by
  by_cases hk : k < 32
  · exact (writeResult_slipOnly s k r).board hk
  · intro a _; simp [State.writeResult, hk]

theorem setSlipState_wf (s : State) (k n : Nat) (h : Memory.wf s.mem = true) :
    Memory.wf (s.setSlipState k n).mem = true := by
  unfold State.setSlipState; split
  · exact wf_memWrite h
  · exact h

theorem writeResult_wf (s : State) (k : Nat) (r : OrderResult) (h : Memory.wf s.mem = true) :
    Memory.wf (s.writeResult k r).mem = true := by
  unfold State.writeResult; split
  · exact setSlipState_wf _ _ _ (wf_memWriteList (wf_memWriteList h))
  · exact h

/-- A result written into a slip is the answer the slip holds; its last two bytes, which no table lists, are 0. -/
theorem writeResult_answered (s : State) (k : Nat) (r : OrderResult) (hk : k < 32) (hd : r.data.length ≤ 16)
    (h : Memory.wf s.mem = true) : (s.writeResult k r).Answered k r ∧
      memRead (s.writeResult k r).mem (slipBase k + 62) = 0 ∧ memRead (s.writeResult k r).mem (slipBase k + 63) = 0 := by
  have hw : Memory.wf (memWriteList s.mem (slipBase k + 44)
      (byteOf r.code.code :: byteOf r.data.length :: r.data)) = true := wf_memWriteList h
  have ht : r.data.take 16 = r.data := List.take_of_length_le hd
  have hm : (s.writeResult k r).mem = memWrite (memWriteList (memWriteList s.mem (slipBase k + 44)
      (byteOf r.code.code :: byteOf r.data.length :: r.data)) (slipBase k + 62) [0, 0]) (slipBase k + 2)
      (byteOf (if r.done then 3 else 4)) := by
    simp [State.writeResult, State.setSlipState, hk, ht]
  have htail : ∀ i, i < 2 → memRead (s.writeResult k r).mem (slipBase k + 62 + i) = ([0, 0] : List Byte)[i]?.getD 0 := by
    intro i hi
    rw [hm, memRead_memWrite_ne (by omega), memRead_memWriteList hw (by simpa using hi)]
    simp [hi]
  have hread : ∀ i, i < r.data.length + 2 → memRead (s.writeResult k r).mem (slipBase k + 44 + i) =
      (byteOf r.code.code :: byteOf r.data.length :: r.data)[i]?.getD 0 := by
    intro i hi
    rw [hm, memRead_memWrite_ne (by omega), memRead_memWriteList_outside (by omega),
      memRead_memWriteList h (by simp only [List.length_cons]; omega)]
    simp only [List.length_cons, hi, List.getElem?_eq_getElem, Option.getD_some]
  refine ⟨⟨?_, by simpa using hread 0 (by omega), by simpa using hread 1 (by omega), fun i hi => ?_⟩,
    by simpa using htail 0 (by omega), by simpa using htail 1 (by omega)⟩
  · simp only [State.slipState, hm, memRead_memWrite_same (wf_memWriteList hw)]
    split <;> rfl
  · rw [show slipBase k + 46 + i = slipBase k + 44 + (i + 2) by omega, hread (i + 2) (by omega)]
    simp [hi]

end Sys2Proof.Machine
end

