-- ==== Sys2Proof/Laws/Frame.lean ====
section
/-! SUPPORT. For each shared operation, the parts of the state it can change: the frame every later proof cites in
place of unfolding it. -/

namespace Sys2Proof.Machine

-- One lemma at a time, as in Laws/State.lean.
set_option Elab.async false

open Sys2Proof

/-! ## Composing frames -/

theorem ChangesOnly.refl (s : State) (ps : List Part) : ChangesOnly s ps s := by
  exact ⟨fun p _ => by cases p <;> simp [Part.same, BoardOnly]⟩

theorem Part.same_trans {s t u : State} {p : Part} (h1 : p.same s t) (h2 : p.same t u) : p.same s u := by
  cases p <;> simp_all [Part.same, BoardOnly]

theorem ChangesOnly.weaken {s t : State} {ps qs : List Part} (h : ChangesOnly s qs t) (hq : qs ⊆ ps := by decide) :
    ChangesOnly s ps t := ⟨fun p hp => h.same p fun hp' => hp (hq hp')⟩

theorem ChangesOnly.then {s t u : State} {ps qs : List Part} (h1 : ChangesOnly s ps t) (h2 : ChangesOnly t qs u)
    (hq : qs ⊆ ps := by decide) : ChangesOnly s ps u :=
  ⟨fun p hp => Part.same_trans (h1.same p hp) (h2.same p fun hp' => hp (hq hp'))⟩

theorem ChangesOnly.ite {s t u : State} {ps : List Part} {c : Prop} [Decidable c] (h1 : ChangesOnly s ps t)
    (h2 : ChangesOnly s ps u) : ChangesOnly s ps (if c then t else u) := by
  split <;> assumption

theorem ChangesOnly.when {s : State} {ps : List Part} {c : Bool} {f : State → State} (h : ChangesOnly s ps (f s)) :
    ChangesOnly s ps (s.when c f) := by
  unfold State.when; split
  · exact h
  · exact .refl s ps

theorem ChangesOnly.foldl {α : Type} {ps : List Part} {f : State → α → State}
    (h : ∀ t x, ChangesOnly t ps (f t x)) (xs : List α) : ∀ s, ChangesOnly s ps (xs.foldl f s) := by
  induction xs with
  | nil => exact fun s => .refl s ps
  | cons x xs ih => exact fun s => (h s x).then (ih _) (fun _ hx => hx)

/-! ## Updates -/

section
variable (s : State)

theorem updPins_changes (f : Pins → Pins) : ChangesOnly s [.pins] (s.updPins f) := by
  refine ⟨fun p hp => ?_⟩; cases p <;> simp_all [Part.same, BoardOnly]
theorem updMem_changes (f : List Host.Cell → List Host.Cell) : ChangesOnly s [.mem, .cells] (s.updMem f) := by
  refine ⟨fun p hp => ?_⟩; cases p <;> simp_all [Part.same, BoardOnly]
theorem updTrk_changes (f : Trk → Trk) : ChangesOnly s [.trk] (s.updTrk f) := by
  refine ⟨fun p hp => ?_⟩; cases p <;> simp_all [Part.same, BoardOnly]
theorem updFleet_changes (f : List FleetRec → List FleetRec) : ChangesOnly s [.fleet] (s.updFleet f) := by
  refine ⟨fun p hp => ?_⟩; cases p <;> simp_all [Part.same, BoardOnly]
theorem updDdu_changes (f : PerChannel Chan → PerChannel Chan) : ChangesOnly s [.ddu] (s.updDdu f) := by
  refine ⟨fun p hp => ?_⟩; cases p <;> simp_all [Part.same, BoardOnly]
theorem updRpm_changes (f : Rpm → Rpm) : ChangesOnly s [.rpm] (s.updRpm f) := by
  refine ⟨fun p hp => ?_⟩; cases p <;> simp_all [Part.same, BoardOnly]
theorem updLch_changes (f : Lch → Lch) : ChangesOnly s [.lch] (s.updLch f) := by
  refine ⟨fun p hp => ?_⟩; cases p <;> simp_all [Part.same, BoardOnly]
theorem updLnc_changes (f : Lnc → Lnc) : ChangesOnly s [.lnc] (s.updLnc f) := by
  refine ⟨fun p hp => ?_⟩; cases p <;> simp_all [Part.same, BoardOnly]
theorem updStn_changes (f : Stn → Stn) : ChangesOnly s [.stn] (s.updStn f) := by
  refine ⟨fun p hp => ?_⟩; cases p <;> simp_all [Part.same, BoardOnly]
theorem updCal_changes (f : Cal → Cal) : ChangesOnly s [.cal] (s.updCal f) := by
  refine ⟨fun p hp => ?_⟩; cases p <;> simp_all [Part.same, BoardOnly]
theorem updMsv_changes (f : Msv → Msv) : ChangesOnly s [.msv] (s.updMsv f) := by
  refine ⟨fun p hp => ?_⟩; cases p <;> simp_all [Part.same, BoardOnly]
theorem updHeld_changes (f : Held → Held) : ChangesOnly s [] (s.updHeld f) :=
  ⟨fun p _ => by cases p <;> simp [Part.same, BoardOnly]⟩
theorem updSst_changes (f : Sst → Sst) : ChangesOnly s [.sst] (s.updSst f) := by
  refine ⟨fun p hp => ?_⟩; cases p <;> simp_all [Part.same, BoardOnly]
theorem setNews_changes (n : News) : ChangesOnly s [.news] (s.setNews n) := by
  refine ⟨fun p hp => ?_⟩; cases p <;> simp_all [Part.same, BoardOnly]
theorem setContexts_changes (f : Obc → List (Option OrderCtx)) :
    ChangesOnly s [.contexts] (s.updObc fun o => { o with contexts := f o }) := by
  refine ⟨fun p hp => ?_⟩; cases p <;> simp_all [Part.same, BoardOnly]

/-- The bookkeeping of the update counters changes no part. -/
theorem finish_changes (t : State) : ChangesOnly t [] (finish s t) := by
  exact ⟨fun p _ => by cases p <;> simp [Part.same, BoardOnly]⟩

/-! ## Journal, results, contexts: Ops -/

theorem appendEntry_changes (k : JKind) (b : Block) (i : Byte) (n : Nat) (d : List Byte) :
    ChangesOnly s [.journal, .news] (s.appendEntry k b i n d) := by
  refine ⟨fun p hp => ?_⟩; cases p <;> simp_all [Part.same, BoardOnly, State.appendEntry]
theorem missEntry_changes (k : JKind) : ChangesOnly s [.journal, .news] (s.missEntry k) := by
  refine ⟨fun p hp => ?_⟩; cases p <;> simp_all [Part.same, BoardOnly, State.missEntry]
theorem appendGap_changes : ChangesOnly s [.journal, .news] s.appendGap := by
  refine ⟨fun p hp => ?_⟩; cases p <;> simp_all [Part.same, BoardOnly, State.appendGap, State.appendEntry]
theorem journalAt_changes (k : JKind) (b : Block) (i : Byte) (n : Nat) (d : List Byte) :
    ChangesOnly s [.journal, .news] (s.journalAt k b i n d) := by
  unfold State.journalAt; dsimp only; split
  · have h : ChangesOnly s [.journal, .news]
        (if s.obc.missedMask != 0 || s.obc.missedCount != 0 then s.appendGap else s) :=
      .ite (appendGap_changes s) (.refl _ _)
    exact .ite (h.then (appendEntry_changes _ ..)) (h.then (missEntry_changes _ _))
  · exact missEntry_changes s k
theorem journal_changes (k : JKind) (b : Block) (n : Nat) (d : List Byte) :
    ChangesOnly s [.journal, .news] (s.journal k b n d) := journalAt_changes s ..
theorem setSlipState_changes (k n : Nat) : ChangesOnly s [.mem] (s.setSlipState k n) := by
  have h : ChangesOnly s [.mem, .cells] (s.setSlipState k n) := .ite (updMem_changes s _) (.refl _ _)
  refine ⟨fun p hp => ?_⟩
  by_cases hc : p = .cells
  · subst hc; exact ⟨setSlipState_boardOnly s k n, setSlipState_wf s k n⟩
  · exact h.same p (by simp_all)
theorem writeResult_changes (k : Nat) (r : OrderResult) : ChangesOnly s [.mem, .news] (s.writeResult k r) := by
  have h : ChangesOnly s [.mem, .cells, .news] (s.writeResult k r) := by
    unfold State.writeResult; split
    · exact ((((updMem_changes s _).weaken).then (updMem_changes _ _)).then (setSlipState_changes _ _ _)).then
        (setNews_changes _ _)
    · exact (setNews_changes s _).weaken
  refine ⟨fun p hp => ?_⟩
  by_cases hc : p = .cells
  · subst hc; exact ⟨writeResult_boardOnly s k r, writeResult_wf s k r⟩
  · exact h.same p (by simp_all)
theorem freeContext_changes (k : Nat) : ChangesOnly s [.contexts] (s.freeContext k) := setContexts_changes s _

/-- What completing an order can change. -/
abbrev completionParts : List Part := [.mem, .news, .journal, .contexts]

theorem completeOrder_changes (k : Nat) (r : OrderResult) : ChangesOnly s completionParts (s.completeOrder k r) := by
  unfold State.completeOrder; split
  · exact .refl _ _
  · split
    · exact ((writeResult_changes s ..).weaken).then (freeContext_changes _ _)
    · exact ((journal_changes s ..).weaken).then (freeContext_changes _ _)
theorem updFleetRec_changes (n : Nat) (f : FleetRec → FleetRec) : ChangesOnly s [.fleet] (s.updFleetRec n f) :=
  .ite (.refl _ _) (updFleet_changes s _)
theorem setFleetState_changes (n : Nat) (f : FleetState) : ChangesOnly s [.fleet] (s.setFleetState n f) :=
  updFleetRec_changes s ..
theorem updEntry_changes (u : Nat) (f : TrackEntry → TrackEntry) : ChangesOnly s [.trk] (s.updEntry u f) :=
  updTrk_changes s _
theorem updStation_changes (a : Nat) (f : StationRec → StationRec) : ChangesOnly s [.stn] (s.updStation a f) :=
  updStn_changes s _

/-! ## Transmit queue and calls: Queue, Calls -/

/-- What asking for a frame, and everything the call unit does, can change. -/
abbrev lineParts : List Part := [.lnc, .cal, .mem, .news, .journal, .contexts]

theorem pairUndelivered_changes (k : FrameKind) : ChangesOnly s [.cal] (s.pairUndelivered k) := by
  unfold State.pairUndelivered; split <;> first
    | exact .refl _ _
    | exact .ite (updCal_changes s _) (.refl _ _)
theorem queueFull_changes (k : FrameKind) (d : Nat) (c : Option Nat) : ChangesOnly s lineParts (s.queueFull k d c) := by
  unfold State.queueFull; split
  · split
    · exact .refl _ _
    · exact (completeOrder_changes s ..).weaken
  · exact ((pairUndelivered_changes s _).weaken).then (journal_changes _ ..)
theorem unqueue_changes (n : Nat) : ChangesOnly s [.lnc] (s.unqueue n) := updLnc_changes s _
theorem enqueue_changes (k : FrameKind) (d : Nat) (p : List Byte) (b : Block) (c : Option Nat) :
    ChangesOnly s [.lnc] (s.enqueue k d p b c) := updLnc_changes s _
theorem askFrame_changes (k : FrameKind) (d : Nat) (p : List Byte) (b : Block) (c : Option Nat) :
    ChangesOnly s lineParts (s.askFrame k d p b c) := by
  unfold State.askFrame; split
  · exact (enqueue_changes s ..).weaken
  · split
    · exact (((unqueue_changes s _).weaken).then (queueFull_changes _ ..)).then (enqueue_changes _ ..)
    · exact queueFull_changes s ..
theorem askTrip_changes (r : CauseCode) : ChangesOnly s lineParts (s.askTrip r) := by
  unfold State.askTrip; dsimp only; split
  · exact .refl _ _
  · split
    · exact (enqueue_changes s ..).weaken
    · split
      · exact (((unqueue_changes s _).weaken).then (queueFull_changes _ ..)).then (enqueue_changes _ ..)
      · exact queueFull_changes s ..
theorem askPeriodic_changes (k : FrameKind) : ChangesOnly s lineParts (s.askPeriodic k) :=
  .ite ((updLnc_changes s _).weaken) (askFrame_changes s ..)

theorem markParties_changes : ChangesOnly s [] s.markParties := updHeld_changes s _
theorem updCall_changes (i : Nat) (f : CallRec → CallRec) : ChangesOnly s [.cal] (s.updCall i f) :=
  (updCal_changes s _).then (markParties_changes _)
theorem pairFrame_changes (k : FrameKind) (d : Nat) (p : List Byte) : ChangesOnly s lineParts (s.pairFrame k d p) :=
  .ite (.refl _ _) (askFrame_changes s ..)
theorem announcePair_changes : ChangesOnly s lineParts s.announcePair := by
  unfold State.announcePair; split <;> exact pairFrame_changes s ..
theorem noteRing_changes : ChangesOnly s lineParts s.noteRing := by
  unfold State.noteRing; split
  · exact .refl _ _
  · split
    · exact (((updCall_changes s ..).weaken).then (setNews_changes _ _)).then (journal_changes _ ..)
    · exact .refl _ _
theorem refreshValley_changes : ChangesOnly s lineParts s.refreshValley :=
  ((updCal_changes s _).weaken).then (noteRing_changes _)
theorem grantCall_changes (r : CallRec) : ChangesOnly s lineParts (s.grantCall r) := by
  unfold State.grantCall; dsimp only
  refine ChangesOnly.then ?_ (refreshValley_changes _)
  split
  · exact ((updCal_changes s _).weaken).then (pairFrame_changes _ ..)
  · exact (((updCal_changes s _).weaken).then (pairFrame_changes _ ..)).then (completeOrder_changes _ ..)
theorem grantIfFree_changes : ChangesOnly s lineParts s.grantIfFree := by
  unfold State.grantIfFree; split
  · exact .refl _ _
  · split
    · exact .refl _ _
    · exact grantCall_changes s _
theorem dropCall_changes (r : CallRec) (e : EndReason) (l : Bool) : ChangesOnly s lineParts (s.dropCall r e l) := by
  unfold State.dropCall; dsimp only
  refine ChangesOnly.then ?_ (journal_changes _ ..)
  refine ChangesOnly.then (t := match r.context with
    | none => s.updCal fun c => { c with table := c.table.filter (·.id ≠ r.id) }
    | some k => (s.updCal fun c => { c with table := c.table.filter (·.id ≠ r.id) }).completeOrder k
        ⟨false, e.callResult, [byteOf r.id, byteOf e.code]⟩) (ps := lineParts) (qs := lineParts) ?_ ?_
  · split
    · exact (updCal_changes s _).weaken
    · exact ((updCal_changes s _).weaken).then (completeOrder_changes _ ..)
  · exact .ite (pairFrame_changes _ ..) (.ite (pairFrame_changes _ ..) (.refl _ _))
theorem endCall_changes (i : Nat) (e : EndReason) (l : Bool) : ChangesOnly s lineParts (s.endCall i e l) := by
  unfold State.endCall; split
  · exact .refl _ _
  · rename_i r _
    dsimp only
    refine ChangesOnly.then ?_ (refreshValley_changes _)
    refine (dropCall_changes s r e l).then (qs := lineParts) ?_
    split
    · exact .refl _ _
    · split
      · exact grantCall_changes _ _
      · exact .ite (pairFrame_changes _ ..) (.refl _ _)
theorem createCall_changes (a b : Nat) (u : Bool) (o : CallOrigin) (c : Option Nat) :
    ChangesOnly s lineParts (s.createCall a b u o c) :=
  ((((updCal_changes s _).weaken).then (markParties_changes _)).then (grantIfFree_changes _)).then
    (refreshValley_changes _)
theorem placeCall_changes (a b : Nat) (u : Bool) (o : CallOrigin) (c : Option Nat) :
    ChangesOnly s lineParts (s.placeCall a b u o c) := by
  unfold State.placeCall; split
  · exact ((dropCall_changes s ..).then (refreshValley_changes _)).then (createCall_changes _ ..)
  · exact createCall_changes s ..
  · exact (endCall_changes s ..).then (createCall_changes _ ..)
  · exact .refl _ _
theorem denyRequest_changes (a b : Nat) (u : Bool) (e : EndReason) :
    ChangesOnly s lineParts (s.denyRequest a b u e) := (pairFrame_changes s ..).then (journal_changes _ ..)
theorem pairRequest_changes (a b : Nat) (u : Bool) : ChangesOnly s lineParts (s.pairRequest a b u) := by
  unfold State.pairRequest; split <;> first
    | exact .refl _ _
    | exact denyRequest_changes s ..
    | (split <;> first
        | exact denyRequest_changes s ..
        | exact placeCall_changes s ..)
theorem tripCall_changes (c : CauseCode) (i : Nat) : ChangesOnly s lineParts (s.tripCall c i) := by
  unfold State.tripCall; split
  · exact .refl _ _
  · exact .ite (placeCall_changes s ..) (.refl _ _)
theorem linkLostOne_changes (a i : Nat) : ChangesOnly s lineParts (s.linkLostOne a i) := by
  unfold State.linkLostOne; split
  · exact .refl _ _
  · exact .ite (endCall_changes s ..) (.ite (endCall_changes s ..)
      (.ite (((updCall_changes s ..).weaken).then (refreshValley_changes _)) (.refl _ _)))
theorem stationUnavailable_changes (a : Nat) : ChangesOnly s lineParts (s.stationUnavailable a) :=
  .foldl (fun t i => linkLostOne_changes t a i) _ s
theorem hookFrame_changes (a i : Nat) (o : Bool) : ChangesOnly s lineParts (s.hookFrame a i o) := by
  have h : ∀ f, ChangesOnly s lineParts (s.updCall i f).refreshValley :=
    fun f => ((updCall_changes s i f).weaken).then (refreshValley_changes _)
  unfold State.hookFrame; split
  · exact .refl _ _
  · split
    · exact .ite (endCall_changes s ..) (.refl _ _)
    · exact .refl _ _
    · exact .ite (h _) (.refl _ _)
    · exact .ite (endCall_changes s ..) (.refl _ _)
    · exact .ite (h _) (.refl _ _)
    · exact .ite (.ite (endCall_changes s ..) (.refl _ _))
        (.ite (endCall_changes s ..) (.ite (h _) (.refl _ _)))
theorem answerCall_changes (i : Nat) : ChangesOnly s lineParts (s.answerCall i).1 := by
  unfold State.answerCall; repeat' split
  all_goals first
    | exact .refl _ _
    | exact (((updCall_changes s ..).weaken).then (refreshValley_changes _)).then (pairFrame_changes _ ..)
theorem hangUpCall_changes (i : Nat) : ChangesOnly s lineParts (s.hangUpCall i).1 := by
  unfold State.hangUpCall; repeat' split
  all_goals first
    | exact .refl _ _
    | exact endCall_changes s ..
    | exact (((updCall_changes s ..).weaken).then (refreshValley_changes _)).then (pairFrame_changes _ ..)

/-! ## Gate decision and causes: Gate, Causes -/

/-- What a decision at the gate can change. -/
abbrev gateParts : List Part := [.lch, .journal, .news]

theorem launch_changes (n : Nat) : ChangesOnly s gateParts (s.launch n) :=
  ((updLch_changes s _).weaken).then (journal_changes _ ..)
theorem noteBarred_changes (n : Nat) : ChangesOnly s gateParts (s.noteBarred n) :=
  .ite (.refl _ _) (((journal_changes s ..).weaken).then (updLch_changes _ _))
theorem gateDecide_changes : ChangesOnly s gateParts s.gateDecide := by
  unfold State.gateDecide; split
  · split
    · exact .refl _ _
    · exact .ite (.ite ((updLch_changes s _).weaken) (.refl _ _))
        (.ite (noteBarred_changes s _) (.ite (launch_changes s _) (.refl _ _)))
  · exact .refl _ _
theorem proofTimerFollow_changes : ChangesOnly s [.lch] s.proofTimerFollow := updLch_changes s _
theorem gateEvent_changes : ChangesOnly s gateParts s.gateEvent :=
  (gateDecide_changes s).then (proofTimerFollow_changes _)

/-- What a change of the cause list can change: the list, and by it the supervisor, the gate, the line and the calls. -/
abbrev causeParts : List Part := [.msv, .lch, .lnc, .cal, .mem, .news, .journal, .contexts]

/-- What a change of the supervisor state can change. -/
abbrev supervisorParts : List Part := [.msv, .lch, .journal, .news]

theorem recomputeCeiling_changes : ChangesOnly s [.msv] s.recomputeCeiling := by
  unfold State.recomputeCeiling; dsimp only
  exact ChangesOnly.then (.ite ((updMsv_changes s _).then (updHeld_changes _ _)) (updMsv_changes s _))
    (updMsv_changes _ _)
theorem setChain_changes (b : Bool) : ChangesOnly s [.msv, .news] (s.setChain b) :=
  .ite (.refl _ _) (((updMsv_changes s _).weaken).then (setNews_changes _ _))
theorem changeState_changes (n : SupState) (d : List Byte) :
    ChangesOnly s supervisorParts (s.changeState n d) :=
  (((((updMsv_changes s _).weaken).then (journal_changes _ ..)).then (setChain_changes _ _)).then
    (recomputeCeiling_changes _)).then (gateEvent_changes _)
theorem afterListChange_changes (c : CauseCode) (i : Nat) : ChangesOnly s supervisorParts (s.afterListChange c i) :=
  .ite (changeState_changes s ..) (.ite (changeState_changes s ..) ((recomputeCeiling_changes s).weaken))
theorem publishCause_changes (k : JKind) (c : Cause) (n : Nat) :
    ChangesOnly s [.journal, .news] (s.publishCause k c n) :=
  ((setNews_changes s _).weaken).then (journalAt_changes _ ..)
theorem tellFast_changes (c : CauseCode) (i : Nat) : ChangesOnly s lineParts (s.tellFast c i) :=
  (askTrip_changes s _).then (tripCall_changes _ ..)
theorem raiseOverflow_changes (c : CauseCode) (k : Category) (i : Nat) :
    ChangesOnly s causeParts (s.raiseOverflow c k i) := by
  unfold State.raiseOverflow; dsimp only
  have h1 := fun (f : Msv → Msv) => ((updMsv_changes s f).weaken (ps := causeParts))
  have h2 := fun (f : Msv → Msv) (a : Aggregate) (n : Nat) =>
    ((h1 f).then (publishCause_changes _ .causeRaised ⟨.causeOverflow, .fast, 0, a.raised, a.repeats,
      .clearedUnacked⟩ n)).then (afterListChange_changes _ .causeOverflow 0)
  exact ((h2 _ _ _).then (.when (tellFast_changes _ ..))).then (.when (tellFast_changes _ ..))
theorem listRaise_changes (c : CauseCode) (k : Category) (i : Nat) (b : SubState) :
    ChangesOnly s causeParts (s.listRaise c k i b) := by
  unfold State.listRaise; split
  · exact ((((updMsv_changes s _).weaken).then (publishCause_changes _ ..)).then
      (afterListChange_changes _ ..)).then (.when (tellFast_changes _ ..))
  · split
    · exact ((((updMsv_changes s _).weaken).then (publishCause_changes _ ..)).then
        (afterListChange_changes _ ..)).then (.when (tellFast_changes _ ..))
    · exact raiseOverflow_changes s ..
theorem raiseCause_changes (c : CauseCode) (k : Category) (i : Nat) :
    ChangesOnly s causeParts (s.raiseCause c k i) :=
  ChangesOnly.then (.ite ((updMsv_changes s _).weaken) (.refl _ _)) (listRaise_changes _ ..)
theorem removeCause_changes (c : Cause) : ChangesOnly s supervisorParts (s.removeCause c) :=
  (((updMsv_changes s _).weaken).then (publishCause_changes _ ..)).then (afterListChange_changes _ ..)
theorem listEnd_changes (c : CauseCode) (i : Nat) : ChangesOnly s supervisorParts (s.listEnd c i) := by
  unfold State.listEnd; split
  · exact .refl _ _
  · exact .ite (removeCause_changes s _) (.ite ((((updMsv_changes s _).weaken).then (publishCause_changes _ ..)).then
      (afterListChange_changes _ ..)) (.refl _ _))
theorem endCause_changes (c : CauseCode) (i : Nat) : ChangesOnly s supervisorParts (s.endCause c i) :=
  ChangesOnly.then (.ite (((updMsv_changes s _).weaken).then (recomputeCeiling_changes _)) (.refl _ _))
    (listEnd_changes _ ..)
theorem raiseOnce_changes (c : CauseCode) (k : Category) (i : Nat) : ChangesOnly s causeParts (s.raiseOnce c k i) :=
  (raiseCause_changes s ..).then (endCause_changes _ ..)
theorem operatorCause_changes (c : CauseCode) (k : Category) : ChangesOnly s causeParts (s.operatorCause c k) :=
  listRaise_changes s ..
theorem ackCauseEntry_changes (c : Cause) : ChangesOnly s supervisorParts (s.ackCauseEntry c) := by
  unfold State.ackCauseEntry; split
  · exact (((updMsv_changes s _).weaken).then (setNews_changes _ _)).then (recomputeCeiling_changes _)
  · exact removeCause_changes s c
  · exact .refl _ _
theorem ackAggregate_changes : ChangesOnly s supervisorParts s.ackAggregate := by
  unfold State.ackAggregate; split
  · exact .refl _ _
  · exact (((updMsv_changes s _).weaken).then (publishCause_changes _ ..)).then (afterListChange_changes _ ..)
theorem ackAll_changes : ChangesOnly s supervisorParts s.ackAll :=
  (ChangesOnly.foldl (fun t c => ackCauseEntry_changes t c) _ s).then (ackAggregate_changes _)
theorem ackSlot_changes (n c : Nat) : ChangesOnly s supervisorParts (s.ackSlot n c).1 := by
  unfold State.ackSlot; repeat' split
  all_goals first
    | exact .refl _ _
    | exact ackAggregate_changes s
    | exact ackCauseEntry_changes s _

end

end Sys2Proof.Machine
end

