-- ==== Sys2Proof/Laws/BlockFrame.lean ====
section
/-! SUPPORT. The parts of the state that the operations of the door drives, the track, the launch unit and the rope
monitor can change. -/

namespace Sys2Proof.Machine

-- One lemma at a time, as in Laws/State.lean.
set_option Elab.async false

open Sys2Proof

section
variable (s : State)

/-! ## Doors -/

/-- What the door drives, the track and the launch unit can change: the track, the fleet, the channels, and whatever
a cause changes. -/
abbrev trackParts : List Part := [.trk, .fleet, .ddu, .msv, .lch, .lnc, .cal, .mem, .news, .journal, .contexts]

theorem endNotProven_changes : ChangesOnly s supervisorParts s.endNotProven := by
  unfold State.endNotProven; split
  · exact .refl _ _
  · exact .ite (endCause_changes s ..) (.refl _ _)
theorem writeDoor_changes (u : Nat) (d : DoorState) :
    ChangesOnly s [.trk, .msv, .lch, .journal, .news] (s.writeDoor u d) := by
  unfold State.writeDoor; dsimp only
  exact .ite (((((updEntry_changes s ..).weaken).then (.when (updEntry_changes _ ..))).then
    (endNotProven_changes _)).then (gateEvent_changes _)) ((updEntry_changes s ..).weaken)
theorem writeDoorOf_changes (u : Option Nat) (d : DoorState) :
    ChangesOnly s [.trk, .msv, .lch, .journal, .news] (s.writeDoorOf u d) := by
  unfold State.writeDoorOf; split
  · exact .refl _ _
  · exact writeDoor_changes s ..
theorem updFleetOf_changes (u : Option Nat) (f : FleetRec → FleetRec) : ChangesOnly s [.fleet] (s.updFleetOf u f) := by
  unfold State.updFleetOf; split
  · exact .refl _ _
  · exact updFleetRec_changes s ..
theorem updChan_changes (c : Channel) (f : Chan → Chan) : ChangesOnly s [.ddu] (s.updChan c f) := updDdu_changes s _
theorem offReleases_changes (c : Channel) (m : DriveMode) : ChangesOnly s [.ddu] (s.offReleases c m) :=
  .ite (updChan_changes s ..) (.refl _ _)
theorem driveOffFollow_changes (c : Channel) (a b : DriveMode) :
    ChangesOnly s causeParts (s.driveOffFollow c a b) :=
  .ite (.ite (raiseCause_changes s ..) (.ite ((endCause_changes s ..).weaken) (.refl _ _))) (.refl _ _)

/-- What the modes of the channels can change. -/
abbrev modeParts : List Part := [.ddu, .msv, .lch, .lnc, .cal, .mem, .news, .journal, .contexts]

theorem setMode_changes (c : Channel) (m : DriveMode) (r : ChangeReason) :
    ChangesOnly s modeParts (s.setMode c m r) := by
  unfold State.setMode; dsimp only
  exact .ite (.refl _ _) (((((updChan_changes s ..).weaken).then (offReleases_changes _ ..)).then
    (journal_changes _ ..)).then (driveOffFollow_changes _ ..))
theorem applyPending_changes (c : Channel) : ChangesOnly s modeParts (s.applyPending c) := by
  unfold State.applyPending; split
  · exact .refl _ _
  · exact ((updChan_changes s ..).weaken).then (setMode_changes _ ..)
theorem completeStroke_changes (c : Channel) (x : Chan) (r : ResultCode) :
    ChangesOnly s [.ddu, .mem, .news, .journal, .contexts] (s.completeStroke c x r) := by
  unfold State.completeStroke; split
  · exact .refl _ _
  · exact ((completeOrder_changes s ..).weaken).then (updChan_changes _ ..)
theorem provenWrites_changes (c : Channel) (x : Chan) :
    ChangesOnly s [.trk, .fleet, .msv, .lch, .journal, .news] (s.provenWrites c x) := by
  unfold State.provenWrites; split
  · exact (writeDoorOf_changes s ..).weaken
  · dsimp only
    split
    · exact (((updFleetOf_changes s ..).weaken).then (updEntry_changes _ ..)).then (writeDoorOf_changes _ ..)
    · exact ((updFleetOf_changes s ..).weaken).then (writeDoorOf_changes _ ..)
  · split
    · exact .refl _ _
    · exact (updEntry_changes s ..).weaken
  · exact .refl _ _
theorem proveStroke_changes (c : Channel) : ChangesOnly s trackParts (s.proveStroke c) :=
  (((((updChan_changes s ..).weaken).then (provenWrites_changes _ ..)).then (updChan_changes _ ..)).then
    (completeStroke_changes _ ..)).then (applyPending_changes _ _)
theorem failWrites_changes (c : Channel) (x : Chan) :
    ChangesOnly s [.trk, .fleet, .msv, .lch, .journal, .news] (s.failWrites c x) := by
  unfold State.failWrites; split
  · exact .ite (((updFleetOf_changes s ..).weaken).then (writeDoorOf_changes _ ..)) (.refl _ _)
  · exact .ite (.refl _ _) (((updFleetOf_changes s ..).weaken).then (writeDoorOf_changes _ ..))
  · exact .refl _ _
theorem failCause_changes (c : Channel) (x : Chan) : ChangesOnly s causeParts (s.failCause c x) :=
  .ite (raiseOnce_changes s ..) (.ite (raiseCause_changes s ..) (raiseCause_changes s ..))
theorem failStroke_changes (c : Channel) (f : DoorFault) : ChangesOnly s trackParts (s.failStroke c f) :=
  (((((((updChan_changes s ..).weaken).then (failWrites_changes _ ..)).then (updChan_changes _ ..)).then
    (failCause_changes _ ..)).then (journal_changes _ ..)).then (completeStroke_changes _ ..)).then
    (applyPending_changes _ _)
theorem closeTests_changes (c : Channel) (n : Nat) : ∀ s : State, ChangesOnly s trackParts (State.closeTests c n s) := by
  induction n with
  | zero => exact fun s => .refl _ _
  | succ n ih =>
    intro s
    unfold State.closeTests; dsimp only
    exact .ite (proveStroke_changes s c) (.ite (.ite (.ite (((updChan_changes s ..).weaken.then
      (updChan_changes _ ..)).then (ih _)) (((updChan_changes s ..).weaken).then (failStroke_changes _ ..)))
        ((updChan_changes s ..).weaken)) (.refl _ _))
theorem testClose_changes (c : Channel) : ChangesOnly s trackParts (s.testClose c) := closeTests_changes c _ s
theorem endReversal_changes (c : Channel) : ChangesOnly s trackParts (s.endReversal c) :=
  .ite (((updChan_changes s ..).weaken).then (testClose_changes _ _)) (failStroke_changes s ..)
theorem beginStroke_changes (c : Channel) (b : Bool) (o : Origin) : ChangesOnly s [.ddu] (s.beginStroke c b o) := by
  unfold State.beginStroke; dsimp only; exact updChan_changes s ..
theorem startGateClose_changes : ChangesOnly s trackParts s.startGateClose :=
  (((updChan_changes s ..).weaken).then (beginStroke_changes _ ..)).then (testClose_changes _ _)
theorem afterOpen_changes (c : Channel) : ChangesOnly s trackParts (s.afterOpen c) :=
  .ite (startGateClose_changes s) (.refl _ _)
theorem testOpen_changes (c : Channel) : ChangesOnly s trackParts (s.testOpen c) :=
  .ite ((proveStroke_changes s c).then (afterOpen_changes _ _)) (.refl _ _)
theorem missEngagement_changes (c : Channel) (u : Nat) : ChangesOnly s trackParts (s.missEngagement c u) :=
  ((((ChangesOnly.when ((updEntry_changes s ..).weaken)).then (updFleetRec_changes _ ..)).then
    (writeDoor_changes _ ..)).then (raiseOnce_changes _ ..)).then (journal_changes _ ..)
theorem engageOpener_changes (u : Nat) : ChangesOnly s trackParts (s.engageOpener u) :=
  .ite (((((updChan_changes s ..).weaken).then (beginStroke_changes _ ..)).then (writeDoor_changes _ ..)).then
    (testOpen_changes _ _)) (missEngagement_changes s ..)
theorem engageCloser_changes (u : Nat) : ChangesOnly s trackParts (s.engageCloser u) :=
  .ite (((((updChan_changes s ..).weaken).then (beginStroke_changes _ ..)).then (writeDoor_changes _ ..)).then
    (testClose_changes _ _)) (missEngagement_changes s ..)
theorem withhold_changes (n r : Nat) : ChangesOnly s [.journal, .news] (s.withhold n r) := journal_changes s ..
theorem engageGate_changes (e : TrackEntry) : ChangesOnly s trackParts (s.engageGate e) := by
  unfold State.engageGate; dsimp only
  exact .ite (((withhold_changes s ..).weaken).then (.when (startGateClose_changes _)))
    (.ite ((((updChan_changes s ..).weaken).then (beginStroke_changes _ ..)).then (testOpen_changes _ _))
      (.ite (((updChan_changes s ..).weaken).then (updEntry_changes _ ..))
        (.ite ((withhold_changes s ..).weaken) ((withhold_changes s ..).weaken))))
theorem gateCloseNow_changes : ChangesOnly s trackParts s.gateCloseNow := by
  unfold State.gateCloseNow; split
  · exact startGateClose_changes s
  · exact (updChan_changes s ..).weaken
  · exact .refl _ _
theorem closePoint_changes (u : Nat) : ChangesOnly s trackParts (s.closePoint u) :=
  .ite (gateCloseNow_changes s) (.refl _ _)
theorem gateLateCheck_changes (e : TrackEntry) : ChangesOnly s trackParts (s.gateLateCheck e) :=
  .ite (((raiseOnce_changes s ..).weaken.then (journal_changes _ ..)).then (gateCloseNow_changes _)) (.refl _ _)
theorem dropChannel_changes (c : Channel) : ChangesOnly s trackParts (s.dropChannel c) := by
  unfold State.dropChannel; dsimp only
  exact .ite (((updChan_changes s ..).weaken).then (gateCloseNow_changes _)) ((updChan_changes s ..).weaken)
theorem dropEngagements_changes (u : Nat) : ChangesOnly s trackParts (s.dropEngagements u) :=
  .foldl (fun t c => .ite (dropChannel_changes t c) (.refl _ _)) _ s
theorem dropAllEngagements_changes : ChangesOnly s trackParts s.dropAllEngagements :=
  .foldl (fun t c => .ite (dropChannel_changes t c) (.refl _ _)) _ s
theorem gateAtLost_changes : ChangesOnly s trackParts s.gateAtLost := .ite (gateCloseNow_changes s) (.refl _ _)
theorem openLimit_changes (c : Channel) : ChangesOnly s trackParts (s.openLimit c) := by
  unfold State.openLimit; split
  · exact (proveStroke_changes s c).then (afterOpen_changes _ _)
  · exact endReversal_changes s c
  · exact .refl _ _
theorem closedLimit_changes (c : Channel) : ChangesOnly s trackParts (s.closedLimit c) := by
  unfold State.closedLimit; split
  · exact proveStroke_changes s c
  · exact .refl _ _
theorem obstructed_changes (c : Channel) : ChangesOnly s trackParts (s.obstructed c) := by
  unfold State.obstructed; split
  · dsimp only
    exact .ite (((updChan_changes s ..).weaken).then (endReversal_changes _ _)) ((updChan_changes s ..).weaken)
  · exact .refl _ _
theorem strokeTimeout_changes (c : Channel) (p : ChanState) : ChangesOnly s trackParts (s.strokeTimeout c p) := by
  unfold State.strokeTimeout; split
  · split
    · exact failStroke_changes s ..
    · exact failStroke_changes s ..
    · exact endReversal_changes s c
    · exact .refl _ _
  · exact .refl _ _
theorem setDriveMode_changes (c m : Nat) : ChangesOnly s modeParts (s.setDriveMode c m).1 := by
  unfold State.setDriveMode; split
  · dsimp only
    split
    · exact .refl _ _
    · split
      · dsimp only; exact (updChan_changes s ..).weaken
      · refine ChangesOnly.then (ps := modeParts) ?_ (setMode_changes _ ..)
        exact .ite (((updChan_changes s ..).weaken).then (endCause_changes _ ..)) ((updChan_changes s ..).weaken)
  · exact .refl _ _
theorem startStrokeOrder_changes (k c d : Nat) : ChangesOnly s trackParts (s.startStrokeOrder k c d) := by
  unfold State.startStrokeOrder; split
  · exact .refl _ _
  · split
    · exact (((updChan_changes s ..).weaken).then (beginStroke_changes _ ..)).then (testOpen_changes _ _)
    · exact ((((updChan_changes s ..).weaken).then (beginStroke_changes _ ..)).then (writeDoorOf_changes _ ..)).then
        (testClose_changes _ _)
theorem haltDrive_changes (c : Nat) : ChangesOnly s trackParts (s.haltDrive c).1 := by
  unfold State.haltDrive; split
  · exact .refl _ _
  · dsimp only
    split
    · refine ChangesOnly.then ?_ (applyPending_changes _ _)
      refine ChangesOnly.then ?_ (completeStroke_changes _ ..)
      exact .ite (((updChan_changes s ..).weaken).then (writeDoorOf_changes _ ..)) ((updChan_changes s ..).weaken)
    · exact .refl _ _

/-! ## What the launch unit does for the track: Hooks -/

theorem z3Changed_changes : ChangesOnly s causeParts s.z3Changed := by
  unfold State.z3Changed; dsimp only
  have h := fun (f g : Lch → Lch) =>
    ((updLch_changes s f).weaken (ps := causeParts)).then (updLch_changes (s.updLch f) g)
  exact .ite (.refl _ _) (.ite ((h _ _).then (raiseCause_changes _ ..))
    (.ite ((h _ _).then (endCause_changes _ ..)) ((updLch_changes s _).weaken)))
theorem enterHolding_changes (u : Nat) : ChangesOnly s [.trk, .lch, .journal, .news] (s.enterHolding u) := by
  unfold State.enterHolding; dsimp only
  have h : ChangesOnly s [.trk, .lch, .journal, .news]
      (s.when s.pins.latch (·.updEntry u fun e => { e with door := .latched })) := .when (updEntry_changes s ..).weaken
  exact .ite (((h.then (updLch_changes _ _)).then (updHeld_changes _ _)).then (gateEvent_changes _)) h
theorem gateEmpty_changes : ChangesOnly s supervisorParts s.gateEmpty := by
  unfold State.gateEmpty; dsimp only
  exact ((updLch_changes s _).weaken (ps := supervisorParts)).then (.when (endCause_changes _ ..))
theorem clearDivert_changes : ChangesOnly s gateParts s.clearDivert :=
  ((updLch_changes s _).weaken).then (gateEvent_changes _)
theorem arrivalEndsDivert_changes (n : Nat) : ChangesOnly s gateParts (s.arrivalEndsDivert n) := by
  unfold State.arrivalEndsDivert; split
  · exact .refl _ _
  · exact .ite (clearDivert_changes s) (.refl _ _)
theorem departureCheck_changes (d : DWord) : ChangesOnly s causeParts (s.departureCheck d) := by
  unfold State.departureCheck; dsimp only
  refine ChangesOnly.then ?_ (updLch_changes _ _)
  split
  · exact .refl _ _
  · exact .ite (raiseOnce_changes s ..) (.refl _ _)
theorem dropTestEntry_changes (u : Nat) : ChangesOnly s [.lch] (s.dropTestEntry u) :=
  .ite (updLch_changes s _) (.refl _ _)
theorem gateRebuilt_changes : ChangesOnly s trackParts s.gateRebuilt := by
  unfold State.gateRebuilt; dsimp only
  have h := ((updLch_changes s fun l => { l with testEntry := none }).weaken (ps := trackParts)).then
    (gateEmpty_changes _)
  refine ChangesOnly.then ?_ (z3Changed_changes _)
  split
  · exact h
  · exact h.then (enterHolding_changes _ _)
theorem flagEvent_changes (n : Nat) (b : Bool) : ChangesOnly s gateParts (s.flagEvent n b) :=
  .ite (gateEvent_changes s) (.refl _ _)
theorem setBarred_changes (n : Nat) (b : Bool) : ChangesOnly s [.fleet, .lch, .journal, .news] (s.setBarred n b) :=
  ((updFleetRec_changes s ..).weaken).then (flagEvent_changes _ ..)
theorem setGarage_changes (n : Nat) (b : Bool) : ChangesOnly s [.fleet, .lch, .journal, .news] (s.setGarage n b) :=
  ((updFleetRec_changes s ..).weaken).then (flagEvent_changes _ ..)

/-! ## Track -/

theorem endOverdue_changes (e : TrackEntry) : ChangesOnly s supervisorParts (s.endOverdue e) :=
  .ite (.ite (endCause_changes s ..) (.ite (.refl _ _) (endCause_changes s ..))) (.refl _ _)
theorem endAllOverdue_changes (es : List TrackEntry) : ChangesOnly s supervisorParts (s.endAllOverdue es) :=
  .foldl (fun t _ => .ite (endCause_changes t ..) (.refl _ _)) _ s
theorem enterLost_changes : ChangesOnly s trackParts s.enterLost :=
  (((((updTrk_changes s _).weaken).then (raiseCause_changes _ ..)).then (endAllOverdue_changes _ _)).then
    (journal_changes _ ..)).then (gateAtLost_changes _)
theorem refusePlacement_changes : ChangesOnly s trackParts s.refusePlacement :=
  ((raiseOnce_changes s ..).weaken).then (enterLost_changes _)
theorem place_changes (e : TrackEntry) : ChangesOnly s trackParts (s.place e) :=
  ((updTrk_changes s _).weaken).then (z3Changed_changes _)
theorem requestPlacement_changes (e : TrackEntry) : ChangesOnly s trackParts (s.requestPlacement e) :=
  .ite (refusePlacement_changes s) (place_changes s _)
theorem removeEntry_changes (e : TrackEntry) : ChangesOnly s trackParts (s.removeEntry e) :=
  (((((updTrk_changes s _).weaken).then (dropEngagements_changes _ _)).then (dropTestEntry_changes _ _)).then
    (endOverdue_changes _ _)).then (z3Changed_changes _)
theorem moveEntry_changes (e : TrackEntry) (z : Nat) : ChangesOnly s trackParts (s.moveEntry e z) :=
  (((updEntry_changes s ..).weaken).then (endOverdue_changes _ _)).then (z3Changed_changes _)
theorem unknownArrival_changes : ChangesOnly s trackParts s.unknownArrival := by
  unfold State.unknownArrival; dsimp only
  exact .ite (((updTrk_changes s _).weaken).then (raiseCause_changes _ ..)) ((updTrk_changes s _).weaken)
theorem knownArrival_changes : ChangesOnly s trackParts s.knownArrival :=
  ((updTrk_changes s _).weaken).then (endCause_changes _ ..)
theorem noteMismatch_changes (n : Nat) : ChangesOnly s [.journal, .news] (s.noteMismatch n) := by
  unfold State.noteMismatch; dsimp only
  exact .ite (journal_changes s ..) (.refl _ _)
theorem resolveUnknown_changes (e : TrackEntry) (r : List Byte) : ChangesOnly s trackParts (s.resolveUnknown e r) :=
  ((((updTrk_changes s _).weaken).then (journal_changes _ ..)).then (journal_changes _ ..)).then
    (unknownArrival_changes _)
theorem resolveKnown_changes (e : TrackEntry) (n : Nat) : ChangesOnly s trackParts (s.resolveKnown e n) :=
  (((((((updTrk_changes s _).weaken).then (updEntry_changes _ ..)).then (endOverdue_changes _ _)).then
    (noteMismatch_changes _ _)).then (updFleetRec_changes _ ..)).then (arrivalEndsDivert_changes _ _)).then
    (journal_changes _ ..) |>.then (knownArrival_changes _)
theorem resolveDuplicate_changes (e : TrackEntry) (g : Word) (n : Nat) :
    ChangesOnly s trackParts (s.resolveDuplicate e g n) :=
  ((((updTrk_changes s _).weaken).then (journal_changes _ ..)).then (journal_changes _ ..)).then
    (knownArrival_changes _)
theorem resolveTag_changes (e : TrackEntry) (g : Word) : ChangesOnly s trackParts (s.resolveTag e g) := by
  unfold State.resolveTag; split
  · exact resolveUnknown_changes s ..
  · exact .ite (resolveDuplicate_changes s ..) (resolveKnown_changes s ..)
theorem closeWindow_changes : ChangesOnly s trackParts s.closeWindow := by
  unfold State.closeWindow; split
  · exact .refl _ _
  · split
    · exact (updTrk_changes s _).weaken
    · exact resolveUnknown_changes s ..
theorem invalidFrame_changes : ChangesOnly s [.trk] s.invalidFrame := updTrk_changes s _
theorem validFrame_changes (g : Word) : ChangesOnly s trackParts (s.validFrame g) := by
  unfold State.validFrame; split
  · exact .refl _ _
  · split
    · exact .refl _ _
    · exact resolveTag_changes s ..
theorem tagByte_changes (b : TagByte) : ChangesOnly s trackParts (s.tagByte b) := by
  unfold State.tagByte; dsimp only
  split
  · exact ((updTrk_changes s _).weaken).then (invalidFrame_changes _)
  · split
    · exact (updTrk_changes s _).weaken
    · split
      · exact ((updTrk_changes s _).weaken).then (validFrame_changes _ _)
      · exact ((updTrk_changes s _).weaken).then (invalidFrame_changes _)
theorem tagGap_changes : ChangesOnly s [.trk] s.tagGap :=
  .ite (.refl _ _) ((updTrk_changes s _).then (invalidFrame_changes _))
theorem countEdge_changes (b : Nat) : ChangesOnly s [.trk] (s.countEdge b) := updTrk_changes s _
theorem chatter_changes (b : Nat) (e : Option TrackEntry) : ChangesOnly s [.journal, .news] (s.chatter b e) :=
  journal_changes s ..
theorem arrivalSpacing_changes : ChangesOnly s trackParts s.arrivalSpacing := by
  unfold State.arrivalSpacing; dsimp only
  refine ChangesOnly.then ?_ (updTrk_changes _ _)
  split
  · exact .refl _ _
  · exact .ite ((raiseOnce_changes s ..).weaken) (.refl _ _)
theorem arrive_changes : ChangesOnly s trackParts s.arrive := by
  unfold State.arrive; dsimp only
  exact .ite (refusePlacement_changes s) ((((closeWindow_changes s).then (place_changes _ _)).then
    (arrivalSpacing_changes _)).then (updTrk_changes _ _))
theorem edgeB0_changes : ChangesOnly s trackParts s.edgeB0 :=
  .ite ((countEdge_changes s _).weaken) (.ite ((chatter_changes s ..).weaken) (arrive_changes s))
theorem depart_changes (e : TrackEntry) : ChangesOnly s trackParts (s.depart e) :=
  (((removeEntry_changes s e).then (setFleetState_changes _ ..)).then (journal_changes _ ..)).then
    (departureCheck_changes _ _)
theorem matchAt_changes (b : Nat) (e : TrackEntry) : ChangesOnly s trackParts (s.matchAt b e) := by
  unfold State.matchAt; dsimp only
  have h := ((updEntry_changes s e.uid fun x => { x with waiver := false }).weaken (ps := trackParts)).then
    (moveEntry_changes _ e b)
  split
  · exact (h.then (.ite (closeWindow_changes _) (.refl _ _))).then (engageOpener_changes _ _)
  · exact h.then (engageGate_changes _ _)
  · exact (h.then (engageCloser_changes _ _)).then (gateLateCheck_changes _ _)
  · exact h
theorem testEdge_changes (b : Nat) : ChangesOnly s trackParts (s.testEdge b) := by
  unfold State.testEdge; split
  · exact (raiseOnce_changes s ..).weaken
  · exact .ite (.ite (depart_changes s _) (matchAt_changes s ..)) ((chatter_changes s ..).weaken)
theorem edgeAt_changes (b : Nat) : ChangesOnly s trackParts (s.edgeAt b) :=
  .ite ((countEdge_changes s _).weaken) (.ite ((chatter_changes s ..).weaken) (testEdge_changes s _))
theorem standAtGate_changes : ChangesOnly s trackParts s.standAtGate := by
  unfold State.standAtGate; split
  · exact (raiseOnce_changes s ..).weaken
  · exact .ite ((chatter_changes s ..).weaken) (((updEntry_changes s ..).weaken).then (enterHolding_changes _ _))
/-- The track's parts and the pins. -/
abbrev sensorParts : List Part := .pins :: trackParts

theorem edgeB4_changes : ChangesOnly s sensorParts s.edgeB4 := by
  unfold State.edgeB4; dsimp only
  have h := (updPins_changes s fun p => { p with b4 := true }).weaken (ps := sensorParts)
  exact .ite (h.then (countEdge_changes _ _)) (.ite (h.then (chatter_changes _ ..)) (h.then (standAtGate_changes _)))
theorem overdueCheck_changes (u : Nat) : ChangesOnly s trackParts (s.overdueCheck u) := by
  unfold State.overdueCheck; split
  · exact .refl _ _
  · exact .ite (((updEntry_changes s ..).weaken).then (raiseCause_changes _ ..)) (.refl _ _)
theorem closePointCheck_changes : ChangesOnly s trackParts s.closePointCheck := by
  unfold State.closePointCheck; split
  · exact .refl _ _
  · exact .ite (closePoint_changes s _) (.refl _ _)
theorem trackWindow_changes : ChangesOnly s trackParts s.trackWindow := by
  unfold State.trackWindow; dsimp only
  exact .ite (.refl _ _) ((((updTrk_changes s _).weaken).then
    (.foldl (fun t u => overdueCheck_changes t u) _ _)).then (closePointCheck_changes _))
theorem rebuildAtGate_changes : ChangesOnly s [.trk] s.rebuildAtGate := by
  unfold State.rebuildAtGate; split
  · split
    · exact .refl _ _
    · exact updEntry_changes s ..
  · exact .refl _ _
theorem rebuildNamed_changes (n : Nat) : ChangesOnly s [.fleet, .journal, .news] (s.rebuildNamed n) :=
  ChangesOnly.then (.ite ((journal_changes s ..).weaken) (.refl _ _)) (setFleetState_changes _ ..)
theorem rebuildFleet_changes (p : List (Nat × Nat)) : ChangesOnly s [.fleet, .journal, .news] (s.rebuildFleet p) := by
  unfold State.rebuildFleet; dsimp only
  exact (ChangesOnly.foldl (fun t n => rebuildNamed_changes t n) _ s).then (updFleet_changes _ _)
theorem rebuild_changes (p : List (Nat × Nat)) : ChangesOnly s trackParts (s.rebuild p) := by
  unfold State.rebuild; dsimp only
  refine ChangesOnly.then ?_ (gateRebuilt_changes _)
  have h := (((((((((updTrk_changes s fun t => { t with window := none }).weaken (ps := trackParts)).then
    (dropAllEngagements_changes _)).then (endAllOverdue_changes _ s.trk.entries)).then (updTrk_changes _ fun t =>
      { t with entries := rebuiltEntries s.rpm.dist t.nextUid p, nextUid := t.nextUid + p.length })).then
    (rebuildAtGate_changes _)).then (rebuildFleet_changes _ p)).then
    (updTrk_changes _ fun t => { t with lastArrival := none, state := .tracking })).then
    (endCause_changes _ .trackLost 0)).then (journal_changes _ .trackRebuilt .trk 0 [byteOf p.length])
  split
  · exact h.then (journal_changes _ ..)
  · exact h

/-- What barring or garaging a cabin can change. -/
abbrev flagParts : List Part := [.fleet, .lch, .journal, .news]

theorem barCabin_changes (n : Nat) : ChangesOnly s flagParts (s.barCabin n).1 := by
  unfold State.barCabin; split
  · exact setBarred_changes s ..
  · exact .refl _ _
theorem unbarCabin_changes (n : Nat) : ChangesOnly s flagParts (s.unbarCabin n).1 := by
  unfold State.unbarCabin; repeat' split
  all_goals first
    | exact .refl _ _
    | exact setBarred_changes s ..
theorem garageCabin_changes (n : Nat) : ChangesOnly s flagParts (s.garageCabin n).1 := by
  unfold State.garageCabin; repeat' split
  all_goals first
    | exact .refl _ _
    | exact setGarage_changes s ..

/-! ## Launch -/

theorem completeLaunch_changes : ChangesOnly s trackParts s.completeLaunch := by
  unfold State.completeLaunch
  refine ChangesOnly.then ?_ (gateEmpty_changes _)
  split
  · exact moveEntry_changes s ..
  · exact .refl _ _
theorem completeDivert_changes : ChangesOnly s trackParts s.completeDivert := by
  unfold State.completeDivert
  refine ChangesOnly.then ?_ (gateEmpty_changes _)
  split
  · exact .refl _ _
  · exact (((updLch_changes s _).weaken).then (updHeld_changes _ _)).then (removeEntry_changes _ _)
theorem uncommandedLaunch_changes : ChangesOnly s trackParts s.uncommandedLaunch := by
  unfold State.uncommandedLaunch; dsimp only
  refine ChangesOnly.then ?_ (gateEmpty_changes _)
  have h := (raiseOnce_changes s .uncommandedLaunch .fast 0).weaken (ps := trackParts)
  split
  · exact h.then (moveEntry_changes _ ..)
  · exact h
theorem b4Falling_changes : ChangesOnly s sensorParts s.b4Falling := by
  unfold State.b4Falling; dsimp only
  have h := (updPins_changes s fun p => { p with b4 := false }).weaken (ps := sensorParts)
  split
  · exact h.then (completeLaunch_changes _)
  · exact h.then (completeDivert_changes _)
  · exact h.then (uncommandedLaunch_changes _)
  · exact h.then (uncommandedLaunch_changes _)
theorem divertFails_changes : ChangesOnly s trackParts s.divertFails := by
  unfold State.divertFails; split
  · exact .refl _ _
  · dsimp only
    refine ChangesOnly.then ?_ (clearDivert_changes _)
    exact .ite (((raiseOnce_changes s ..).weaken).then (requestPlacement_changes _ _))
      ((raiseOnce_changes s ..).weaken)
theorem startGripTest_changes : ChangesOnly s [.lch] s.startGripTest := by
  unfold State.startGripTest; dsimp only; exact updLch_changes s _
theorem b5Rising_changes : ChangesOnly s sensorParts s.b5Rising := by
  unfold State.b5Rising; dsimp only
  have h := (updPins_changes s fun p => { p with b5 := true }).weaken (ps := sensorParts)
  exact .ite h (.ite (h.then (divertFails_changes _)) ((h.then (divertFails_changes _)).then
    (startGripTest_changes _)))
theorem recordGrip_changes (t : Option Nat) (n f : Nat) (g : Grade) :
    ChangesOnly s [.trk, .fleet, .lch, .journal, .news] (s.recordGrip t n f g) := by
  unfold State.recordGrip; split
  · split
    · exact .refl _ _
    · exact .ite ((updEntry_changes s ..).weaken) (.refl _ _)
  · dsimp only
    exact .ite (((updFleetRec_changes s ..).weaken).then (setBarred_changes _ ..)) ((updFleetRec_changes s ..).weaken)
theorem gripCause_changes (g : Grade) (n : Nat) : ChangesOnly s causeParts (s.gripCause g n) := by
  unfold State.gripCause; split <;> first
    | exact raiseOnce_changes s ..
    | exact .refl _ _
theorem endGripTest_changes : ChangesOnly s trackParts s.endGripTest := by
  unfold State.endGripTest; split
  · exact ((((updLch_changes s _).weaken).then (recordGrip_changes _ ..)).then (gripCause_changes _ ..)).then
      (journal_changes _ ..)
  · exact .refl _ _
theorem forceSample_changes (f : Nat) : ChangesOnly s [.lch] (s.forceSample f) :=
  .ite (updLch_changes s _) (.refl _ _)
theorem gIn_changes : ChangesOnly s flagParts s.gIn := by
  unfold State.gIn; split
  · exact (journal_changes s ..).weaken
  · exact ((((setFleetState_changes s ..).weaken).then (setGarage_changes _ ..)).then (journal_changes _ ..)).then
      (clearDivert_changes _)
theorem startRelease_changes (k n : Nat) : ChangesOnly s [.lch] (s.startRelease k n) :=
  (updLch_changes s _).then (updHeld_changes _ _)
theorem endInsertion_changes (i : Insertion) (r : OrderResult) :
    ChangesOnly s (.lch :: completionParts) (s.endInsertion i r) :=
  ((updLch_changes s _).weaken).then (completeOrder_changes _ ..)
theorem gOutUnexpected_changes : ChangesOnly s trackParts s.gOutUnexpected :=
  ChangesOnly.then (.ite (requestPlacement_changes s _) (.refl _ _)) (journal_changes _ ..)
theorem gOut_changes : ChangesOnly s trackParts s.gOut := by
  unfold State.gOut; split
  · exact gOutUnexpected_changes s
  · exact .ite (((endInsertion_changes s ..).weaken).then (gOutUnexpected_changes _))
      (.ite (((setFleetState_changes s ..).weaken).then (endInsertion_changes _ ..))
        (.ite (((refusePlacement_changes s).then (setFleetState_changes _ ..)).then (endInsertion_changes _ ..))
          (((((setFleetState_changes s ..).weaken).then (place_changes _ _)).then (journal_changes _ ..)).then
            (endInsertion_changes _ ..))))
theorem insertionExpires_changes : ChangesOnly s (.lch :: completionParts) s.insertionExpires := by
  unfold State.insertionExpires; split
  · exact .refl _ _
  · exact endInsertion_changes s ..
theorem latchChange_changes (b : Bool) : ChangesOnly s sensorParts (s.latchChange b) := by
  unfold State.latchChange; dsimp only
  have h := (updPins_changes s fun p => { p with latch := b }).weaken (ps := sensorParts)
  exact .ite (.refl _ _) (((h.then (.ite (updTrk_changes _ _) (.refl _ _))).then (endNotProven_changes _)).then
    (gateEvent_changes _))
theorem proofExpires_changes : ChangesOnly s causeParts s.proofExpires :=
  .ite (((updLch_changes s _).weaken).then (raiseCause_changes _ ..)) (.refl _ _)
theorem launchWindow_changes : ChangesOnly s gateParts s.launchWindow := by
  unfold State.launchWindow; dsimp only
  exact (((updLch_changes s _).weaken).then (gateEvent_changes _)).then (updLch_changes _ _)

/-! ## Rope -/

/-- What the rope monitor can change: itself, and whatever a cause changes. -/
abbrev ropeParts : List Part := .rpm :: causeParts

theorem pulse_changes (t : Tach) : ChangesOnly s [.rpm] (s.pulse t) := by
  unfold State.pulse; split <;> exact updRpm_changes s _
theorem windowTime_changes : ChangesOnly s [.time] s.windowTime :=
  ⟨fun p hp => by cases p <;> simp_all [Part.same, BoardOnly, State.windowTime]⟩
theorem tachoFollow_changes : ChangesOnly s ropeParts s.tachoFollow :=
  .ite (.ite (((updRpm_changes s _).weaken).then (endCause_changes _ ..)) (.refl _ _))
    (.ite (((updRpm_changes s _).weaken).then (raiseCause_changes _ ..)) (.refl _ _))
theorem setStandstill_changes (b : Bool) : ChangesOnly s [.rpm, .journal, .news] (s.setStandstill b) :=
  .ite (.refl _ _) (((updRpm_changes s _).weaken).then (journal_changes _ ..))
theorem standstillCount_changes : ChangesOnly s [.rpm, .journal, .news] s.standstillCount := by
  unfold State.standstillCount; dsimp only
  exact .ite (((updRpm_changes s _).weaken).then (setStandstill_changes _ _))
    (((updRpm_changes s _).weaken).then (setStandstill_changes _ _))
theorem sideFollow_changes (c : CauseCode) (k : Category) (i : Nat) (h o : Bool) :
    ChangesOnly s causeParts (s.sideFollow c k i h o) :=
  .ite (raiseCause_changes s ..) (.ite ((endCause_changes s ..).weaken) (.refl _ _))
theorem thresholds_changes (p : Nat) : ChangesOnly s ropeParts (s.thresholds p) := by
  unfold State.thresholds; dsimp only
  exact (((((updRpm_changes s _).weaken).then (sideFollow_changes _ ..)).then (sideFollow_changes _ ..)).then
    (sideFollow_changes _ ..)).then (sideFollow_changes _ ..)
theorem tensionSample_changes (c : Nat) : ChangesOnly s ropeParts (s.tensionSample c) := by
  unfold State.tensionSample; dsimp only
  exact .ite ((((updRpm_changes s _).weaken).then (.when ((endCause_changes _ ..).weaken (ps := ropeParts)))).then
    (thresholds_changes _ _)) (((updRpm_changes s _).weaken).then (.when (raiseCause_changes _ ..)))
theorem ropeWindow_changes (c : Nat) : ChangesOnly s (.time :: ropeParts) (s.ropeWindow c) := by
  unfold State.ropeWindow; dsimp only
  exact (((((windowTime_changes s).weaken).then (updRpm_changes _ _)).then (tachoFollow_changes _)).then
    (standstillCount_changes _)).then (tensionSample_changes _ _)
theorem setLoop_changes (l : RopeLoop) (u : LoopUnit) : ChangesOnly s [.rpm] (s.setLoop l u) := updRpm_changes s _
theorem loopInput_changes (l : RopeLoop) (b : Bool) : ChangesOnly s [.pins, .rpm] (s.loopInput l b) := by
  unfold State.loopInput; dsimp only
  have h := (updPins_changes s fun p => { p with loops := p.loops.set l b }).weaken (ps := [.pins, .rpm])
  split
  · exact .refl _ _
  · split <;> first
      | exact h.then (setLoop_changes _ ..)
      | exact h
theorem loopExpiry_changes (l : RopeLoop) : ChangesOnly s ropeParts (s.loopExpiry l) := by
  unfold State.loopExpiry; split
  · exact ((setLoop_changes s ..).weaken).then (raiseCause_changes _ ..)
  · exact ((setLoop_changes s ..).weaken).then (endCause_changes _ ..)
  · exact .refl _ _

end

end Sys2Proof.Machine
end

