-- ==== Sys2Proof/WellFormed.lean ====
section
/-! DEFINITION. Which commands can come at all: each operand within the width of the field or wire that carries it.
A well-formed command may still be refused by the part; that is its meaning's business. -/

namespace Sys2Proof

/-- A slip index: the order board has 32 slips (R164). -/
def slipOk (n : Nat) : Bool := decide (n < 32)

/-- A 1-byte operand (R190). -/
def byteOk (n : Nat) : Bool := decide (n < 256)

/-- A frame as the data pair can carry it to the part: a sender 1 to 13, a destination other than 14, at most 16
payload bytes (R92, R97). -/
def frameOk (f : RxFrame) : Bool :=
  decide (1 ≤ f.sender) && decide (f.sender ≤ 13) && decide (f.dest ≤ 15) && decide (f.dest ≠ 14) &&
    decide (f.payload.length ≤ 16)

/-- A 4-bit sender field, if it was received whole (R92). -/
def senderOk : Option Nat → Bool
  | none => true
  | some a => decide (a < 16)

/-- An offset the host port can address: an even offset of the 32 KiB (R164). -/
def targetOk : HostTarget → Bool
  | .control => true
  | .memory offset => decide (offset < 0x8000) && decide (offset % 2 = 0)

/-- A command is well-formed. -/
def Instr.wellFormed : Instr → Bool
  | .start slip | .stop slip | .fastStop slip | .resume slip => slipOk slip
  | .setCeiling slip value => slipOk slip && decide (value < 65536)
  | .ackCause slip cause code => slipOk slip && byteOk cause && byteOk code
  | .rebuildTrack slip pairs => slipOk slip && byteOk pairs.length && pairs.all fun p => byteOk p.1 && byteOk p.2
  | .barCabin slip n | .unbarCabin slip n | .garageCabin slip n | .releaseCabin slip n => slipOk slip && byteOk n
  | .setDriveMode slip a b | .stroke slip a b | .call slip a b | .lock slip a b => slipOk slip && byteOk a && byteOk b
  | .haltDrive slip n | .excludeStation slip n | .includeStation slip n => slipOk slip && byteOk n
  | .sendNote slip dest _ text => slipOk slip && byteOk dest && byteOk text.length
  | .answer slip n | .hangUp slip n | .adopt slip n | .unlock slip n => slipOk slip && byteOk n
  | .loadSet slip n | .saveSet slip n => slipOk slip && byteOk n
  | .setClock slip _ => slipOk slip
  | .postWrite _ | .newsWrite _ | .enableWrite _ | .resetSequenceArm | .controlReset | .hostReadCountWrite _ => true
  | .hostMemoryWrite target _ => targetOk target
  | .powerUp _ _ ms => decide (ms < 1000)
  | .pinReset | .arrival => true
  | .tagFrame bytes => decide (1 ≤ bytes.length) && decide (bytes.length ≤ 4)
  | .tagByteGapTimeout | .boundaryEdge _ | .cabinAtGate | .b4Falling | .b5Rising | .gInRising | .gOutRising => true
  | .latchChange _ | .proofTimerExpiry | .insertionTimeout => true
  | .openLimActive _ _ | .closedLimActive _ _ | .obstrActive _ _ => true
  | .openTimeExpiry _ | .closeTimeExpiry _ | .reverseTimeExpiry _ => true
  | .tachPulse _ => true
  | .ropeWindowEnd tension => decide (tension < 4096)
  | .trackWindowEnd | .launchWindowEnd | .supervisorWindowEnd | .loopInputChange _ _ | .loopTimerExpiry _ => true
  | .chainSenseChange _ | .setupKeyChange _ | .saveSetDone | .clockSecond => true
  | .idleGapReached | .transmitAttempt | .arbitrationLoss | .bitError | .ackSlotOutcome _ => true
  | .receiveError sender | .breakBegin sender => senderOk sender
  | .tripReceived f | .statusReceived f | .noteReceived f | .pairReqReceived f | .hookReceived f => frameOk f
  | .otherFrameReceived kind f => decide (kind < 16) && frameOk f
  | .breakEnd | .statusTimerExpiry | .timeTimerExpiry => true
  | .silenceTimerExpiry address => decide (1 ≤ address) && decide (address ≤ 13)
  | .waitTimerExpiry callId | .ringTimerExpiry callId => decide (1 ≤ callId) && decide (callId ≤ 255)
  | .reannounceTimerExpiry => true
  | .gripForceSample force => decide (force < 1024)
  | .startBitReceived _ | .callViewTimerSecond => true

/-- The slip of an order. -/
def Instr.slip? : Instr → Option Nat
  | .start n | .stop n | .fastStop n | .resume n | .setCeiling n _ | .ackCause n _ _ | .rebuildTrack n _ => some n
  | .barCabin n _ | .unbarCabin n _ | .garageCabin n _ | .releaseCabin n _ | .setDriveMode n _ _ => some n
  | .haltDrive n _ | .stroke n _ _ | .sendNote n _ _ _ | .excludeStation n _ | .includeStation n _ => some n
  | .call n _ _ | .answer n _ | .hangUp n _ | .adopt n _ | .unlock n _ | .lock n _ _ | .loadSet n _ => some n
  | .saveSet n _ | .setClock n _ => some n
  | _ => none

/-- The frame of a received-frame event. -/
def Instr.frame? : Instr → Option RxFrame
  | .tripReceived f | .statusReceived f | .noteReceived f | .pairReqReceived f | .hookReceived f => some f
  | .otherFrameReceived _ f => some f
  | _ => none

end Sys2Proof
end

