-- ==== Sys2Proof/Laws/PerInstr.lean ====
section
/-! SUPPORT. A family of statements made per command: what well-formedness bounds. -/

namespace Sys2Proof.Laws

-- One lemma at a time, as in Laws/State.lean.
set_option Elab.async false

open Sys2Proof

/-- A well-formed command names a slip of the order board (R164), and a frame that the data pair can carry to the
part (R92, R97). -/
def Bounded.Statement (i : Instr) : Prop :=
  i.wellFormed = true →
    (∀ n, i.slip? = some n → n < 32) ∧
    (∀ f, i.frame? = some f → 1 ≤ f.sender ∧ f.sender ≤ 13 ∧ f.dest ≤ 15 ∧ f.dest ≠ 14 ∧ f.payload.length ≤ 16)

/-- A command that names neither a slip nor a frame. -/
theorem bounded_of_none {i : Instr} (hs : i.slip? = none) (hf : i.frame? = none) : Bounded.Statement i :=
  fun _ => ⟨fun n h => by simp [hs] at h, fun f h => by simp [hf] at h⟩

/-- A command with a slip whose well-formedness bounds it. -/
theorem bounded_of_slip {i : Instr} {k : Nat} (hs : i.slip? = some k) (hf : i.frame? = none)
    (hw : i.wellFormed = true → slipOk k = true) : Bounded.Statement i :=
  fun h => ⟨fun n hn => by
    have : k = n := by simpa [hs] using hn
    subst this; simpa [slipOk] using hw h, fun f h => by simp [hf] at h⟩

/-- A received frame whose well-formedness bounds it. -/
theorem bounded_of_frame {i : Instr} {f : RxFrame} (hs : i.slip? = none) (hf : i.frame? = some f)
    (hw : i.wellFormed = true → frameOk f = true) : Bounded.Statement i :=
  fun h => ⟨fun n h => by simp [hs] at h, fun g hg => by
    have : f = g := by simpa [hf] using hg
    subst this
    have := hw h
    simp only [frameOk, Bool.and_eq_true, decide_eq_true_eq] at this
    omega⟩

theorem Bounded.start (slip : Nat) : Bounded.Statement (.start slip) :=
  bounded_of_slip (k := slip) rfl rfl fun h => by simp_all [Instr.wellFormed]
theorem Bounded.stop (slip : Nat) : Bounded.Statement (.stop slip) :=
  bounded_of_slip (k := slip) rfl rfl fun h => by simp_all [Instr.wellFormed]
theorem Bounded.fastStop (slip : Nat) : Bounded.Statement (.fastStop slip) :=
  bounded_of_slip (k := slip) rfl rfl fun h => by simp_all [Instr.wellFormed]
theorem Bounded.resume (slip : Nat) : Bounded.Statement (.resume slip) :=
  bounded_of_slip (k := slip) rfl rfl fun h => by simp_all [Instr.wellFormed]
theorem Bounded.setCeiling (slip value : Nat) : Bounded.Statement (.setCeiling slip value) :=
  bounded_of_slip (k := slip) rfl rfl fun h => by simp_all [Instr.wellFormed]
theorem Bounded.ackCause (slip slot code : Nat) : Bounded.Statement (.ackCause slip slot code) :=
  bounded_of_slip (k := slip) rfl rfl fun h => by simp_all [Instr.wellFormed]
theorem Bounded.rebuildTrack (slip : Nat) (pairs : List (Nat × Nat)) : Bounded.Statement (.rebuildTrack slip pairs) :=
  bounded_of_slip (k := slip) rfl rfl fun h => by simp_all [Instr.wellFormed]
theorem Bounded.barCabin (slip cabin : Nat) : Bounded.Statement (.barCabin slip cabin) :=
  bounded_of_slip (k := slip) rfl rfl fun h => by simp_all [Instr.wellFormed]
theorem Bounded.unbarCabin (slip cabin : Nat) : Bounded.Statement (.unbarCabin slip cabin) :=
  bounded_of_slip (k := slip) rfl rfl fun h => by simp_all [Instr.wellFormed]
theorem Bounded.garageCabin (slip cabin : Nat) : Bounded.Statement (.garageCabin slip cabin) :=
  bounded_of_slip (k := slip) rfl rfl fun h => by simp_all [Instr.wellFormed]
theorem Bounded.releaseCabin (slip cabin : Nat) : Bounded.Statement (.releaseCabin slip cabin) :=
  bounded_of_slip (k := slip) rfl rfl fun h => by simp_all [Instr.wellFormed]
theorem Bounded.setDriveMode (slip channel mode : Nat) : Bounded.Statement (.setDriveMode slip channel mode) :=
  bounded_of_slip (k := slip) rfl rfl fun h => by simp_all [Instr.wellFormed]
theorem Bounded.haltDrive (slip channel : Nat) : Bounded.Statement (.haltDrive slip channel) :=
  bounded_of_slip (k := slip) rfl rfl fun h => by simp_all [Instr.wellFormed]
theorem Bounded.stroke (slip channel direction : Nat) : Bounded.Statement (.stroke slip channel direction) :=
  bounded_of_slip (k := slip) rfl rfl fun h => by simp_all [Instr.wellFormed]
theorem Bounded.sendNote (slip dest : Nat) (code : Word) (text : List Byte) : Bounded.Statement (.sendNote slip dest code text) :=
  bounded_of_slip (k := slip) rfl rfl fun h => by simp_all [Instr.wellFormed]
theorem Bounded.excludeStation (slip address : Nat) : Bounded.Statement (.excludeStation slip address) :=
  bounded_of_slip (k := slip) rfl rfl fun h => by simp_all [Instr.wellFormed]
theorem Bounded.includeStation (slip address : Nat) : Bounded.Statement (.includeStation slip address) :=
  bounded_of_slip (k := slip) rfl rfl fun h => by simp_all [Instr.wellFormed]
theorem Bounded.call (slip callee kind : Nat) : Bounded.Statement (.call slip callee kind) :=
  bounded_of_slip (k := slip) rfl rfl fun h => by simp_all [Instr.wellFormed]
theorem Bounded.answer (slip callId : Nat) : Bounded.Statement (.answer slip callId) :=
  bounded_of_slip (k := slip) rfl rfl fun h => by simp_all [Instr.wellFormed]
theorem Bounded.hangUp (slip callId : Nat) : Bounded.Statement (.hangUp slip callId) :=
  bounded_of_slip (k := slip) rfl rfl fun h => by simp_all [Instr.wellFormed]
theorem Bounded.adopt (slip table : Nat) : Bounded.Statement (.adopt slip table) :=
  bounded_of_slip (k := slip) rfl rfl fun h => by simp_all [Instr.wellFormed]
theorem Bounded.unlock (slip table : Nat) : Bounded.Statement (.unlock slip table) :=
  bounded_of_slip (k := slip) rfl rfl fun h => by simp_all [Instr.wellFormed]
theorem Bounded.lock (slip table level : Nat) : Bounded.Statement (.lock slip table level) :=
  bounded_of_slip (k := slip) rfl rfl fun h => by simp_all [Instr.wellFormed]
theorem Bounded.loadSet (slip set : Nat) : Bounded.Statement (.loadSet slip set) :=
  bounded_of_slip (k := slip) rfl rfl fun h => by simp_all [Instr.wellFormed]
theorem Bounded.saveSet (slip set : Nat) : Bounded.Statement (.saveSet slip set) :=
  bounded_of_slip (k := slip) rfl rfl fun h => by simp_all [Instr.wellFormed]
theorem Bounded.setClock (slip : Nat) (seconds : DWord) : Bounded.Statement (.setClock slip seconds) :=
  bounded_of_slip (k := slip) rfl rfl fun h => by simp_all [Instr.wellFormed]
theorem Bounded.postWrite (value : Word) : Bounded.Statement (.postWrite value) :=
  bounded_of_none rfl rfl
theorem Bounded.newsWrite (value : Word) : Bounded.Statement (.newsWrite value) :=
  bounded_of_none rfl rfl
theorem Bounded.enableWrite (value : Word) : Bounded.Statement (.enableWrite value) :=
  bounded_of_none rfl rfl
theorem Bounded.resetSequenceArm : Bounded.Statement (.resetSequenceArm) :=
  bounded_of_none rfl rfl
theorem Bounded.controlReset : Bounded.Statement (.controlReset) :=
  bounded_of_none rfl rfl
theorem Bounded.hostReadCountWrite (high : Word) : Bounded.Statement (.hostReadCountWrite high) :=
  bounded_of_none rfl rfl
theorem Bounded.hostMemoryWrite (target : HostTarget) (value : Word) : Bounded.Statement (.hostMemoryWrite target value) :=
  bounded_of_none rfl rfl
theorem Bounded.powerUp (backupHeld : Bool) (seconds : DWord) (ms : Nat) : Bounded.Statement (.powerUp backupHeld seconds ms) :=
  bounded_of_none rfl rfl
theorem Bounded.pinReset : Bounded.Statement (.pinReset) :=
  bounded_of_none rfl rfl
theorem Bounded.arrival : Bounded.Statement (.arrival) :=
  bounded_of_none rfl rfl
theorem Bounded.tagFrame (bytes : List TagByte) : Bounded.Statement (.tagFrame bytes) :=
  bounded_of_none rfl rfl
theorem Bounded.tagByteGapTimeout : Bounded.Statement (.tagByteGapTimeout) :=
  bounded_of_none rfl rfl
theorem Bounded.boundaryEdge (edge : EdgeAt) : Bounded.Statement (.boundaryEdge edge) :=
  bounded_of_none rfl rfl
theorem Bounded.cabinAtGate : Bounded.Statement (.cabinAtGate) :=
  bounded_of_none rfl rfl
theorem Bounded.b4Falling : Bounded.Statement (.b4Falling) :=
  bounded_of_none rfl rfl
theorem Bounded.b5Rising : Bounded.Statement (.b5Rising) :=
  bounded_of_none rfl rfl
theorem Bounded.gInRising : Bounded.Statement (.gInRising) :=
  bounded_of_none rfl rfl
theorem Bounded.gOutRising : Bounded.Statement (.gOutRising) :=
  bounded_of_none rfl rfl
theorem Bounded.latchChange (active : Bool) : Bounded.Statement (.latchChange active) :=
  bounded_of_none rfl rfl
theorem Bounded.proofTimerExpiry : Bounded.Statement (.proofTimerExpiry) :=
  bounded_of_none rfl rfl
theorem Bounded.insertionTimeout : Bounded.Statement (.insertionTimeout) :=
  bounded_of_none rfl rfl
theorem Bounded.openLimActive (channel : Channel) (active : Bool) : Bounded.Statement (.openLimActive channel active) :=
  bounded_of_none rfl rfl
theorem Bounded.closedLimActive (channel : Channel) (active : Bool) : Bounded.Statement (.closedLimActive channel active) :=
  bounded_of_none rfl rfl
theorem Bounded.obstrActive (channel : Channel) (active : Bool) : Bounded.Statement (.obstrActive channel active) :=
  bounded_of_none rfl rfl
theorem Bounded.openTimeExpiry (channel : Channel) : Bounded.Statement (.openTimeExpiry channel) :=
  bounded_of_none rfl rfl
theorem Bounded.closeTimeExpiry (channel : Channel) : Bounded.Statement (.closeTimeExpiry channel) :=
  bounded_of_none rfl rfl
theorem Bounded.reverseTimeExpiry (channel : Channel) : Bounded.Statement (.reverseTimeExpiry channel) :=
  bounded_of_none rfl rfl
theorem Bounded.tachPulse (tach : Tach) : Bounded.Statement (.tachPulse tach) :=
  bounded_of_none rfl rfl
theorem Bounded.ropeWindowEnd (tension : Nat) : Bounded.Statement (.ropeWindowEnd tension) :=
  bounded_of_none rfl rfl
theorem Bounded.trackWindowEnd : Bounded.Statement (.trackWindowEnd) :=
  bounded_of_none rfl rfl
theorem Bounded.launchWindowEnd : Bounded.Statement (.launchWindowEnd) :=
  bounded_of_none rfl rfl
theorem Bounded.supervisorWindowEnd : Bounded.Statement (.supervisorWindowEnd) :=
  bounded_of_none rfl rfl
theorem Bounded.loopInputChange (loop : RopeLoop) (closed : Bool) : Bounded.Statement (.loopInputChange loop closed) :=
  bounded_of_none rfl rfl
theorem Bounded.loopTimerExpiry (loop : RopeLoop) : Bounded.Statement (.loopTimerExpiry loop) :=
  bounded_of_none rfl rfl
theorem Bounded.chainSenseChange (closed : Bool) : Bounded.Statement (.chainSenseChange closed) :=
  bounded_of_none rfl rfl
theorem Bounded.setupKeyChange (active : Bool) : Bounded.Statement (.setupKeyChange active) :=
  bounded_of_none rfl rfl
theorem Bounded.saveSetDone : Bounded.Statement (.saveSetDone) :=
  bounded_of_none rfl rfl
theorem Bounded.clockSecond : Bounded.Statement (.clockSecond) :=
  bounded_of_none rfl rfl
theorem Bounded.idleGapReached : Bounded.Statement (.idleGapReached) :=
  bounded_of_none rfl rfl
theorem Bounded.transmitAttempt : Bounded.Statement (.transmitAttempt) :=
  bounded_of_none rfl rfl
theorem Bounded.arbitrationLoss : Bounded.Statement (.arbitrationLoss) :=
  bounded_of_none rfl rfl
theorem Bounded.bitError : Bounded.Statement (.bitError) :=
  bounded_of_none rfl rfl
theorem Bounded.ackSlotOutcome (acknowledged : Bool) : Bounded.Statement (.ackSlotOutcome acknowledged) :=
  bounded_of_none rfl rfl
theorem Bounded.receiveError (sender : Option Nat) : Bounded.Statement (.receiveError sender) :=
  bounded_of_none rfl rfl
theorem Bounded.tripReceived (frame : RxFrame) : Bounded.Statement (.tripReceived frame) :=
  bounded_of_frame (f := frame) rfl rfl fun h => by simp_all [Instr.wellFormed]
theorem Bounded.statusReceived (frame : RxFrame) : Bounded.Statement (.statusReceived frame) :=
  bounded_of_frame (f := frame) rfl rfl fun h => by simp_all [Instr.wellFormed]
theorem Bounded.noteReceived (frame : RxFrame) : Bounded.Statement (.noteReceived frame) :=
  bounded_of_frame (f := frame) rfl rfl fun h => by simp_all [Instr.wellFormed]
theorem Bounded.pairReqReceived (frame : RxFrame) : Bounded.Statement (.pairReqReceived frame) :=
  bounded_of_frame (f := frame) rfl rfl fun h => by simp_all [Instr.wellFormed]
theorem Bounded.hookReceived (frame : RxFrame) : Bounded.Statement (.hookReceived frame) :=
  bounded_of_frame (f := frame) rfl rfl fun h => by simp_all [Instr.wellFormed]
theorem Bounded.otherFrameReceived (kind : Nat) (frame : RxFrame) : Bounded.Statement (.otherFrameReceived kind frame) :=
  bounded_of_frame (f := frame) rfl rfl fun h => by simp_all [Instr.wellFormed]
theorem Bounded.breakBegin (sender : Option Nat) : Bounded.Statement (.breakBegin sender) :=
  bounded_of_none rfl rfl
theorem Bounded.breakEnd : Bounded.Statement (.breakEnd) :=
  bounded_of_none rfl rfl
theorem Bounded.statusTimerExpiry : Bounded.Statement (.statusTimerExpiry) :=
  bounded_of_none rfl rfl
theorem Bounded.timeTimerExpiry : Bounded.Statement (.timeTimerExpiry) :=
  bounded_of_none rfl rfl
theorem Bounded.silenceTimerExpiry (address : Nat) : Bounded.Statement (.silenceTimerExpiry address) :=
  bounded_of_none rfl rfl
theorem Bounded.waitTimerExpiry (callId : Nat) : Bounded.Statement (.waitTimerExpiry callId) :=
  bounded_of_none rfl rfl
theorem Bounded.ringTimerExpiry (callId : Nat) : Bounded.Statement (.ringTimerExpiry callId) :=
  bounded_of_none rfl rfl
theorem Bounded.reannounceTimerExpiry : Bounded.Statement (.reannounceTimerExpiry) :=
  bounded_of_none rfl rfl
theorem Bounded.gripForceSample (force : Nat) : Bounded.Statement (.gripForceSample force) :=
  bounded_of_none rfl rfl
theorem Bounded.startBitReceived (recessive : Nat) : Bounded.Statement (.startBitReceived recessive) :=
  bounded_of_none rfl rfl
theorem Bounded.callViewTimerSecond : Bounded.Statement (.callViewTimerSecond) :=
  bounded_of_none rfl rfl

end Sys2Proof.Laws
end

