-- ==== Sys2Proof/Laws/UnitFrame.lean ====
section
/-! SUPPORT. The parts of the state that the operations of the station table, the line controller, the setup store,
the supervisor's orders and the order board can change. -/

namespace Sys2Proof.Machine

-- One lemma at a time, as in Laws/State.lean.
set_option Elab.async false

open Sys2Proof

section
variable (s : State)

/-! ## Stations -/

/-- What the station table can change: itself, and whatever a cause or a call changes. -/
abbrev stationParts : List Part := .stn :: causeParts

theorem tellStation_changes (a : Nat) (n : StationState) : ChangesOnly s lineParts (s.tellStation a n) := by
  unfold State.tellStation; split <;> first
    | exact stationUnavailable_changes s a
    | exact .refl _ _
theorem silentCause_changes (a : Nat) (o n : StationState) : ChangesOnly s causeParts (s.silentCause a o n) :=
  .ite (.ite (raiseCause_changes s ..) (.refl _ _)) (.ite ((endCause_changes s ..).weaken) (.refl _ _))
theorem setStation_changes (a : Nat) (n : StationState) (e : StationEvent) :
    ChangesOnly s stationParts (s.setStation a n e) := by
  unfold State.setStation; dsimp only
  exact ((((updStation_changes s ..).weaken).then (journal_changes _ ..)).then (tellStation_changes _ ..)).then
    (silentCause_changes _ ..)
theorem silenceExpires_changes (a : Nat) : ChangesOnly s stationParts (s.silenceExpires a) :=
  .ite (setStation_changes s ..) (.refl _ _)
/-- A timer is reached when it runs and its deadline is not later than the time base. -/
theorem timerReached_iff {now : Nat} {r : Timer} : timerReached now r = true ↔ ∃ d, r = some d ∧ d ≤ now := by
  cases r <;> simp [timerReached]
/-- Everything an expiry of a silence timer can do: SILENT at or after the deadline, nothing otherwise (R112). -/
theorem silenceExpires_cases (a : Nat) :
    (∃ d, (s.stationRec a).timer = some d ∧ d ≤ s.now ∧ s.silenceExpires a = s.setStation a .silent .timeout) ∨
      ((∀ d, (s.stationRec a).timer = some d → s.now < d) ∧ s.silenceExpires a = s) := by
  unfold State.silenceExpires
  split
  · next h => obtain ⟨d, hd, hn⟩ := timerReached_iff.mp h; exact .inl ⟨d, hd, hn, rfl⟩
  · next h => exact .inr ⟨fun d hd => Nat.lt_of_not_le fun hn => h (timerReached_iff.mpr ⟨d, hd, hn⟩), rfl⟩
theorem stationsBreakBegin_changes : ChangesOnly s [.stn] s.stationsBreakBegin := updStn_changes s _
theorem stationsBreakEnd_changes : ChangesOnly s [.stn] s.stationsBreakEnd :=
  .foldl (fun t _ => updStation_changes t ..) _ s
theorem hear_changes (a : Nat) : ChangesOnly s [.stn] (s.hear a) :=
  (updStation_changes s ..).then (updHeld_changes _ _)
theorem noteUnexpected_changes (a : Nat) : ChangesOnly s [.stn, .journal, .news] (s.noteUnexpected a) :=
  .ite (.refl _ _) (((updStation_changes s ..).weaken).then (journal_changes _ ..))
theorem frameState_changes (a : Nat) (r : Bool) : ChangesOnly s stationParts (s.frameState a r) := by
  unfold State.frameState; split
  · exact setStation_changes s ..
  · exact (updStation_changes s ..).weaken
  · exact .ite (setStation_changes s ..) (.refl _ _)
  · exact .refl _ _
theorem stationFrame_changes (a : Nat) (r : Bool) : ChangesOnly s stationParts (s.stationFrame a r) := by
  unfold State.stationFrame; dsimp only
  exact .ite (((hear_changes s a).weaken).then (frameState_changes _ ..))
    (((hear_changes s a).weaken).then (noteUnexpected_changes _ _))
theorem sheaveFollow_changes (a n : Nat) (r : SheaveState) : ChangesOnly s stationParts (s.sheaveFollow a n r) := by
  unfold State.sheaveFollow; dsimp only
  exact .ite (((updStation_changes s ..).weaken).then (raiseCause_changes _ ..))
    (.ite (((updStation_changes s ..).weaken).then (endCause_changes _ ..)) ((updStation_changes s ..).weaken))
theorem requestRaise_changes (a : Nat) (c : Category) (b d : Bool) :
    ChangesOnly s causeParts (s.requestRaise a c b d) := .ite (raiseCause_changes s ..) (.refl _ _)
theorem requestEnd_changes (a : Nat) (c : Category) (b d : Bool) :
    ChangesOnly s supervisorParts (s.requestEnd a c b d) := .ite (endCause_changes s ..) (.refl _ _)
theorem faultChange_changes (a : Nat) (b d : Bool) : ChangesOnly s [.journal, .news] (s.faultChange a b d) :=
  .ite (.refl _ _) (journal_changes s ..)
theorem takeStatus_changes (a : Nat) (b d : Byte) : ChangesOnly s stationParts (s.takeStatus a b d) := by
  unfold State.takeStatus; dsimp only
  have h := (updStation_changes s a (recordStatus (s.sst.active.line.sheaveCount a) b d)).weaken (ps := stationParts)
  have h2 : ∀ xs : List (Nat × SheaveState), ChangesOnly s stationParts
      (xs.foldl (fun t p => t.sheaveFollow a p.1 p.2)
        (s.updStation a (recordStatus (s.sst.active.line.sheaveCount a) b d))) :=
    fun xs => h.then (ChangesOnly.foldl (ps := stationParts) (fun t p => sheaveFollow_changes t a p.1 p.2) xs _)
  split
  · exact .refl _ _
  · split
    · exact h
    · exact (((((h2 _).then (requestRaise_changes _ ..)).then (requestRaise_changes _ ..)).then
        (requestEnd_changes _ ..)).then (requestEnd_changes _ ..)).then (faultChange_changes _ ..)
theorem addRequest_changes (a : Nat) (c : Category) : ChangesOnly s stationParts (s.addRequest a c) := by
  unfold State.addRequest; dsimp only
  exact .ite (((updStation_changes s ..).weaken).then (requestRaise_changes _ ..))
    (((updStation_changes s ..).weaken).then (requestRaise_changes _ ..))
theorem takeTrip_changes (a : Nat) (b d : Byte) : ChangesOnly s stationParts (s.takeTrip a b d) := by
  unfold State.takeTrip; dsimp only
  exact .ite (.refl _ _) ((ChangesOnly.when (addRequest_changes s ..)).then (journal_changes _ ..))
theorem endStationCauses_changes (a : Nat) :
    ChangesOnly s (.stn :: supervisorParts) (s.endStationCauses a) := by
  unfold State.endStationCauses; dsimp only
  have h : ∀ (xs : List Nat) (t : State), ChangesOnly t supervisorParts
      (xs.foldl (fun t i => t.endCause .rpdRemote (sheaveIndex a i)) t) :=
    fun xs t => .foldl (fun t _ => endCause_changes t ..) xs t
  exact (((((updStation_changes s ..).weaken).then (endCause_changes _ ..)).then (h _ _)).then
    (endCause_changes _ ..)).then (endCause_changes _ ..)
theorem excludeStation_changes (a : Nat) : ChangesOnly s stationParts (s.excludeStation a).1 := by
  unfold State.excludeStation; repeat' split
  all_goals first
    | exact .refl _ _
    | (dsimp only; exact ((setStation_changes s ..).then (endStationCauses_changes _ _)).then
        (.when (raiseCause_changes _ ..)))
theorem exclusionFollow_changes : ChangesOnly s supervisorParts s.exclusionFollow :=
  .ite (endCause_changes s ..) (.refl _ _)
theorem includeStation_changes (a : Nat) : ChangesOnly s stationParts (s.includeStation a).1 := by
  unfold State.includeStation; repeat' split
  all_goals first
    | exact .refl _ _
    | exact ((setStation_changes s ..).then (updStation_changes _ ..)).then (exclusionFollow_changes _)
theorem stationAppears_changes (a : Nat) : ChangesOnly s [.stn] (s.stationAppears a) := by
  unfold State.stationAppears; dsimp only; exact (updStation_changes s ..).then (updHeld_changes _ _)
theorem stationVanishes_changes (a : Nat) : ChangesOnly s stationParts (s.stationVanishes a) := by
  unfold State.stationVanishes; dsimp only
  have h : ChangesOnly s stationParts
      (if (s.stationRec a).state = .unheard then s.updStation a fun r => { r with timer := none }
       else s.setStation a .unheard .adoption) :=
    .ite ((updStation_changes s ..).weaken) (setStation_changes s ..)
  exact ((h.then (stationUnavailable_changes _ _)).then (endStationCauses_changes _ _)).then (updStation_changes _ ..)
theorem dropSheaves_changes (a o n : Nat) : ChangesOnly s (.stn :: supervisorParts) (s.dropSheaves a o n) :=
  .foldl (fun t _ => ((updStation_changes t a _).weaken (ps := .stn :: supervisorParts)).then
    (endCause_changes _ ..)) _ s
theorem stationStays_changes (o : LinePlan) (a : Nat) : ChangesOnly s stationParts (s.stationStays o a) := by
  unfold State.stationStays; dsimp only
  have h := (dropSheaves_changes s a (o.sheaveCount a) (s.sst.active.line.sheaveCount a)).weaken (ps := stationParts)
  exact .ite (.ite (h.then (raiseCause_changes _ ..)) (.ite (h.then (endCause_changes _ ..)) h)) h
theorem stationPlan_changes (o : LinePlan) (a : Nat) : ChangesOnly s stationParts (s.stationPlan o a) := by
  unfold State.stationPlan; split
  · exact (stationAppears_changes s a).weaken
  · exact stationVanishes_changes s a
  · exact stationStays_changes s ..
  · exact .refl _ _
theorem stationsUpdate_changes (o : LinePlan) : ChangesOnly s stationParts (s.stationsUpdate o) :=
  (ChangesOnly.foldl (fun t a => stationPlan_changes t o a) _ s).then (.when (exclusionFollow_changes _))

/-! ## Line controller -/

/-- What the outcome of an attempt can change. -/
abbrev attemptParts : List Part := .stn :: lineParts

theorem enterLine_changes (l : LineState) (a b : Nat) : ChangesOnly s [.lnc] (s.enterLine l a b) := updLnc_changes s _
theorem endReception_changes : ChangesOnly s [.lnc] s.endReception := .ite (enterLine_changes s ..) (.refl _ _)
theorem periodicEnd_changes (f : TxFrame) : ChangesOnly s [.lnc] (s.periodicEnd f) :=
  .ite (updLnc_changes s _) (unqueue_changes s _)
theorem dropUndelivered_changes (f : TxFrame) : ChangesOnly s attemptParts (s.dropUndelivered f) := by
  unfold State.dropUndelivered; dsimp only
  have h1 : ChangesOnly s attemptParts ((s.unqueue f.fid).when (addressOk f.dest) (·.updStation f.dest fun r =>
      { r with undelivered := r.undelivered + 1 })) :=
    ((unqueue_changes s f.fid).weaken).then (.when (updStation_changes _ ..))
  have h := (h1.then
    (journal_changes _ .lineUndelivered .lnc 0 [byteOf f.kind.code, byteOf f.dest, byteOf (f.retry + 1), 1])).then
    (pairUndelivered_changes _ f.kind)
  split
  · exact h
  · exact h.then (completeOrder_changes _ ..)
theorem attemptFailed_changes (f : TxFrame) (n : Nat) :
    ChangesOnly s attemptParts (s.attemptFailed f n) :=
  .ite ((periodicEnd_changes s f).weaken) (.ite ((updLnc_changes s _).weaken) (dropUndelivered_changes s f))
theorem attemptDelivered_changes (f : TxFrame) : ChangesOnly s attemptParts (s.attemptDelivered f) := by
  unfold State.attemptDelivered; dsimp only
  have h : ChangesOnly s attemptParts
      (if f.kind.periodic = true then (s.updLnc fun l => { l with sent := l.sent + 1 }).periodicEnd f
       else (s.updLnc fun l => { l with sent := l.sent + 1 }).unqueue f.fid) :=
    .ite (((updLnc_changes s _).weaken).then (periodicEnd_changes _ f))
      (((updLnc_changes s _).weaken).then (unqueue_changes _ _))
  split
  · exact h
  · exact h.then (completeOrder_changes _ ..)
theorem idleGap_changes : ChangesOnly s attemptParts s.idleGap := by
  unfold State.idleGap; split
  · dsimp only
    split
    · exact ((enterLine_changes s ..).then (updLnc_changes _ _)).weaken
    · exact (((enterLine_changes s ..).weaken).then (updLnc_changes _ _)).then (attemptFailed_changes _ ..)
  · exact .refl _ _
theorem startBit_changes (n : Nat) : ChangesOnly s [.lnc] (s.startBit n) := by
  unfold State.startBit; split
  · exact updLnc_changes s _
  · exact .ite (updLnc_changes s _) (updLnc_changes s _)
  · exact .refl _ _
theorem transmit_changes : ChangesOnly s [.lnc] s.transmit := by
  unfold State.transmit; split
  · split
    · exact .refl _ _
    · exact updLnc_changes s _
  · exact .refl _ _
theorem loseArbitration_changes : ChangesOnly s [.lnc] s.loseArbitration := .ite (updLnc_changes s _) (.refl _ _)
theorem bitErrorCut_changes : ChangesOnly s [.lnc] s.bitErrorCut :=
  .ite ((updLnc_changes s _).then (enterLine_changes _ ..)) (.refl _ _)
theorem ackOutcome_changes (b : Bool) : ChangesOnly s attemptParts (s.ackOutcome b) := by
  unfold State.ackOutcome; split
  · dsimp only
    split
    · exact ((updLnc_changes s _).then (enterLine_changes _ ..)).weaken
    · exact (((updLnc_changes s _).weaken).then (enterLine_changes _ ..)).then
        (.ite (attemptDelivered_changes _ _) (attemptFailed_changes _ ..))
  · exact .refl _ _
theorem countReceiveError_changes (a : Option Nat) : ChangesOnly s [.stn, .lnc] (s.countReceiveError a) := by
  unfold State.countReceiveError; split
  · exact .ite ((updStation_changes s ..).weaken) ((updLnc_changes s _).weaken)
  · exact (updLnc_changes s _).weaken
theorem receiveError_changes (a : Option Nat) : ChangesOnly s [.stn, .lnc] (s.receiveError a) :=
  (countReceiveError_changes s a).then (endReception_changes _)
theorem receive_changes (f : RxFrame) (r : Bool) (g : State → State) (h : ∀ t, ChangesOnly t stationParts (g t)) :
    ChangesOnly s stationParts (s.receive f r g) :=
  .ite ((receiveError_changes s _).weaken) (.ite ((endReception_changes s).weaken)
    (((((updLnc_changes s _).weaken).then (stationFrame_changes _ ..)).then (.when (h _))).then
      (endReception_changes _)))
theorem receiveStatus_changes (f : RxFrame) : ChangesOnly s stationParts (s.receiveStatus f) := by
  unfold State.receiveStatus; split
  · exact receive_changes s _ _ _ fun t => takeStatus_changes t ..
  · exact receive_changes s _ _ _ fun t => .refl t _
theorem receiveTrip_changes (f : RxFrame) : ChangesOnly s stationParts (s.receiveTrip f) := by
  unfold State.receiveTrip; split
  · exact receive_changes s _ _ _ fun t => takeTrip_changes t ..
  · exact receive_changes s _ _ _ fun t => .refl t _
theorem receiveNote_changes (f : RxFrame) : ChangesOnly s stationParts (s.receiveNote f) := by
  unfold State.receiveNote; split
  · exact receive_changes s _ _ _ fun t => .ite ((journal_changes t ..).weaken) (.refl _ _)
  · exact receive_changes s _ _ _ fun t => .refl t _
theorem receivePairReq_changes (f : RxFrame) : ChangesOnly s stationParts (s.receivePairReq f) := by
  unfold State.receivePairReq; split
  · exact receive_changes s _ _ _ fun t => (pairRequest_changes t ..).weaken
  · exact receive_changes s _ _ _ fun t => .refl t _
theorem receiveHook_changes (f : RxFrame) : ChangesOnly s stationParts (s.receiveHook f) := by
  unfold State.receiveHook; split
  · exact receive_changes s _ _ _ fun t => (hookFrame_changes t ..).weaken
  · exact receive_changes s _ _ _ fun t => .refl t _
theorem callsBreakBegin_changes : ChangesOnly s [.cal] s.callsBreakBegin := updCal_changes s _
theorem callsBreakEnd_changes : ChangesOnly s lineParts s.callsBreakEnd :=
  ((updCal_changes s _).weaken).then (announcePair_changes _)
theorem beginBreak_changes (a : Option Nat) : ChangesOnly s stationParts (s.beginBreak a) := by
  unfold State.beginBreak; dsimp only
  exact .ite (.refl _ _) (((((((updLnc_changes s _).weaken).then (enterLine_changes _ ..)).then
    (raiseCause_changes _ ..)).then (.when (countReceiveError_changes _ _))).then
    (stationsBreakBegin_changes _)).then (callsBreakBegin_changes _))
theorem endBreak_changes : ChangesOnly s stationParts s.endBreak :=
  .ite (((((enterLine_changes s ..).weaken).then (endCause_changes _ ..)).then (stationsBreakEnd_changes _)).then
    (callsBreakEnd_changes _)) (.refl _ _)
theorem statusPeriod_changes : ChangesOnly s lineParts s.statusPeriod :=
  ((updLnc_changes s _).weaken).then (askPeriodic_changes _ _)
theorem timePeriod_changes : ChangesOnly s lineParts s.timePeriod :=
  ((updLnc_changes s _).weaken).then (askPeriodic_changes _ _)
theorem startNote_changes (k d : Nat) (c : Word) (x : List Byte) : ChangesOnly s [.lnc] (s.startNote k d c x) :=
  enqueue_changes s ..
theorem waitExpires_changes (i : Nat) : ChangesOnly s lineParts (s.waitExpires i) := by
  unfold State.waitExpires; split
  · exact .refl _ _
  · exact .ite (endCall_changes s ..) (.refl _ _)
theorem ringExpires_changes (i : Nat) : ChangesOnly s lineParts (s.ringExpires i) := by
  unfold State.ringExpires; split
  · exact .refl _ _
  · exact .ite (endCall_changes s ..) (.refl _ _)
theorem reannounceExpires_changes : ChangesOnly s lineParts s.reannounceExpires :=
  .ite (((updCal_changes s _).weaken).then (announcePair_changes _)) (.refl _ _)
theorem callSeconds_changes : ChangesOnly s [.cal] s.callSeconds := updCal_changes s _

/-! ## Setup store -/

/-- What adopting or loading tables can change. -/
abbrev setupParts : List Part := .sst :: stationParts

theorem usersTake_changes (o : Tables) (k : Nat) : ChangesOnly s stationParts (s.usersTake o k) := by
  unfold State.usersTake; split <;> first
    | exact (recomputeCeiling_changes s).weaken
    | exact stationsUpdate_changes s _
    | exact .refl _ _
theorem adoptCopy_changes (k : Nat) (f : List (Nat × Finding)) (c : Tables) :
    ChangesOnly s setupParts (s.adoptCopy k f c) := by
  unfold State.adoptCopy; dsimp only
  exact (((updSst_changes s _).weaken).then (journal_changes _ ..)).then (usersTake_changes _ ..)
theorem adopt_changes (k : Nat) : ChangesOnly s setupParts (s.adopt k).1 := by
  unfold State.adopt; dsimp only; repeat' split
  all_goals first
    | exact .refl _ _
    | exact adoptCopy_changes s ..
theorem changeLock_changes (f : Lock → Except ResultCode Lock) (k : Nat) :
    ChangesOnly s [.sst] (s.changeLock f k).1 := by
  unfold State.changeLock; split
  · dsimp only; exact updSst_changes s _
  · exact .refl _ _
theorem changeLocks_changes (f : Lock → Except ResultCode Lock) : ChangesOnly s [.sst] (s.changeLocks f).1 := by
  have h : ∀ (ks : List Nat) (p : State × OrderResult), ChangesOnly p.1 [.sst]
      (ks.foldl (fun (p : State × OrderResult) k =>
        let q := p.1.changeLock f k
        (q.1, if p.2.done then q.2 else p.2)) p).1 := by
    intro ks
    induction ks with
    | nil => exact fun p => .refl _ _
    | cons k ks ih =>
      intro p
      rw [List.foldl_cons]
      exact (changeLock_changes p.1 f k).then (qs := [.sst])
        (ih ((p.1.changeLock f k).1, if p.2.done then (p.1.changeLock f k).2 else p.2))
  exact h _ (s, resultOk)
theorem unlock_changes (k : Nat) : ChangesOnly s [.sst] (s.unlock k).1 := by
  unfold State.unlock; split
  · exact changeLocks_changes s _
  · split
    · exact .refl _ _
    · exact changeLock_changes s ..
theorem lock_changes (k l : Nat) : ChangesOnly s [.sst] (s.lock k l).1 := by
  unfold State.lock; split
  · exact .refl _ _
  · dsimp only; split
    · exact changeLocks_changes s _
    · exact changeLock_changes s ..
theorem keyChange_changes (b : Bool) : ChangesOnly s [.pins, .sst] (s.keyChange b) := by
  unfold State.keyChange; dsimp only
  exact .ite ((updPins_changes s _).weaken) (((updPins_changes s _).weaken).then (updSst_changes _ _))
theorem startSave_changes (k n : Nat) : ChangesOnly s [.sst] (s.startSave k n) := updSst_changes s _
theorem saveDone_changes : ChangesOnly s (.sst :: completionParts) s.saveDone := by
  unfold State.saveDone; split
  · exact .refl _ _
  · exact (((updSst_changes s _).weaken).then (journal_changes _ ..)).then (completeOrder_changes _ ..)
theorem loadSet_changes (n : Nat) : ChangesOnly s setupParts (s.loadSet n).1 := by
  unfold State.loadSet; dsimp only; repeat' split
  all_goals first
    | exact .refl _ _
    | exact (((updSst_changes s _).weaken).then (journal_changes _ ..)).then (qs := stationParts)
        (.foldl (fun t k => usersTake_changes t _ k) _ _)
theorem setClock_changes (n : DWord) : ChangesOnly s [.sst, .journal, .news] (s.setClock n).1 :=
  ((updSst_changes s _).weaken).then (journal_changes _ ..)
theorem clockSecond_changes : ChangesOnly s [.sst] s.clockSecond := updSst_changes s _

/-! ## Supervisor -/

theorem startOrder_changes : ChangesOnly s supervisorParts s.startOrder.1 := by
  unfold State.startOrder; repeat' split
  all_goals first
    | exact .refl _ _
    | exact changeState_changes s ..
theorem resumeOrder_changes : ChangesOnly s causeParts s.resumeOrder.1 := by
  unfold State.resumeOrder; repeat' split
  all_goals first
    | exact .refl _ _
    | (dsimp only; exact ((changeState_changes s ..).weaken).then (.when (raiseCause_changes _ ..)))
theorem setOperatorCeiling_changes (v : Nat) : ChangesOnly s [.msv] (s.setOperatorCeiling v) :=
  (updMsv_changes s _).then (recomputeCeiling_changes _)
theorem setCeiling_changes (v : Nat) : ChangesOnly s [.msv] (s.setCeiling v).1 := by
  unfold State.setCeiling; dsimp only
  split
  · exact .refl _ _
  · split
    · exact setOperatorCeiling_changes s _
    · exact setOperatorCeiling_changes s _
theorem ackOrder_changes (n c : Nat) : ChangesOnly s supervisorParts (s.ackOrder n c).1 := by
  unfold State.ackOrder; split
  · exact ackAll_changes s
  · exact ackSlot_changes s ..
theorem chainSenseChange_changes (b : Bool) : ChangesOnly s (.pins :: causeParts) (s.chainSenseChange b) := by
  unfold State.chainSenseChange; dsimp only
  have h := ((updPins_changes s fun p => { p with chainSense := b }).weaken (ps := .pins :: causeParts)).then
    (setNews_changes _ .chain)
  exact .ite (.refl _ _) (.ite (h.then (endCause_changes _ ..)) (h.then (.when (raiseCause_changes _ ..))))
theorem endSpeed_changes (c : CauseCode) : ChangesOnly s supervisorParts (s.endSpeed c) :=
  .ite (((updMsv_changes s _).weaken).then (endCause_changes _ ..)) (.refl _ _)
theorem speedTest_changes : ChangesOnly s causeParts s.speedTest := by
  unfold State.speedTest; split
  · dsimp only
    exact .ite ((((updMsv_changes s _).weaken).then (updMsv_changes _ _)).then (raiseCause_changes _ ..))
      ((updMsv_changes s _).weaken)
  · exact ((((updMsv_changes s _).weaken).then (endSpeed_changes _ _)).then (endSpeed_changes _ _)).then
      (endSpeed_changes _ _)
theorem stopEnd_changes : ChangesOnly s supervisorParts s.stopEnd := .ite (changeState_changes s ..) (.refl _ _)
theorem watchEnd_changes : ChangesOnly s [.msv] s.watchEnd := by
  unfold State.watchEnd; split
  · exact .refl _ _
  · exact updMsv_changes s _
theorem ramp_changes : ChangesOnly s [.msv] s.ramp :=
  .ite ((updMsv_changes s _).then (updMsv_changes _ _)) (.refl _ _)
theorem supervisorWindow_changes : ChangesOnly s causeParts s.supervisorWindow :=
  (((speedTest_changes s).then (stopEnd_changes _)).then (watchEnd_changes _)).then (ramp_changes _)

/-! ## Order board -/

/-- What an order can change: everything but the time base, the pins, the rope monitor and the host port. -/
abbrev orderParts : List Part :=
  [.trk, .fleet, .ddu, .lch, .lnc, .stn, .cal, .msv, .sst, .mem, .news, .journal, .contexts]

theorem runShort_changes (o : Order) : ChangesOnly s orderParts (s.runShort o).1 := by
  unfold State.runShort; split
  · exact (startOrder_changes s).weaken
  · exact (operatorCause_changes s ..).weaken
  · exact (operatorCause_changes s ..).weaken
  · exact (resumeOrder_changes s).weaken
  · exact (setCeiling_changes s _).weaken
  · exact (ackOrder_changes s ..).weaken
  · split
    · exact .refl _ _
    · exact (rebuild_changes s _).weaken
  · exact (barCabin_changes s _).weaken
  · exact (unbarCabin_changes s _).weaken
  · exact (garageCabin_changes s _).weaken
  · exact (setDriveMode_changes s ..).weaken
  · exact (haltDrive_changes s _).weaken
  · exact (excludeStation_changes s _).weaken
  · exact (includeStation_changes s _).weaken
  · exact (answerCall_changes s _).weaken
  · exact (hangUpCall_changes s _).weaken
  · exact (adopt_changes s _).weaken
  · exact (unlock_changes s _).weaken
  · exact (lock_changes s ..).weaken
  · exact (loadSet_changes s _).weaken
  · exact (setClock_changes s _).weaken
  all_goals exact .refl _ _
theorem startLong_changes (k : Nat) (o : Order) : ChangesOnly s orderParts (s.startLong k o) := by
  unfold State.startLong; split
  · exact (startRelease_changes s ..).weaken
  · exact (startStrokeOrder_changes s ..).weaken
  · exact (startNote_changes s ..).weaken
  · exact (placeCall_changes s ..).weaken
  · exact (startSave_changes s ..).weaken
  · exact .refl _ _
theorem takeContext_changes (k n : Nat) (o : Order) : ChangesOnly s [.contexts, .mem] (s.takeContext k n o) :=
  (((setContexts_changes s _).weaken).then (updHeld_changes _ _)).then (setSlipState_changes _ ..)
theorem dispatchLong_changes (n : Nat) (o : Order) : ChangesOnly s orderParts (s.dispatchLong n o) := by
  unfold State.dispatchLong; repeat' split
  all_goals first
    | exact .refl _ _
    | exact (writeResult_changes s ..).weaken
    | exact ((takeContext_changes s ..).weaken).then (startLong_changes _ ..)
/-- An order leaves the time base, the pins, the rope monitor and the host port unchanged. -/
theorem dispatch_changes (n : Nat) (o : Order) : ChangesOnly s orderParts (s.dispatch n o) := by
  unfold State.dispatch; dsimp only
  exact .ite ((writeResult_changes s ..).weaken) (.ite (dispatchLong_changes s ..)
    ((runShort_changes s o).then (writeResult_changes _ ..)))

theorem disarm_changes : ChangesOnly s [.port] s.disarm :=
  ⟨fun p hp => by cases p <;> simp_all [Part.same, BoardOnly, State.disarm]⟩
theorem arm_changes : ChangesOnly s [.port] s.arm :=
  ⟨fun p hp => by cases p <;> simp_all [Part.same, BoardOnly, State.arm]⟩
theorem takeSlip_changes (k : Nat) (ks : List Nat) : ChangesOnly s (.port :: orderParts) (s.takeSlip k ks) := by
  unfold State.takeSlip; dsimp only
  have h := (ChangesOnly.foldl (fun t k => writeResult_changes t k (refusal .duplicateTicket)) ks s).weaken
    (ps := .port :: orderParts)
  have h2 : ∀ t : State, ChangesOnly t [.port] (t.updObc fun b => { b with nextTicket := b.nextTicket + 1 }) :=
    fun t => ⟨fun p hp => by cases p <;> simp_all [Part.same, BoardOnly]⟩
  refine ChangesOnly.then ?_ (h2 _)
  split
  · exact h.then (writeResult_changes _ ..)
  · exact h.then (dispatch_changes _ ..)
theorem taking_changes (n : Nat) : ∀ s, ChangesOnly s (.port :: orderParts) (State.taking n s) := by
  induction n with
  | zero => exact fun s => .refl _ _
  | succ n ih =>
    intro s
    unfold State.taking; split
    · exact .refl _ _
    · exact (takeSlip_changes s ..).then (ih _)
theorem storeWord_changes (a : Nat) (v : Word) : ChangesOnly s [.mem, .cells] (s.storeWord a v) := updMem_changes s _

end

end Sys2Proof.Machine
end

