-- ==== Sys2Proof/Tests/Slice0.lean ====
section
/-! SUPPORT. Our own tests: ill-formed commands are refused by `wellFormed`; one step gives what a worked example of the
spec gives; and for every statement with hypotheses, states and operands that meet them. -/

namespace Sys2Proof.Tests

-- One theorem at a time: each `decide +kernel` would else wait for the earlier ones on a thread of its own.
set_option Elab.async false

open Sys2Proof Sys2Proof.Machine

/-! ## Well-formedness: for each check an ill-formed command that it refuses, beside the last one it lets through -/

theorem test_wellFormed_slip : (Instr.start 32).wellFormed = false ∧ (Instr.start 31).wellFormed = true := by decide

theorem test_wellFormed_byte : (Instr.barCabin 0 256).wellFormed = false ∧ (Instr.barCabin 0 255).wellFormed = true ∧
    (Instr.lock 0 0 256).wellFormed = false ∧ (Instr.ackCause 0 256 0).wellFormed = false := by decide

theorem test_wellFormed_ceiling :
    (Instr.setCeiling 0 65536).wellFormed = false ∧ (Instr.setCeiling 0 65535).wellFormed = true := by decide

theorem test_wellFormed_pairs : (Instr.rebuildTrack 0 [(1, 256)]).wellFormed = false ∧
    (Instr.rebuildTrack 0 [(96, 5)]).wellFormed = true := by decide

theorem test_wellFormed_clock :
    (Instr.powerUp true 0 1000).wellFormed = false ∧ (Instr.powerUp true 0 999).wellFormed = true := by decide

theorem test_wellFormed_tag : (Instr.tagFrame []).wellFormed = false ∧
    (Instr.tagFrame (List.replicate 5 ⟨0, true⟩)).wellFormed = false ∧
    (Instr.tagFrame (List.replicate 4 ⟨0, true⟩)).wellFormed = true := by decide

theorem test_wellFormed_tension :
    (Instr.ropeWindowEnd 4096).wellFormed = false ∧ (Instr.ropeWindowEnd 4095).wellFormed = true := by decide

theorem test_wellFormed_force :
    (Instr.gripForceSample 1024).wellFormed = false ∧ (Instr.gripForceSample 1023).wellFormed = true := by decide

theorem test_wellFormed_frame : (Instr.tripReceived ⟨0, 15, []⟩).wellFormed = false ∧
    (Instr.tripReceived ⟨14, 15, []⟩).wellFormed = false ∧ (Instr.tripReceived ⟨13, 14, []⟩).wellFormed = false ∧
    (Instr.tripReceived ⟨13, 16, []⟩).wellFormed = false ∧
    (Instr.noteReceived ⟨1, 0, List.replicate 17 0⟩).wellFormed = false ∧
    (Instr.noteReceived ⟨1, 0, List.replicate 16 0⟩).wellFormed = true := by decide

theorem test_wellFormed_kind : (Instr.otherFrameReceived 16 ⟨1, 15, []⟩).wellFormed = false ∧
    (Instr.otherFrameReceived 15 ⟨1, 15, []⟩).wellFormed = true := by decide

theorem test_wellFormed_sender : (Instr.receiveError (some 16)).wellFormed = false ∧
    (Instr.breakBegin (some 15)).wellFormed = true ∧ (Instr.breakBegin none).wellFormed = true := by decide

theorem test_wellFormed_address : (Instr.silenceTimerExpiry 0).wellFormed = false ∧
    (Instr.silenceTimerExpiry 14).wellFormed = false ∧ (Instr.silenceTimerExpiry 13).wellFormed = true := by decide

theorem test_wellFormed_call : (Instr.ringTimerExpiry 0).wellFormed = false ∧
    (Instr.waitTimerExpiry 256).wellFormed = false ∧ (Instr.waitTimerExpiry 255).wellFormed = true := by decide

theorem test_wellFormed_offset : (Instr.hostMemoryWrite (.memory 0x8000) 0).wellFormed = false ∧
    (Instr.hostMemoryWrite (.memory 0x101) 0).wellFormed = false ∧
    (Instr.hostMemoryWrite (.memory 0x7FFE) 0).wellFormed = true ∧
    (Instr.hostMemoryWrite .control 0x5A).wellFormed = true := by decide

/-! ## One step on a small state, with the figures of the spec's worked examples -/

/-- The state that a command leaves. -/
def after (i : Instr) (s : State) : State :=
  match exec i s with
  | .next t => t
  | _ => State.reset

/-- An entry that has run exactly half of a 10 m zone. -/
def ent (uid cabin zone : Nat) (door : DoorState := .latched) (travel : Nat := 5000000) : TrackEntry :=
  { uid := uid, cabin := cabin, zone := zone, travel := travel, door := door, missedByCloser := false
    gateServed := false, atGate := false, ownBarred := false, arrivalDist := 0, overdue := false, waiver := false }

/-- The part in RUN with an empty cause list, the track TRACKING with these entries. -/
def runs (entries : List TrackEntry) : State :=
  { State.reset with
    trk := { state := .tracking, entries := entries, nextUid := 100 }
    msv := { state := .run, chainOut := true, target := 150, ceiling := 150, speedRef := 4095 }
    lch := { z3Count := entries.countP (·.zone = 3) } }

/-- A registry in which cabin 17 has tag 0x0011 and cabin 96 tag 0x1234. -/
def registry : List RegEntry := ((List.replicate 96 {}).set 16 ⟨true, 0x0011⟩).set 95 ⟨true, 0x1234⟩

/-- The zone plan of section 1.10. -/
def zones110 : ZonePlan :=
  { len := [1500, 1200, 1200, 1000, 1000, 1000], ratio := [150, 67, 67, 100, 100, 100], arrivalMin := 5000 }

/-- The line plan of sections 6.7 and 7.9: towers 4, 7, 9, 11 and the summit, with the automatic trip call. -/
def line67 : LinePlan :=
  { tripCallEnable := true, entryCount := 5
    stations := [⟨4, 0, 2, 2500⟩, ⟨7, 0, 2, 2500⟩, ⟨9, 0, 2, 2500⟩, ⟨11, 0, 2, 2500⟩, ⟨13, 1, 0, 2500⟩] }

/-- The track of section 1.10 after window `w` = 120, with the registry above and the door plan of 2.10. -/
def two : State :=
  { runs [ent 1 17 0 .latched 10800000] with
    rpm := { dist := 1272000, dWin := 600003, v := 600 }
    sst := { active := { zone := zones110, registry := registry, line := line67 } } }

/-- Section 1.10: the second arrival, 72 000 mm behind the first, is not bunched; one 49 999 mm behind is (R9). -/
theorem test_arrival :
    let s := { two with trk := { two.trk with lastArrival := some 1200000 } }
    let t := after .arrival s
    t.trk.entries.map (·.place) = [(1, 17, 0, 10800000, false, false), (100, 0, 0, 0, false, false)] ∧
      t.trk.lastArrival = some 1272000 ∧ t.trk.window = some ⟨100, false⟩ ∧ t.msv.causes = [] ∧
      (after .arrival { s with rpm := { s.rpm with dist := 1249999 } }).msv.causes.map (·.code) = [.arrivalBunched] := by
  decide +kernel

/-- Section 1.10: B1 after 60 windows is chatter at 5 400 000 µm, and a match at 15 030 000 µm, which moves cabin 17
and engages D0 (R14). -/
theorem test_boundary :
    (after (.boundaryEdge .b1) (runs [ent 1 17 0 .latched 4999999])).trk.entries.map (·.zone) = [0] ∧
      (let s := { two with trk := { two.trk with entries := [ent 1 17 0 .latched 5400000] } }
       (after (.boundaryEdge .b1) s).trk.entries = s.trk.entries) ∧
      (let s := { two with trk := { two.trk with entries := [ent 1 17 0 .latched 15030000] }
                           ddu := { two.ddu with d0 := { mode := .auto } } }
       let t := after (.boundaryEdge .b1) s
       t.trk.entries.map (fun e => (e.cabin, e.zone, e.travel, e.door)) = [(17, 1, 0, .opening)] ∧
         t.ddu.d0.engaged = some 1) := by decide +kernel

/-- Section 1.10: a window adds 90 000 µm in Z0 and 40 200 µm in Z1; at 18 810 000 µm in Z0 cabin 17 is overdue (R18,
R19). -/
theorem test_travel :
    let s := { two with trk := { two.trk with entries :=
      [ent 1 42 3 .latched 0, ent 2 17 1 .latched 4824000, ent 3 17 0 .latched 18720000] } }
    let t := after .trackWindowEnd s
    t.trk.entries.map (fun e => (e.travel, e.overdue)) = [(0, false), (4864200, false), (18810000, true)] ∧
      t.msv.causes.map (fun c => (c.code, c.index)) = [(.overdue, 17)] := by decide +kernel

/-- Section 2.10: the close of D1 for cabin 23 as its third attempt begins at t = 2500, and the failure at t = 3300. -/
def closing (now : Nat) (state : ChanState) (retry timer : Nat) : State :=
  { runs [ent 1 23 3 .closing 0] with
    now := now
    ddu := { State.reset.ddu with d1 := { mode := .auto, state := state, engaged := some 1, retry := retry
                                          timer := some timer, params := ⟨1200, 1500, 800, 2⟩ } } }

/-- Section 2.10: t = 600 and t = 2500 (R39, R40). -/
theorem test_reversal :
    (after (.obstrActive .d1 true) (closing 600 .strokingClose 0 1500)).ddu.d1.timer = some 1400 ∧
      (let c := (after (.reverseTimeExpiry .d1) (closing 2500 .reversing 1 2500)).ddu.d1
       (c.state, c.retry, c.timer) = (.strokingClose, 2, some 4000)) := by decide +kernel

/-- Section 2.10: t = 3300: the retries are exhausted (R41). -/
theorem test_jam :
    let t := after (.openLimActive .d1 true) (closing 3300 .reversing 2 3700)
    t.ddu.d1.state = .jammed ∧ t.ddu.d1.engaged = none ∧ t.trk.entries.map (·.door) = [.obstructed] ∧
      (t.fleetRec 23).lastDoorFault = .obstructed ∧ t.msv.causes.map (fun c => (c.code, c.index)) = [(.doorJam, 1)] ∧
      t.msv.state = .stoppingService := by decide +kernel

/-- The rope plan of section 3.8, with the tension limits of section 3.11. -/
def rope38 : RopePlan :=
  { tA := 1227, tB := 1230, tol := 5, span := 2000, tripLow := 300, warnLow := 500, warnHigh := 1500, tripHigh := 1700 }

/-- The rope monitor in a window of the plan above. -/
def ropeAt (r : Rpm) : State :=
  { runs [] with rpm := r, sst := { active := { rope := rope38 } } }

/-- Section 3.8: window end 334 carries the remainder over a thousand (R53 to R55). -/
theorem test_rope_window :
    let t := (after (.ropeWindowEnd 2048) (ropeAt { nA := 489, nB := 487, dist := 1399800, rem := 999 })).rpm
    (t.vA, t.vB, t.v, t.dWin, t.dist, t.rem) = (600, 599, 600, 600003, 1400401, 2) ∧ t.tensionP = some 1000 := by
  decide +kernel

/-- Section 3.9: the third disagreeing window raises TACHO_DISAGREE (R57); section 3.10: the tenth zero window gives
STANDSTILL (R58). -/
theorem test_disagree_standstill :
    (let t := after (.ropeWindowEnd 2048) (ropeAt { nA := 489, nB := 455, disagreeCount := 2 })
     t.rpm.disagreeing = true ∧ t.msv.causes.map (·.code) = [.tachoDisagree]) ∧
      (after (.ropeWindowEnd 2048) (ropeAt { zeroCount := 9 })).rpm.standstill = true ∧
      (after (.ropeWindowEnd 2048) (ropeAt { zeroCount := 8 })).rpm.standstill = false := by decide +kernel

/-- Section 3.11: the sample 600 raises the low-side TENSION_TRIP, and the sample 20 keeps 439 mm (R62 to R65). -/
theorem test_tension :
    (let t := after (.ropeWindowEnd 600) (ropeAt { sensor := .good, warnLow := true })
     t.rpm.tensionP = some 293 ∧ t.rpm.tripLow = true ∧ t.msv.causes.map (fun c => (c.code, c.index)) = [(.tensionTrip, 0)]) ∧
      (let t := (after (.ropeWindowEnd 20) (ropeAt { sensor := .good, tensionP := some 439 })).rpm
       t.sensor = .faulty ∧ t.tensionP = some 439) := by decide +kernel

/-- The gate of section 4.10 at a rope distance. -/
def gate410 (dist : DWord) (latch : Bool) : State :=
  let e := { ent 1 17 3 (if latch then .latched else .closed) 0 with atGate := true }
  { runs [e, ent 2 42 3 .closed 0] with
    pins := { latch := latch }
    rpm := { dist := dist, v := 600 }
    lch := { gate := .holding, gateEntry := some 1, lastLaunch := 1416000, z3Count := 2 } }

/-- Section 4.10: window end w0 shows 6000 ms to launch; at w0 + 60 the launch is made (R73, R79). -/
theorem test_launch :
    (let t := (after .launchWindowEnd (gate410 1500000 false)).lch
     (t.gate, t.dL, t.estimate) = (.holding, 84000, 6000)) ∧
      (let t := (after .launchWindowEnd (gate410 1536000 true)).lch
       (t.gate, t.lastLaunch, t.dL, t.estimate) = (.launching, 1536000, 0, 0)) := by decide +kernel

/-- Section 4.10: B4 falling in LAUNCHING moves cabin 17 to Z4 and empties the gate (R74). -/
theorem test_b4_falling :
    let s := gate410 1536000 true
    let t := after .b4Falling { s with lch := { s.lch with gate := .launching } }
    t.trk.entries.map (fun e => (e.cabin, e.zone, e.atGate)) = [(17, 4, false), (42, 3, false)] ∧
      t.lch.gate = .empty ∧ t.lch.z3Count = 1 ∧ t.msv.causes = [] := by decide +kernel

/-- Section 4.10: the peak 415 is WEAK, the third of the history, which bars cabin 17 (R85, R86). -/
theorem test_grip :
    let s := { runs [ent 1 17 4] with
      fleet := State.reset.fleet.set 16 { history := [(410, .weak), (462, .good), (398, .weak), (447, .good)] }
      lch := { sampling := true, testEntry := some 1, peak := 415 } }
    let t := after (.boundaryEdge .b5) s
    (t.fleetRec 17).history = [(415, .weak), (410, .weak), (462, .good), (398, .weak)] ∧
      (t.fleetRec 17).barred = true ∧ t.msv.causes = [] ∧ t.msv.state = .run := by decide +kernel

/-- Section 5.11: frames of 3 and 6 payload bytes have 67 and 91 bits before stuffing, of which the last 5
(ACK slot, ACK delimiter, end field) follow the stuffed region (R92). -/
theorem test_frame_bits :
    (LineFrame.mk 4 3 15 2 [0, 0, 0]).region.length + 5 = 67 ∧
      (LineFrame.mk 4 0 15 2 [0, 0, 0, 0, 0, 0]).region.length + 5 = 91 ∧
      ((LineFrame.mk 4 0 15 2 [0, 0, 0, 0, 0, 0]).bits.drop 1).take 11 =
        [false, true, false, false, false, false, false, false, true, true, true] := by decide +kernel

/-- Section 5.10: the lost contest leaves the STATUS queued with retry count 0, and the granted call's PAIR_GRANT goes
ahead of it (R95, R103). -/
theorem test_contest :
    let s := { runs [] with
      lnc := { State.reset.lnc with queue := [{ fid := 0, kind := .status, dest := 15, payload := [], asker := .lnc }]
                                    state := .transmitting, attempt := some ⟨0, .status, 15, []⟩ }
      stn := { records := ({ state := .live } : StationRec) :: List.replicate 13 { state := .live } }
      sst := { active := { line := line67 } } }
    let t := after .arbitrationLoss s
    t.lnc.state = .receiving ∧ t.lnc.arbLoss = 1 ∧ t.lnc.queue = s.lnc.queue ∧
      (after (.pairReqReceived ⟨4, 0, [0, 0]⟩) t).lnc.queue.map (fun f => (f.kind, f.dest, f.retry)) =
        [(.pairGrant, 15, 0), (.status, 15, 0)] := by decide +kernel

/-- The part in RUN with every station LIVE, under the line plan above. -/
def live : State :=
  { runs [] with
    stn := { records := ({ state := .live } : StationRec) :: List.replicate 13 { state := .live, upSince := 7 } }
    lnc := { State.reset.lnc with queue := [] }
    sst := { active := { line := line67 } } }

/-- Section 6.7, t = 0 and t = 3500: sheave 2 TRIPPED raises RPD_REMOTE (29) and opens the chain; the silence of tower 7
raises STATION_SILENT (7) (R115, R117). -/
theorem test_tower_seven :
    let t := after (.statusReceived ⟨7, 15, [0x10, 0, 0]⟩) live
    t.msv.causes.map (fun c => (c.code, c.index)) = [(.rpdRemote, 29)] ∧ t.msv.state = .stoppingFast ∧
      t.msv.chainOut = false ∧ (t.stationRec 7).timer = some 2500 ∧
      (t.stationRec 7).sheaves = [.ok, .tripped, .unreported, .unreported] ∧
      (let u := after (.silenceTimerExpiry 7) { t with now := 2500 }
       (u.stationRec 7).state = .silent ∧ (u.stationRec 7).upSince = 0 ∧
         u.msv.causes.map (fun c => (c.code, c.index)) = [(.rpdRemote, 29), (.stationSilent, 7)]) := by decide +kernel

/-- R112: the expiry and a frame fall together. The expiry taken first makes the tower SILENT; the frame taken first
restarts the timer, and the expiry finds it restarted. -/
theorem test_silence_and_frame :
    let due := { after (.statusReceived ⟨7, 15, [0, 0, 0]⟩) live with now := 2500 }
    let t := after (.statusReceived ⟨7, 15, [0, 0, 0]⟩) due
    ((after (.silenceTimerExpiry 7) due).stationRec 7).state = .silent ∧
      ((after (.silenceTimerExpiry 7) t).stationRec 7).state = .live ∧
      ((after (.silenceTimerExpiry 7) t).stationRec 7).timer = some 5000 := by decide +kernel

/-- Section 7.9, t = 0: PAIR_REQ of tower 4 for the valley is granted as call 12, which rings at the valley (R126). -/
theorem test_pair_req :
    let t := after (.pairReqReceived ⟨4, 0, [0, 0]⟩) { live with cal := { nextId := 12 } }
    t.cal.table.map (fun r => (r.id, r.caller, r.callee)) = [(12, 4, 0)] ∧ t.cal.table.map (·.state) = [.ringing] ∧
      t.cal.table.map (·.parties) = [[4]] ∧ t.cal.table.map (·.ringTimer) = [some 30000] ∧
      t.cal.nextId = 13 ∧ t.cal.ringOut = true ∧ t.cal.voiceConnect = false ∧
      t.lnc.queue.map (fun f => (f.kind, f.dest, f.payload)) = [(.pairGrant, 15, [12, 4, 0, 0])] := by decide +kernel

/-- Section 7.9, t = 35: the trip call to tower 11 preempts call 12 and rings ahead of waiting call 13 (R128, R137). -/
theorem test_trip_call :
    let call (id caller callee : Nat) (state : CallState) (parties : List Nat) : CallRec :=
      ⟨id, caller, callee, false, .station, none, state, parties, {}, 0, {}, if state = .waiting then some 140000 else none,
        none, false, 0, 0⟩
    let s := { live with now := 35000, cal := { nextId := 14, valleyOffHook := true, voiceConnect := true
                                                table := [call 12 4 0 .talking [4, 0], call 13 9 13 .waiting [9]] } }
    let t := after (.statusReceived ⟨11, 15, [0x40, 0, 0]⟩) s
    t.msv.causes.map (fun c => (c.code, c.index)) = [(.rpdRemote, 44)] ∧
      t.cal.table.map (fun r => (r.id, r.caller, r.callee)) = [(14, 0, 11), (13, 9, 13)] ∧
      t.cal.table.map (fun r => (r.urgent, r.origin)) = [(true, .trip), (false, .station)] ∧
      t.cal.table.map (fun r => (r.state, r.parties)) = [(.ringing, []), (.waiting, [9])] ∧
      t.cal.ringOut = true ∧ t.cal.voiceConnect = false ∧ t.cal.valleyOffHook = false := by decide +kernel

/-- The supervisor of section 8.7. -/
def sup87 (m : Msv) (now v : Nat) : State :=
  { State.reset with
    now := now, rpm := { v := v }, msv := { m with opCeiling := 800 }
    sst := { active := { rope := { designMax := 800 } } } }

/-- Section 8.7, t = 0: STOP starts the watch with e0 = 660 and a = 40 (R151, R161). -/
theorem test_stop :
    let t := (after (.stop 0) (sup87 { state := .run, chainOut := true, target := 600, ceiling := 600, speedRef := 3071 } 0 600)).msv
    (t.state, t.chainOut, t.ceiling, t.speedRef) = (.stoppingService, true, 0, 0) ∧
      t.watch.map (fun w => (w.e0, w.decel)) = some (660, 40) ∧
      t.causes.map (fun c => (c.code, c.sub)) = [(.operatorStop, .clearedUnacked)] := by decide +kernel

/-- Section 8.7, t = 5100: the second window above the envelope raises DECEL_FAIL and the watch escalates (R160,
R161). -/
theorem test_escalation :
    let s := sup87 { state := .stoppingService, chainOut := true, exceed := 1, watch := some ⟨660, 40, 0, 460⟩ } 5100 466
    let t := (after .supervisorWindowEnd s).msv
    (t.state, t.chainOut, t.exceed) = (.stoppingFast, false, 2) ∧ t.causes.map (·.code) = [.decelFail] ∧
      t.watch.map (fun w => (w.e0, w.decel, w.start)) = some (456, 80, 5100) := by decide +kernel

/-- R160: the same raise in RUN, at a ceiling in force of 0, escalates the watch as well. -/
theorem test_escalation_in_run :
    let s := sup87 { state := .run, chainOut := true, target := 600, exceed := 1, watch := some ⟨660, 40, 0, 460⟩ } 5100 466
    let t := (after .supervisorWindowEnd s).msv
    t.state = .stoppingFast ∧ t.causes.map (·.code) = [.decelFail] ∧
      t.watch.map (fun w => (w.e0, w.decel, w.start)) = some (456, 80, 5100) := by decide +kernel

/-- Section 9.7: slip 3 with ticket 40, slips 5 and 7 with ticket 41. -/
def slips97 : State :=
  { State.reset with
    mem := [(0x1C0, 40), (0x1C2, 1), (0x1C3, 5), (0x1C4, 0xF4), (0x1C5, 1), (0x240, 41), (0x242, 1), (0x243, 6),
            (0x244, 255), (0x2C0, 41), (0x2C2, 1), (0x2C3, 14), (0x2C4, 1), (0x2C5, 1)].map fun p => ⟨p.1, p.2⟩
    msv := { state := .held, causes := [⟨.operatorStop, .service, 0, {}, 0, .clearedUnacked⟩] }
    obc := { nextTicket := 40, written := 1000, taken := 1000 }
    sst := { active := { rope := { designMax := 400 } } } }

/-- Section 9.7: the taking of tickets 40 and 41 (R170). -/
theorem test_three_slips :
    let t := after (.postWrite 0) slips97
    t.slipState 3 = 3 ∧ memRead t.mem 0x1EC = 1 ∧ memRead t.mem 0x1EE = 0x90 ∧ memRead t.mem 0x1EF = 1 ∧
      t.slipState 5 = 3 ∧ t.slipState 7 = 4 ∧ memRead t.mem 0x2EC = 18 ∧
      t.obc.nextTicket = 42 ∧ t.obc.written = 1001 ∧ t.msv.causes = [] ∧ t.msv.opCeiling = 400 := by decide +kernel

/-- Section 10.6: a power-up whose start set 1 fails its CRC loads set 0 with the fallback flag (R186). -/
theorem test_power_up :
    let t := after (.powerUp true 77 5) { State.reset with
      sst := { State.reset.sst with startSet := 1, clock := { valid := true } } }
    t.sst.fallback = true ∧ t.sst.startSet = 1 ∧ t.clockTime = ⟨77, 5⟩ ∧ t.sst.clock.valid = true ∧
      t.msv.causes.map (·.code) = [.trackLost] ∧ t.sst.revisions = List.replicate 6 1 := by decide +kernel

/-- Section 10.6: the door plan with a D2 close time of 6000 ms is adopted with 5000 ms (R179). -/
theorem test_adopt_clamps :
    let row (a t : Nat) : List Host.Cell := [⟨a, 0xD0⟩, ⟨a + 1, 7⟩, ⟨a + 2, BitVec.ofNat 8 t⟩, ⟨a + 3, BitVec.ofNat 8 (t / 256)⟩,
      ⟨a + 4, 0xD0⟩, ⟨a + 5, 7⟩, ⟨a + 6, 2⟩, ⟨a + 7, 1⟩]
    let s := { State.reset with
      mem := row 0x4C40 2000 ++ row 0x4C48 2000 ++ row 0x4C50 6000 ++ row 0x4C58 2000
      sst := { State.reset.sst with locks := List.replicate 6 .unlocked } }
    let t := after (.adopt 0 1) s
    t.sst.active.door.channels.d2.closeTime = 5000 ∧ t.sst.active.door.channels.d1.closeTime = 2000 ∧
      t.sst.revisions = [1, 2, 1, 1, 1, 1] ∧ memRead t.mem 0x12C = 1 := by decide +kernel

/-- The state that a step leaves. -/
def stepped (s : State) : State :=
  match step s with
  | .next t => t
  | _ => State.reset

/-- A step takes the front command and leaves the rest waiting; with none waiting 1 ms passes. -/
theorem test_step :
    let t := stepped { State.reset with pending := [.setupKeyChange true, .arrival] }
    t.pins.setupKey = true ∧ t.pending = [.arrival] ∧ (stepped State.reset).now = 1 := by decide +kernel

/-! ## For every statement with hypotheses, states and operands that meet them, clause by clause

A theorem `witness_<Statement>` shows for each clause of `Obligations.<Statement>` its hypotheses, at boundary values. -/

/-- The part in RUN with the rope standing. -/
def still (entries : List TrackEntry) : State := { runs entries with rpm := { standstill := true } }

/-- A slip that holds a state and a ticket. -/
def slipMem (slip state ticket : Nat) : List Host.Cell :=
  [⟨slipBase slip, BitVec.ofNat 8 ticket⟩, ⟨slipBase slip + 2, BitVec.ofNat 8 state⟩]

/-- Order context 0 in use for a slip with ticket 9. -/
def ctx0 (slip : Nat) (order : Order) : List (Option OrderCtx) :=
  some ⟨9, slip, order, {}⟩ :: List.replicate 7 none

/-- Fifteen entries of cabin 0 in Z0. -/
def fifteen : List TrackEntry := (List.range 15).map fun n => ent n 0 0

theorem witness_ArrivalPlacesEntryAtBack :
    let s := { runs fifteen with
      trk := { (runs fifteen).trk with lastArrival := some 0 }, rpm := { dist := 60000 } }
    (s.trk.state = .tracking ∧ s.rpm.standstill = false ∧ s.trk.entries.length < 16 ∧ s.trk.window = none ∧
      s.lch.z3Count = s.countZ3) ∧
      ∀ d, s.trk.lastArrival = some d → s.sst.active.zone.arrivalMin * 10 ≤ (s.rpm.dist - d).toNat :=
  ⟨by decide +kernel, fun d h => by cases h; decide +kernel⟩

theorem witness_LostEdgesAreCounted : State.reset.trk.state = .lost ∧ State.reset.lch.sampling = false := by
  decide +kernel

/-- An open tag window on the entry at the back, and the registry with cabin 96's tag 0x1234. -/
def tagged : State :=
  { runs [ent 1 17 3, ent 2 0 0] with
    trk := { state := .tracking, entries := [ent 1 17 3, ent 2 0 0], window := some ⟨2, false⟩, nextUid := 3 }
    sst := { active := { registry := registry } } }

theorem witness_ValidTagResolvesCabin :
    tagged.trk.tagBytes = [] ∧ tagged.trk.window = some ⟨2, false⟩ ∧ tagged.entry 2 = some (ent 2 0 0) ∧
      tagged.tagCabin (0x12#8 ++ 0x34#8) = some 96 ∧
      (∀ x ∈ tagged.trk.entries, x.uid ≠ (ent 2 0 0).uid → x.cabin ≠ 96) ∧ 96 ≤ tagged.fleet.length := by decide +kernel

/-- R11, R12: the tag of a cabin that is in another entry, and an unregistered tag as the third in a row. -/
theorem witness_ValidTagResolvesCabin_repeated :
    (tagged.tagCabin (0x00#8 ++ 0x11#8) = some 17 ∧ ∃ x ∈ tagged.trk.entries, x.uid ≠ (ent 2 0 0).uid ∧ x.cabin = 17) ∧
    (let s := { tagged with trk := { tagged.trk with unknownCount := 2 } }
     s.tagCabin (0x00#8 ++ 0x12#8) = none ∧ s.trk.unknownCount = 2 ∧ s.msv.causes.length < 31 ∧
      s.entry 2 = some (ent 2 0 0)) ∧ tagged.CausesOk :=
  ⟨by decide +kernel, by decide +kernel, List.nodup_nil, fun _ h => by cases h⟩

theorem witness_InvalidTagIsRemembered :
    tagged.trk.tagBytes = [] ∧ ¬ ((0xED#8 = ~~~0x12#8) ∧ 0xCA#8 = ~~~0x34#8) ∧ [0x12#8] ≠ [] := by decide +kernel

theorem witness_BoundaryMatchMovesFrontEntry :
    (∀ edge ∈ [EdgeAt.b1, .b2, .b3, .b5], ∃ z, z < 6 ∧
      (let e := ent 1 96 z
       let s := runs [e, ent 2 0 0]
       edge ≠ .b6 ∧ s.trk.state = .tracking ∧ s.rpm.standstill = false ∧
        s.frontOf (boundaryOf edge - 1) = some e ∧ s.zoneLen e.zone * 5000 = e.travel)) ∧
      (let e := { ent 1 96 0 .latched 0 with waiver := true }
       (runs [e]).frontOf 0 = some e ∧ e.waiver = true) := by decide +kernel

theorem witness_UnmatchedEdgesMoveNothing :
    let e := ent 1 17 0 .latched 4999999
    ((still [e]).trk.state = .tracking ∧ (still [e]).lch.sampling = false ∧ (still [e]).rpm.standstill = true) ∧
      ((runs [e]).frontOf (boundaryOf .b1 - 1) = some e ∧ e.travel + 1 = (runs [e]).zoneLen e.zone * 5000 ∧
        e.waiver = false) ∧
      ((runs []).rpm.standstill = false ∧ (runs []).frontOf (boundaryOf .b6 - 1) = none ∧
        (runs []).msv.causes.length < 31) := by decide +kernel

theorem runs_causesOk (entries : List TrackEntry) : (runs entries).CausesOk := ⟨List.nodup_nil, fun _ h => by cases h⟩

theorem witness_DepartureRemovesEntry :
    let e := ent 1 96 5
    let s := runs [e, ent 2 0 5]
    s.trk.state = .tracking ∧ s.rpm.standstill = false ∧ s.frontOf 5 = some e ∧
      s.zoneLen e.zone * 5000 = e.travel ∧ 0 < e.cabin ∧ e.cabin ≤ s.fleet.length := by decide +kernel

theorem witness_CabinComesToGate :
    let e := ent 1 17 3 .closed
    let s := runs [e, ent 2 0 0]
    s.trk.state = .tracking ∧ s.rpm.standstill = false ∧ s.frontOf 3 = some e ∧ e.atGate = false ∧
      s.lch.gate = .empty ∧ (s.trk.entries.map (·.uid)).Nodup ∧ s.pins.latch = false ∧ s.entryGarage e = false := by
  decide +kernel

theorem witness_WindowEndAccruesTravel :
    two.trk.state = .tracking ∧ (two.trk.entries.map (·.uid)).Nodup := by decide +kernel

theorem witness_RebuildReplacesTrack :
    let s := { still [ent 1 17 3] with
      msv := { state := .held }, fleet := State.reset.fleet.set 4 { state := .inTerminal }
      sst := { active := { registry := registry } } }
    let pairs := [(96, 5), (0, 0)]
    31 < 32 ∧ Memory.wf s.mem = true ∧ (s.msv.state = .standby ∨ s.msv.state = .held) ∧ s.rpm.standstill = true ∧
      s.pairsOk pairs = true ∧ s.lch.divert = none ∧ (96, 5) ∈ pairs ∧ 96 ≤ s.fleet.length ∧
      (s.fleetRec 5).state = .inTerminal ∧ ∀ p ∈ pairs, p.1 ≠ 5 := by decide +kernel

theorem witness_CabinOrdersSetTheirFlag :
    let s := { runs [] with sst := { active := { registry := registry } } }
    31 < 32 ∧ Memory.wf s.mem = true ∧ s.msv.state ≠ .standby ∧ 1 ≤ 96 ∧ 96 ≤ 96 ∧ s.fleet.length = 96 ∧
      (s.fleetRec 96).weakCount < 3 ∧ s.registered 96 = true ∧ (s.fleetRec 96).state ≠ .garaged := by decide +kernel

/-- The track with the entries of a match, and channels in AUTO. -/
def drives (entries : List TrackEntry) (c : Chan) : State := { runs entries with ddu := ⟨c, c, c, c⟩ }

theorem witness_MatchEngagesDoorChannel :
    (let e := ent 1 17 0
     let s := drives [e] { mode := .auto }
     s.trk.state = .tracking ∧ s.rpm.standstill = false ∧ (s.trk.entries.map (·.uid)).Nodup ∧
      s.lch.gateEntry ≠ some e.uid ∧ s.zoneLen e.zone * 5000 = e.travel ∧ s.frontOf 0 = some e ∧
      s.ddu.d0.serves = true ∧ s.pins.channels.d0.openLim = false) ∧
    (let e := ent 1 17 2
     let s := drives [e] { mode := .oneShot }
     s.trk.state = .tracking ∧ s.rpm.standstill = false ∧ (s.trk.entries.map (·.uid)).Nodup ∧
      s.lch.gateEntry ≠ some e.uid ∧ s.zoneLen e.zone * 5000 = e.travel ∧ s.frontOf 2 = some e ∧
      s.ddu.d1.serves = true ∧ s.pins.channels.d1.closedLim = false ∧ s.pins.channels.d1.obstr = false ∧
      s.ddu.d2.engaged ≠ some e.uid) := by decide +kernel

theorem witness_UnservedEngagementIsMissed :
    (let e := ent 1 17 0
     let s := drives [e] { mode := .manual }
     s.trk.state = .tracking ∧ s.rpm.standstill = false ∧ (s.trk.entries.map (·.uid)).Nodup ∧
      s.lch.gateEntry ≠ some e.uid ∧ s.zoneLen e.zone * 5000 = e.travel ∧ s.frontOf 0 = some e ∧
      s.ddu.d0.serves = false) ∧
    (let e := ent 1 17 2
     let s := drives [e] { mode := .auto, state := .jammed }
     s.lch.gateEntry ≠ some e.uid ∧ s.zoneLen e.zone * 5000 = e.travel ∧ s.frontOf 2 = some e ∧
      s.ddu.d1.serves = false ∧ s.ddu.d2.engaged ≠ some e.uid) := by decide +kernel

theorem witness_BoardingGateServesOpenDoor :
    (let e := ent 1 17 1 .missed
     let s := drives [e] { mode := .auto }
     s.trk.state = .tracking ∧ s.rpm.standstill = false ∧ (s.trk.entries.map (·.uid)).Nodup ∧ s.frontOf 1 = some e ∧
      s.zoneLen e.zone * 5000 = e.travel ∧ e.door ≠ .opened ∧ s.ddu.d2.engaged = none) ∧
    (let e := ent 1 17 1 .opened
     let s := drives [e] { mode := .auto }
     s.frontOf 1 = some e ∧ e.door = .opened ∧ s.ddu.d2.serves = true ∧ s.pins.channels.d2.openLim = false) ∧
    (let e := ent 2 17 1 .opened
     let s := drives [ent 1 96 2 .opened, e] { mode := .auto, engaged := some 1 }
     s.frontOf 1 = some e ∧ e.door = .opened ∧ s.ddu.d2.waitsToClose = true ∧ s.ddu.d2.mode ≠ .off) := by decide +kernel

/-- R44: one micrometre before the close point and at it, the gate still opening and standing open; and B3 with the
entry still engaged. -/
theorem witness_BoardingGateServesOpenDoor_close :
    (∀ st ∈ [ChanState.idle, .strokingOpen],
      (let point := (runs []).zoneLen 2 * (runs []).sst.active.zone.gateClosePct * 100
       let at' (travel : Nat) : State := drives [ent 1 17 2 .opened travel] { mode := .auto, state := st, engaged := some 1 }
       0 < point ∧ (∀ travel ∈ [point - 1, point], (let s := at' travel
        s.trk.state = .tracking ∧ s.ddu.d2.engaged = some 1 ∧ s.ddu.d2.state = st ∧
          s.pins.channels.d2.closedLim = false ∧ s.pins.channels.d2.obstr = false ∧
          (decide (point ≤ min 4294967295 (travel + s.rpm.dWin * s.zoneRatio 2 / 1000)) = decide (travel = point)))))) ∧
    (∀ st ∈ [ChanState.idle, .strokingOpen, .strokingClose],
      (let e := ent 1 17 2 .opened
       let s := drives [e] { mode := .auto, state := st, engaged := some 1 }
       s.rpm.standstill = false ∧ s.frontOf 2 = some e ∧ s.zoneLen e.zone * 5000 = e.travel ∧
        s.ddu.d2.engaged = some e.uid ∧ s.pins.channels.d2.closedLim = false ∧ s.pins.channels.d2.obstr = false ∧
        s.msv.causes.length < 29)) ∧ (runs []).CausesOk :=
  ⟨by decide +kernel, by decide +kernel, runs_causesOk []⟩

/-- A stroke of every channel by the order of context 0, whose slip 31 is TAKEN with ticket 9. -/
def ordered (c : Chan) : State :=
  { runs [] with
    mem := slipMem 31 2 9, ddu := ⟨c, c, c, c⟩
    obc := { contexts := ctx0 31 (.stroke 0 0) } }

/-- R173, table 9.4: a STROKE that jams completes DONE with JAMMED; R187, R190: the slip's last two bytes are written 0. -/
theorem test_stroke_jams :
    let s := ordered { state := .strokingClose, origin := .order 0, timer := some 1200 }
    let t := after (.closeTimeExpiry .d3) { s with mem := s.mem ++ [⟨slipBase 31 + 62, 7⟩, ⟨slipBase 31 + 63, 7⟩] }
    t.slipState 31 = 3 ∧ memRead t.mem (slipBase 31 + 44) = byteOf ResultCode.jammed.code ∧
      memRead t.mem (slipBase 31 + 62) = 0 ∧ memRead t.mem (slipBase 31 + 63) = 0 ∧ (t.ddu.get .d3).state = .jammed := by
  decide +kernel

theorem witness_LimitProvesStroke :
    (let s := ordered { state := .strokingOpen, origin := .order 0, timer := some 1200 }
     (s.ddu.get .d0).state = .strokingOpen ∧ (s.ddu.get .d0).closeDue = false ∧ (s.ddu.get .d0).origin = .order 0 ∧
      s.context 0 = some ⟨9, 31, .stroke 0 0, {}⟩ ∧ Memory.wf s.mem = true ∧ s.slipState 31 = 2 ∧ s.slipTicket 31 = 9 ∧
      (s.ddu.get .d0).pendingMode = none) ∧
    (let s := ordered { state := .strokingClose, origin := .order 0, timer := some 1200 }
     (s.ddu.get .d3).state = .strokingClose ∧ (s.ddu.get .d3).origin = .order 0 ∧
      s.context 0 = some ⟨9, 31, .stroke 0 0, {}⟩ ∧ Memory.wf s.mem = true ∧ s.slipState 31 = 2 ∧ s.slipTicket 31 = 9 ∧
      (s.ddu.get .d3).pendingMode = none) ∧
    ((runs []).ddu.get .d2).state ≠ .strokingClose := by decide +kernel

theorem witness_ObstructionReversesAndRetries :
    (let s := closing 600 .strokingClose 0 1500
     (s.ddu.get .d1).state = .strokingClose ∧ (s.inputs .d1).openLim = false) ∧
    (let s := closing 2500 .reversing 1 2500
     (s.ddu.get .d1).state = .reversing ∧ (s.ddu.get .d1).retry + 1 = (s.ddu.get .d1).params.recloseLimit ∧
      (s.inputs .d1).closedLim = false ∧ (s.inputs .d1).obstr = false ∧ (s.ddu.get .d1).timer ≠ none) := by decide +kernel

theorem witness_StrokeFailuresJam :
    (∀ c ∈ [Channel.d0, .d1], (let s := ordered { state := .strokingOpen, timer := some 1200 }
     (s.ddu.get c).timer ≠ none ∧ (s.ddu.get c).state = .strokingOpen)) ∧
    (let s := closing 1500 .strokingClose 0 1500
     (s.ddu.get .d1).timer ≠ none ∧ (s.ddu.get .d1).state = .strokingClose) ∧
    (let s := closing 3700 .reversing 2 3700
     (s.ddu.get .d1).timer ≠ none ∧ (s.ddu.get .d1).state = .reversing ∧
      (s.ddu.get .d1).params.recloseLimit = (s.ddu.get .d1).retry) := by decide +kernel

theorem witness_SetDriveModeSetsOrHolds :
    (let s := { State.reset with msv := { state := .held } }
     (0, DriveMode.off) ∈ modeNumbers ∧ 31 < 32 ∧ Memory.wf s.mem = true ∧
      (isDoor .d1 = true → s.msv.state = .standby ∨ s.msv.state = .held) ∧
      (s.ddu.get .d1).state.stroking = false) ∧
    (let s := closing 0 .strokingClose 0 1500
     (3, DriveMode.oneShot) ∈ modeNumbers ∧ (DriveMode.oneShot = .off → False) ∧ Memory.wf s.mem = true ∧
      (s.ddu.get .d1).state.stroking = true) := by decide +kernel

theorem witness_HaltDriveStopsStroke :
    let s := closing 0 .strokingClose 0 1500
    31 < 32 ∧ Memory.wf s.mem = true ∧ (s.ddu.get .d1).state.stroking = true := by decide +kernel

theorem witness_StrokeOrderStartsStroke :
    ∀ direction ∈ [0, 1], ∀ c ∈ [Channel.d0, .d1, .d2, .d3],
      (let s := { runs [] with obc := { contexts := ctx0 31 .start } }
       31 < 32 ∧ Memory.wf s.mem = true ∧ s.freeContext? = some 1 ∧ direction ≤ 1 ∧ (s.ddu.get c).mode = .manual ∧
        (s.ddu.get c).state = .idle ∧ s.ddu.d2.engaged = none ∧ (s.inputs c).openLim = false ∧
        (s.inputs c).closedLim = false ∧ (s.inputs c).obstr = false) := by decide +kernel

/-- Thirty causes of distinct identity, none of them of one of the codes a raise in these statements uses. -/
def thirty : List Cause := (List.range 30).map fun n => ⟨.gripFail, .fast, n, {}, 0, .clearedUnacked⟩

/-- The part HELD with thirty causes listed. -/
def crowded : State := { still [] with msv := { state := .held, causes := thirty } }

theorem crowded_causesOk : crowded.CausesOk := by constructor <;> decide +kernel

/-- R44, R78, R35, R143: at the B3 match that finds the Z3 count at its threshold and D1 jammed, 28 listed causes leave
room for GATE_LATE after LAUNCH_QUEUE_FULL and DOOR_MISSED. -/
theorem witness_BoardingGateServesOpenDoor_late :
    let e := ent 1 17 2 .opened
    let before := drives (e :: (List.range 14).map fun n => ent (n + 2) 0 3) { mode := .auto, state := .jammed }
    let s := { before with
      ddu := { before.ddu with d2 := { mode := .auto, engaged := some 1 } }
      msv := { before.msv with causes := thirty.take 28 } }
    s.CausesOk ∧
      (s.trk.state = .tracking ∧ (s.trk.entries.map (·.uid)).Nodup ∧ s.rpm.standstill = false ∧ s.frontOf 2 = some e ∧
      s.zoneLen e.zone * 5000 = e.travel ∧ s.ddu.d2.engaged = some e.uid ∧ s.ddu.d2.state = .idle ∧
      s.pins.channels.d2.closedLim = false ∧ s.pins.channels.d2.obstr = false ∧ s.msv.causes.length = 28 ∧
      s.ddu.d1.pendingMode = none ∧
      ((after (.boundaryEdge .b3) s).msv.causes.drop 28).map (·.code) =
        [.launchQueueFull, .doorMissed, .gateLate]) :=
  ⟨⟨(by decide +kernel : ((thirty.take 28).map fun c => (c.code, c.index)).Nodup),
    (by decide +kernel : ∀ c ∈ thirty.take 28, c.category ∈ c.code.categories)⟩, by decide +kernel⟩

theorem witness_RopeWindowJudgesStandstill :
    (crowded.msv.causes.length = 30 ∧ crowded.rpm.disagreeing = false ∧
      (ropeAt { disagreeing := true }).rpm.disagreeing = true) ∧ crowded.CausesOk ∧
      (ropeAt { disagreeing := true }).CausesOk :=
  ⟨by decide +kernel, crowded_causesOk, by constructor <;> decide +kernel⟩

theorem witness_TensionSampleIsClassified :
    (40 ≤ 40 ∧ 40 ≤ 4055) ∧ (40 ≤ 4055 ∧ 4055 ≤ 4055) ∧ (39 < 40 ∨ 4055 < 39) ∧ (4056 < 40 ∨ 4055 < 4056) := by decide

theorem witness_LoopStatesFollowTable :
    (∀ closed ∈ [false], (runs []).pins.loops.get .loop4 ≠ closed) ∧
    (∀ st ∈ [LoopState.openPending, .closePending],
      (let s := { crowded with rpm := { loops := ⟨⟨st, some 20⟩, {}, {}, {}⟩ } }
       (s.rpm.loops.get .loop1).state = st ∧ s.msv.causes.length < 31)) ∧
    (runs []).msv.state = .run ∧ (runs []).CausesOk ∧ crowded.CausesOk :=
  ⟨by decide +kernel, by decide +kernel, rfl, runs_causesOk [], crowded_causesOk⟩

theorem witness_WindowEndDecidesGateEntry :
    let e := { ent 1 17 3 .latched 0 with atGate := true }
    let s := gate410 1536000 true
    s.lch.gate = .holding ∧ s.lch.gateEntry = some e.uid ∧ s.entry e.uid = some e ∧
      (s.msv.state = .run ∧ s.trk.state = .tracking ∧ s.lch.divert = none ∧ s.sst.active.zone.launchMin ≤ s.rpm.v ∧
        s.entryBarred e = false ∧ s.entryGarage e = false ∧ e.door = .latched ∧ s.pins.latch = true ∧
        s.sst.active.zone.launchSpacing * 10 = (s.rpm.dist - s.lch.lastLaunch).toNat) ∧
      (let g := { s with fleet := s.fleet.set 16 { garagePending := true } }
       g.entry e.uid = some e ∧ g.entryGarage e = true ∧ g.msv.state = .run ∧ g.trk.state = .tracking ∧
        g.lch.divert = none) := by decide +kernel

theorem witness_LaunchEstimateIsLeastWait :
    (runs []).lch.gateEntry = none ∧ (gate410 1500000 false).lch.gateEntry ≠ none ∧
      (after .launchWindowEnd (gate410 1536000 true)).lch.gate = .launching ∧
      (after .launchWindowEnd (gate410 1500000 false)).lch.gate ≠ .launching ∧
      (after .launchWindowEnd (gate410 1500000 false)).lch.dL.toNat < 120000 ∧
      0 < (gate410 1500000 false).rpm.v := by decide +kernel

theorem witness_B4FallingEmptiesGate :
    let s := gate410 1536000 true
    s.CausesOk ∧ (s.trk.entries.map (·.uid)).Nodup ∧
      (∀ g ∈ [GateState.launching, .diverting], (let t := { s with lch := { s.lch with gate := g } }
        t.lch.gate = g ∧ t.trk.state = .tracking ∧ t.lch.gateEntry = some 1 ∧ (t.entry 1).isSome = true)) ∧
      (s.lch.gate = .holding ∧ s.trk.state = .tracking ∧ (s.frontOf 3).isSome = true ∧ s.msv.state = .run ∧
        s.msv.causes.length < 31 ∧ s.msv.causes = []) ∧
      (let u := after .b4Falling { s with msv := { s.msv with causes := thirty } }
       thirty.length < 31 ∧ u.msv.causes.map (·.code) = List.replicate 30 .gripFail ++ [.uncommandedLaunch]) ∧
      (State.reset.lch.gate = .empty ∧ State.reset.trk.state = .lost) :=
  ⟨⟨List.nodup_nil, fun _ h => by cases h⟩, by decide +kernel⟩

theorem witness_GripTestGradesPeak :
    (runs []).CausesOk ∧
      ((runs []).rpm.standstill = false ∧ (runs []).lch.sampling = false ∧ (runs []).lch.divert = none) ∧
      (∀ f ∈ [0, 19, 20, 379, 380, 419, 420, 700, 701],
        (let s := { runs [ent 1 96 4] with lch := { sampling := true, testEntry := some 1, peak := f } }
         s.lch.sampling = true ∧ (s.lch.testEntry.map s.entryCabin).getD 0 = 96 ∧ 96 ≤ s.fleet.length)) :=
  ⟨runs_causesOk [], by decide +kernel⟩

theorem witness_DivertEndsAtGarageSwitch :
    let s := { runs fifteen with lch := { divert := some ⟨96, .closed, true, false⟩ } }
    s.CausesOk ∧ (runs []).lch.divert = none ∧ s.lch.divert = some ⟨96, .closed, true, false⟩ ∧ 96 ≤ s.fleet.length ∧
      s.rpm.standstill = false ∧ s.lch.sampling = false ∧ s.trk.state = .tracking ∧ s.trk.entries.length = 15 ∧
      (still []).rpm.standstill = true := ⟨⟨List.nodup_nil, fun _ h => by cases h⟩, by decide +kernel⟩

theorem witness_ReleaseReturnsGaragedCabin :
    (let s := { runs [] with fleet := State.reset.fleet.set 95 { state := .garaged }, obc := { contexts := ctx0 3 .start } }
     Memory.wf s.mem = true ∧ 31 < 32 ∧ s.freeContext? = some 1 ∧ 1 ≤ 96 ∧ 96 ≤ 96 ∧ s.msv.state = .run ∧
      s.trk.state = .tracking ∧ (s.fleetRec 96).state = .garaged ∧ s.lch.insertion = none) ∧
    (let s := { runs fifteen with
       mem := slipMem 31 2 9, fleet := State.reset.fleet.set 95 { state := .garaged }
       lch := { insertion := some ⟨96, 0, 60000⟩ }, obc := { contexts := ctx0 31 (.releaseCabin 96) } }
     Memory.wf s.mem = true ∧ s.lch.insertion = some ⟨96, 0, 60000⟩ ∧
      s.context 0 = some ⟨9, 31, .releaseCabin 96, {}⟩ ∧ s.slipState 31 = 2 ∧ s.slipTicket 31 = 9 ∧
      (s.fleetRec 96).state = .garaged ∧ s.trk.state = .tracking ∧ s.trk.entries.length < 16 ∧ 96 ≤ s.fleet.length ∧
      s.lch.z3Count = s.countZ3 ∧ s.countZ3 < s.sst.active.zone.queueLimit ∧ s.entry s.trk.nextUid = none ∧
      s.lch.queueFull = false) ∧
    (State.reset.lch.insertion = none ∧ State.reset.trk.state = .lost) := by decide +kernel

/-- R6, R78, R82: G_OUT with an insertion and without, into a track that is LOST, full, and one with Z3 at its limit;
and with a cabin that is no longer GARAGED. -/
theorem witness_ReleaseReturnsGaragedCabin_lost :
    let full : List TrackEntry := (List.range 16).map fun n => ent n 0 3
    let inserted (entries : List TrackEntry) (st : FleetState) : State := { runs entries with
       mem := slipMem 31 2 9, fleet := State.reset.fleet.set 95 { state := st }
       lch := { insertion := some ⟨96, 0, 60000⟩, z3Count := entries.countP (·.zone = 3) }
       obc := { contexts := ctx0 31 (.releaseCabin 96) } }
    let ready (s : State) : Bool := decide (s.context 0 = some ⟨9, 31, .releaseCabin 96, {}⟩) &&
      decide (s.slipState 31 = 2) && decide (s.slipTicket 31 = 9) && Memory.wf s.mem && decide (s.lnc.queue.length < 15)
    (let s := { inserted [] .garaged with trk := {} }
     ready s = true ∧ (s.fleetRec 96).state = .garaged ∧ s.trk.state = .lost) ∧
    (let s := inserted full .garaged
     ready s = true ∧ (s.fleetRec 96).state = .garaged ∧ s.trk.state = .tracking ∧ 16 ≤ s.trk.entries.length ∧
      s.msv.causes.length < 30) ∧
    (let s := inserted full .inLine
     ready s = true ∧ (s.fleetRec 96).state ≠ .garaged) ∧
    (let s := inserted (full.take 15) .garaged
     ready s = true ∧ s.trk.entries.length < 16 ∧ s.lch.z3Count = s.countZ3 ∧
      s.sst.active.zone.queueLimit ≤ s.countZ3 ∧ s.lch.queueFull = false ∧ s.msv.causes.length < 31) ∧
    (∀ k ∈ [0, 15, 16], (let s := runs (full.take k)
      s.lch.insertion = none ∧ s.trk.state = .tracking ∧ s.lch.z3Count = s.countZ3 ∧ s.lch.queueFull = false ∧
        s.trk.entries.length = k ∧ (decide (s.countZ3 < s.sst.active.zone.queueLimit) = decide (k = 0)))) ∧
    (runs full).CausesOk :=
  ⟨by decide +kernel, by decide +kernel, by decide +kernel, by decide +kernel, by decide +kernel, runs_causesOk _⟩

theorem witness_LatchProofRunsTimer :
    let e := { ent 1 17 3 .closed 0 with atGate := true }
    (let s := gate410 1500000 false
     s.CausesOk ∧ s.lch.gate = .holding ∧ s.lch.gateEntry = some e.uid ∧ s.entry e.uid = some e ∧ e.atGate = true ∧
      s.entryBarred e = false ∧ s.entryGarage e = false ∧ s.pins.latch = false ∧ s.lch.proofTimer = none) ∧
    (let s := { gate410 1500000 false with
       pins := { latch := true }, lch := { (gate410 1500000 false).lch with proofTimer := some 5000 } }
     s.CausesOk ∧ s.lch.gate = .holding ∧ s.entry e.uid = some e ∧ s.pins.latch = true ∧ s.msv.state = .run ∧
      s.lch.proofTimer ≠ none ∧ s.msv.causes.length < 31) :=
  ⟨⟨⟨List.nodup_nil, fun _ h => by cases h⟩, by decide +kernel⟩,
    ⟨List.nodup_nil, fun _ h => by cases h⟩, by decide +kernel⟩

/-- The part above with context 0 held by slip 31, TAKEN with ticket 9. -/
def liveTaken (order : Order) : State := { live with mem := slipMem 31 2 9, obc := { contexts := ctx0 31 order } }

theorem witness_FramesQueueByPriority :
    let s := liveTaken .start
    ordinaryPlace s.lnc.queue = true ∧ 31 < 32 ∧ Memory.wf s.mem = true ∧ s.freeContext? = some 1 ∧
      (List.replicate 12 (0x41 : Byte)).length ≤ 12 ∧ 1 ≤ 13 ∧ 13 ≤ 13 ∧ s.present 13 = true := by decide +kernel

/-- A NOTE of context 0 on the line at its last retry. -/
def sending (retry : Nat) : State :=
  { liveTaken (.sendNote 13 7 []) with
    lnc := { state := .transmitting, attempt := some ⟨5, .note, 13, [0, 7]⟩
             queue := [{ fid := 5, kind := .note, dest := 13, payload := [0, 7], retry := retry, asker := .obc, context := some 0 }]
             nextFid := 6 } }

/-- A HOOK frame of a name. -/
def hookFrame (fid : Nat) : TxFrame := { fid := fid, kind := .hook, dest := 15, payload := [], asker := .cal }

/-- A full transmit queue of fifteen HOOK frames and a last one. -/
def crammed (last : TxFrame) : State :=
  { liveTaken (.sendNote 13 7 []) with
    lnc := { queue := (List.range 15).map (fun n => hookFrame (n + 6)) ++ [last], nextFid := 30 } }

/-- R101: a full queue with a NOTE that waits, one whose only NOTE is on the line, and one without a NOTE. -/
theorem witness_FramesQueueByPriority_full :
    let note : TxFrame := { fid := 5, kind := .note, dest := 13, payload := [0, 7], asker := .obc, context := some 0 }
    let waits (s : State) := s.lnc.queue.filter fun f => f.kind = .note && decide (s.lnc.attempt.map (·.fid) ≠ some f.fid)
    (let s := crammed note
     ordinaryPlace s.lnc.queue = false ∧ s.freeContext? = some 1 ∧ s.present 13 = true ∧ Memory.wf s.mem = true ∧
      s.lnc.queue.any (·.kind = .status) = false ∧ waits s = [note] ∧ (s.lnc.queue.map (·.fid)).Nodup ∧
      s.context 0 = some ⟨9, 31, .sendNote 13 7 [], {}⟩ ∧ s.slipState 31 = 2 ∧ s.slipTicket 31 = 9) ∧
    (let s := { crammed note with
       lnc := { (crammed note).lnc with state := .transmitting, attempt := some ⟨5, .note, 13, [0, 7]⟩ } }
     ordinaryPlace s.lnc.queue = false ∧ waits s = []) ∧
    (let s := crammed { note with kind := .hook }
     ordinaryPlace s.lnc.queue = false ∧ s.lnc.queue.any (·.kind = .status) = false ∧ waits s = []) := by decide +kernel

theorem witness_AttemptsKeepTheQueue :
    (State.reset.lnc.queue.head?).isSome = true ∧ ({ State.reset.lnc with state := .idle } : Lnc).state = .idle ∧
      (sending 0).lnc.state = .transmitting ∧ State.reset.lnc.state ≠ .transmitting ∧
      State.reset.lnc.state = .gap ∧ live.lnc.queue = [] := by decide +kernel

theorem witness_AttemptOutcomeDecidesFrame :
    (∀ retry ∈ [2, 3], (let s := sending retry
      (∀ f ∈ s.lnc.queue, s.lnc.queue.find? (·.fid = f.fid) = some f ∧ s.lnc.attempt.map (·.fid) = some f.fid ∧
        f.kind = .note ∧ f.context = some 0) ∧
      s.lnc.queue.length = 1 ∧ s.lnc.state = .transmitting ∧ Memory.wf s.mem = true ∧
      s.context 0 = some ⟨9, 31, .sendNote 13 7 [], {}⟩ ∧ s.slipState 31 = 2 ∧ s.slipTicket 31 = 9)) ∧
    ((sending 2).sst.active.line.retryLimit = 3 ∧ (sending 3).sst.active.line.retryLimit ≤ 3) ∧
    (let l : Lnc := { (sending 3).lnc with state := .gap, attempt := none, cut := some 5 }
     l.state = .gap ∧ l.cut = some 5 ∧ (l.queue.find? (·.fid = 5)).isSome = true) ∧
    (State.reset.lnc.state = .gap ∧ State.reset.lnc.cut = none ∧
      ∀ f ∈ State.reset.lnc.queue, State.reset.lnc.queue.find? (·.fid = f.fid) = some f) := by decide +kernel

/-- R102: a cut attempt counts against the retry limit of its bit error, whatever is adopted before the next IDLE. -/
theorem test_cut_limit :
    let cut := after .bitError (sending 2)
    let t := after .idleGapReached { cut with sst := { active := { line := { retryLimit := 0 } } } }
    cut.lnc.cutLimit = 3 ∧ t.lnc.queue.map (·.retry) = [3] ∧ t.slipState 31 = 2 := by decide +kernel

/-- R186: whole seconds since the reset, whatever the terminal clock does. -/
theorem test_up_time :
    ({ State.reset with now := 1999, resetAt := 1000 } : State).upTime = 0 ∧
      ({ State.reset with now := 2000, resetAt := 1000 } : State).upTime = 1 ∧
      (after .clockSecond State.reset).upTime = 0 := by decide +kernel

theorem witness_ReceivedFramesAreCounted :
    let payload : List Byte := 0 :: 5 :: List.replicate 12 0x41
    1 ≤ 13 ∧ 13 ≤ 13 ∧ live.stn.records.length = 14 ∧ payload.length ≤ 16 ∧ (live.stationRec 13).state = .live ∧
      live.present 13 = true ∧ live.obc.span < 256 ∧ live.obc.missedMask = 0 ∧ live.obc.missedCount = 0 := by decide +kernel

theorem witness_BreakStopsTheLine :
    (let s := { live with lnc := { state := .inBreak } }
     s.CausesOk ∧ s.lnc.state = .inBreak) ∧
    (let s := { crowded with lnc := { queue := (sending 0).lnc.queue } }
     s.CausesOk ∧ s.lnc.state ≠ .inBreak ∧ s.msv.causes.length = 30 ∧ s.lnc.queue.length < 15) :=
  ⟨⟨⟨List.nodup_nil, fun _ h => by cases h⟩, rfl⟩, by constructor <;> decide +kernel, by decide +kernel⟩

/-- Tower 7 with sheave 1 active, both requests active, in a state. -/
def tower7 (state : StationState) : State :=
  let record : StationRec :=
    { state := state, sheaveActive := [true, false, false, false], reqService := true, reqFast := true
      timer := if state = .excluded then none else some 2500 }
  { live with
    msv := { state := .held, causes := thirty.take 25 }
    stn := { records := live.stn.records.set 7 record } }

theorem live_causesOk : live.CausesOk := ⟨List.nodup_nil, fun _ h => by cases h⟩

theorem tower7_causesOk (state : StationState) : (tower7 state).CausesOk :=
  ⟨(by decide +kernel : ((thirty.take 25).map fun c => (c.code, c.index)).Nodup),
    (by decide +kernel : ∀ c ∈ thirty.take 25, c.category ∈ c.code.categories)⟩

theorem witness_StatusReportsStation :
    (∀ st ∈ [StationState.live, .excluded],
      (let s := tower7 st
       s.stn.records.length = 14 ∧ s.present 7 = true ∧ (s.stationRec 7).sheaveActive.length = 4 ∧
        (s.stationRec 7).sheaves.length = 4 ∧ (s.stationRec 7).state = st ∧ s.msv.causes.length = 25 ∧
        s.sst.active.line.sheaveCount 7 = 2 ∧ (s.stationRec 7).sheaveActive[0]? = some true ∧
        (s.stationRec 7).sheaveActive[1]? = some false ∧ (s.stationRec 7).reqFast = true)) ∧
    ((live.stationRec 7).reqFast = false ∧ (live.stationRec 7).reqService = false) ∧ live.CausesOk ∧
    (tower7 .live).CausesOk :=
  ⟨by decide +kernel, by decide +kernel, live_causesOk, tower7_causesOk _⟩

theorem witness_TripRaisesRemoteTrip :
    (live.stn.records.length = 14 ∧ live.present 13 = true ∧ (live.stationRec 13).state ≠ .excluded ∧
      live.msv.causes.length < 31 ∧ (live.stationRec 13).reqService = false ∧ (live.stationRec 13).reqFast = false) ∧
    (live.CausesOk ∧ live.Consistent) ∧
    ((tower7 .excluded).present 7 = true ∧ ((tower7 .excluded).stationRec 7).state = .excluded) ∧
    (∀ enable, (let s := { live with sst := { active := { line := { line67 with tripCallEnable := enable } } } }
      (s.stationRec 13).state = .live ∧ (s.stationRec 13).reqFast = false ∧ s.cal.table = [] ∧
        s.sst.active.line.tripCallEnable = enable)) :=
  ⟨by decide +kernel, ⟨live_causesOk, by constructor <;> decide +kernel⟩, by decide +kernel, by decide +kernel⟩

theorem witness_StationsLeaveAndRejoin :
    (let s := { tower7 .live with pins := { setupKey := true }, now := 2500 }
     (31 < 32 ∧ Memory.wf s.mem = true ∧ s.stn.records.length = 14 ∧ s.present 7 = true ∧ s.msv.causes.length < 30 ∧
      (s.stationRec 7).timer = some 2500 ∧ 2500 ≤ s.now ∧
      (let u := { s with now := 2499 }; (u.stationRec 7).timer = some (u.now + 1)) ∧
      s.sst.active.line.supervised 7 = true ∧ s.pins.setupKey = true ∧
      s.msv.state = .held ∧ (s.stationRec 7).state = .live ∧ s.excludedCount = 0) ∧ s.CausesOk) ∧
    (let s := { tower7 .excluded with pins := { setupKey := true } }
     ((s.stationRec 7).timer = none ∧ s.pins.setupKey = true ∧ (s.stationRec 7).state = .excluded ∧
      s.excludedCount = 1) ∧ s.CausesOk) :=
  have live := tower7_causesOk .live
  have out := tower7_causesOk .excluded
  ⟨⟨by decide +kernel, live.identity, live.category⟩, by decide +kernel, out.identity, out.category⟩

/-- A call record. -/
def callRec (id caller callee : Nat) (state : CallState) (parties : List Nat) (context : Option Nat := none) : CallRec :=
  ⟨id, caller, callee, false, .station, context, state, parties, {}, 0, {}, if state = .waiting then some 120000 else none,
    if state = .ringing then some 30000 else none, false, 0, 0⟩

/-- The part with a holding call of id 255 and a waiting CALL of context 0. -/
def talking (first : CallRec) (mark : Bool) : State :=
  { liveTaken (.call 9 0) with
    cal := { table := [first, callRec 2 0 9 .waiting [0] (some 0)], nextId := 3, breakMark := mark } }

theorem witness_RequestCreatesCall :
    (let s := { live with cal := { nextId := 255 }, obc := { contexts := ctx0 3 .start } }
     31 < 32 ∧ Memory.wf s.mem = true ∧ s.cal.table.length < 5 ∧ 1 ≤ s.cal.nextId ∧ s.cal.nextId ≤ 255 ∧
      (∀ r ∈ s.cal.table, r.id ≠ s.cal.nextId) ∧ s.cal.breakMark = false ∧ ordinaryPlace s.lnc.queue = true ∧
      (s.stationRec 13).state = .live ∧ s.requestCase 13 4 = .seekRoom ∧ s.freeContext? = some 1 ∧
      s.requestCase 0 13 = .seekRoom ∧ s.cal.table = []) ∧
    (let s := talking (callRec 255 4 13 .talking [4, 13]) false
     s.cal.table.length < 5 ∧ (∀ r ∈ s.cal.table, r.id ≠ s.cal.nextId) ∧ s.cal.breakMark = false ∧
      ordinaryPlace s.lnc.queue = true ∧ s.requestCase 11 7 = .seekRoom ∧ s.freeContext? = some 1 ∧
      s.requestCase 0 7 = .seekRoom ∧ s.cal.holding.any (fun h => h.urgent || !false) = true) := by decide +kernel

/-- R127, R128, R133: a NORMAL call preempted by an URGENT request, a full table that displaces its youngest waiting
NORMAL call, and the requests that are turned away. -/
theorem witness_RequestCreatesCall_denied :
    (let s := { talking (callRec 255 4 13 .talking [4, 13]) false with sst := { active := { line := line67 } } }
     s.cal.table.head?.any (fun h => !h.urgent && decide (h.state ≠ .waiting)) = true ∧ s.requestCase 11 7 = .seekRoom ∧
      ∀ r ∈ s.cal.table.tail, r.state = .waiting ∧ r.urgent = false ∧ r.id ≠ 255) ∧
    (∀ pressing, (let first := { callRec 1 4 13 .talking [4, 13] with urgent := true }
     let rest := [callRec 2 0 9 .waiting [0], callRec 3 9 4 .waiting [9], callRec 4 7 4 .waiting [7],
       { callRec 5 7 9 .waiting [7] with urgent := pressing }]
     let s := { live with cal := { table := first :: rest, nextId := 255 } }
     s.cal.holding.any (·.urgent) = true ∧ 5 ≤ s.cal.table.length ∧ (s.cal.table.map (·.id)).Nodup ∧
      (∀ r ∈ s.cal.table, r.id ≠ s.cal.nextId) ∧ s.requestCase 11 7 = .seekRoom ∧ s.requestCase 0 7 = .seekRoom ∧
      s.requestCase 9 4 = .duplicate ∧ s.requestCase 0 9 = .duplicate ∧
      (s.cal.table.drop (if pressing then 4 else 5)).all (fun r => r.state ≠ .waiting || r.urgent) = true)) ∧
    (let s := tower7 .silent
     s.present 7 = true ∧ (s.stationRec 7).state = .silent ∧ (s.stationRec 4).state = .live ∧ s.present 4 = true ∧
      s.freeContext? = some 0 ∧ s.present 5 = false) := by decide +kernel

theorem witness_OffHookConnectsCall :
    (∀ callee ∈ [13, 0, 15], (let r := callRec 255 4 callee .ringing [4]
      let s := talking r false
      31 < 32 ∧ Memory.wf s.mem = true ∧ s.cal.table = r :: s.cal.table.tail ∧ r.state = .ringing ∧ r.id ≤ 255 ∧
        (∀ x ∈ s.cal.table.tail, x.id ≠ r.id) ∧ s.present 13 = true ∧ (s.stationRec 13).state = .live ∧
        r.callee = callee ∧ 0 ∉ r.parties ∧ s.cal.breakMark = false ∧ ordinaryPlace s.lnc.queue = true ∧
        s.cal.find 7 = none)) ∧
    (talking (callRec 255 4 0 .ringing [4]) true).cal.breakMark = true := by decide +kernel

theorem witness_CallEndGivesPairOn :
    (∀ h ∈ [callRec 1 4 0 .ringing [4], callRec 1 0 4 .talking [0, 4], callRec 1 4 13 .talking [4, 13]],
      (let s := talking h true
       Memory.wf s.mem = true ∧ s.cal.table = h :: s.cal.table.tail ∧ (s.cal.table.map (·.id)).Nodup ∧
        (∀ x ∈ s.cal.table.tail, x.state = .waiting) ∧ h.state ≠ .waiting ∧
        (h.state = .ringing → h.ringTimer ≠ none) ∧ (h.caller = 0 ∨ 0 ∉ h.parties) ∧
        (∀ w ∈ s.cal.table.tail, w.waitTimer ≠ none ∧ w.context = some 0) ∧
        s.context 0 = some ⟨9, 31, .call 9 0, {}⟩ ∧ s.slipState 31 = 2 ∧ s.slipTicket 31 = 9 ∧ s.cal.breakMark = true)) ∧
    (callRec 1 4 0 .ringing [4]).state = .ringing ∧ (callRec 1 0 4 .talking [0, 4]).caller = 0 ∧
      0 ∉ (callRec 1 4 13 .talking [4, 13]).parties := by decide +kernel

/-- R131, R132, R134: the valley hangs up a call that waits; a station in a call, and the caller of a ringing one, hang
up; a station named by the holding call and by a waiting one falls silent. -/
theorem witness_CallEndGivesPairOn_left :
    (∀ mark, (let s := talking (callRec 1 4 13 .talking [4, 13]) mark
     let w := callRec 2 0 9 .waiting [0] (some 0)
     s.cal.table.tail.head? = some w ∧ w.caller = 0 ∧ w.waitTimer ≠ none ∧ w.context = some 0 ∧
      s.context 0 = some ⟨9, 31, .call 9 0, {}⟩ ∧ (30 : Nat) ≠ 31 ∧ s.slipState 31 = 2 ∧ s.slipTicket 31 = 9)) ∧
    (∀ h ∈ [callRec 255 4 13 .talking [4, 13], callRec 255 13 15 .talking [13, 4], callRec 255 13 4 .ringing [13]],
      (let s := talking h false
       s.present 13 = true ∧ (s.stationRec 13).state = .live ∧ s.lnc.queue.length < 12 ∧
        ordinaryPlace s.lnc.queue = true ∧ ((h.state = .talking ∧ (h.callee ≠ 15 ∧ 13 ∈ h.parties ∨
          h.callee = 15 ∧ h.caller = 13)) ∨ (h.state = .ringing ∧ h.caller = 13)))) ∧
    (let record (a : Nat) (s : State) : State :=
       { s with stn := { records := s.stn.records.set a { state := .live, timer := some 2500 } }, now := 2500 }
     let involves (a : Nat) (x : CallRec) : Bool := x.caller = a || x.callee = a || x.parties.contains a
     (let s := record 13 (talking (callRec 1 4 13 .talking [4, 13]) false)
      (s.stationRec 13).timer = some s.now ∧ s.present 13 = true ∧ s.cal.table.tail.any (involves 13) = false) ∧
     (let s := record 9 (talking (callRec 1 4 13 .talking [4, 13]) false)
      (s.stationRec 9).timer = some s.now ∧ s.present 9 = true ∧ (s.cal.table.take 1).any (involves 9) = false ∧
        s.cal.table.tail.head?.any (fun w => decide (w.callee = 9 ∧ w.caller = 0)) = true)) := by decide +kernel

theorem witness_PairStateIsAnnounced :
    State.reset.cal.reannounce = none ∧
    (let s := { live with cal := { reannounce := some 5000 } }
     s.cal.reannounce ≠ none ∧ s.cal.breakMark = false ∧ ordinaryPlace s.lnc.queue = true ∧ s.cal.holding = none) ∧
    (let s := { talking (callRec 1 4 0 .ringing [4]) false with
       cal := { (talking (callRec 1 4 0 .ringing [4]) false).cal with reannounce := some 5000 } }
     s.cal.reannounce ≠ none ∧ s.cal.breakMark = false ∧ ordinaryPlace s.lnc.queue = true ∧ s.cal.holding.isSome = true) := by
  decide +kernel

/-- The supervisor in RUN with every order accepted. -/
def running : State := { runs [] with msv := { state := .run, chainOut := true, target := 150, ceiling := 150, speedRef := 4095 } }

theorem running_obeys : running.Obeys := by constructor <;> decide +kernel

theorem crowded_obeys : crowded.Obeys := by constructor <;> decide +kernel

/-- The part HELD at standstill with an empty cause list. -/
def held : State := { still [] with msv := { state := .held } }

theorem held_obeys : held.Obeys := by constructor <;> decide +kernel

theorem running_causesOk : running.CausesOk := runs_causesOk []

theorem held_causesOk : held.CausesOk := ⟨List.nodup_nil, fun _ h => by cases h⟩

theorem witness_OperatorStopsLine :
    (31 < 32 ∧ Memory.wf running.mem = true ∧ running.msv.state ≠ .standby ∧ running.msv.causes.length < 31 ∧
      0 < running.msv.ceiling ∧ running.lnc.queue.length < 16) ∧ running.Obeys ∧ running.CausesOk ∧
    (crowded.msv.state ≠ .standby ∧ crowded.msv.causes.length = 30) ∧ crowded.Obeys ∧ crowded.CausesOk :=
  ⟨by decide +kernel, running_obeys, running_causesOk, by decide +kernel, crowded_obeys, crowded_causesOk⟩

/-- The part HELD with a full cause list that holds neither operator stop. -/
def overfull (aggregate : Option Aggregate) : State :=
  { still [] with msv := { state := .held, causes := ⟨.gripHigh, .service, 0, {}, 0, .activeUnacked⟩ :: thirty, aggregate := aggregate } }

/-- R145: both stops find a full cause list, with the aggregate entry set and not. -/
theorem witness_OperatorStopsLine_overflow :
    (∀ g ∈ [none, some (⟨{}, 255⟩ : Aggregate)], (let s := overfull g
      s.msv.state ≠ .standby ∧ 31 ≤ s.msv.causes.length ∧ Memory.wf s.mem = true ∧ s.lnc.queue.length < 15 ∧
        (∀ c ∈ s.msv.causes, c.isOf .operatorStop 0 = false ∧ c.isOf .operatorFast 0 = false) ∧ s.msv.aggregate = g)) ∧
    (overfull none).Obeys ∧ (overfull none).CausesOk ∧ (overfull none).Consistent ∧
    (∃ c ∈ (after (.stop 31) crowded).msv.causes, c.isOf .operatorStop 0 = true) :=
  ⟨by decide +kernel, by constructor <;> decide +kernel, by constructor <;> decide +kernel,
    by constructor <;> decide +kernel, by decide +kernel⟩

theorem witness_StartAndResumeMoveSupervisor :
    (State.reset.msv.state = .standby ∧ State.reset.sst.active.firstFailure = none) ∧
    (held.msv.state = .held ∧ held.rpm.standstill = true ∧ held.msv.hasLatched = false ∧ held.trk.state = .tracking ∧
      held.pins.chainSense = true ∧ Memory.wf held.mem = true ∧ held.msv.causes.length < 31 ∧
      running.pins.chainSense = true ∧ running.msv.chainOut = true) ∧
    (let s := { held with pins := { chainSense := false } }
     (s.msv.state = .held ∧ s.rpm.standstill = true ∧ s.pins.chainSense = false) ∧ s.Obeys ∧ s.CausesOk) ∧
    held.Obeys ∧ held.CausesOk ∧ running.Obeys ∧ running.CausesOk :=
  ⟨by decide +kernel, by decide +kernel,
    ⟨by decide +kernel, by constructor <;> decide +kernel, held_causesOk.identity, held_causesOk.category⟩,
    held_obeys, held_causesOk, running_obeys, running_causesOk⟩

theorem witness_AckRemovesClearedCauses :
    (31 < 32 ∧ Memory.wf crowded.mem = true ∧ crowded.msv.state ≠ .standby ∧ (crowded.msv.causes[29]?).isSome = true ∧
      29 < 31 ∧ crowded.msv.causes.length ≤ 30 ∧ 30 < 31) ∧ crowded.Obeys ∧ crowded.CausesOk :=
  ⟨by decide +kernel, crowded_obeys, crowded_causesOk⟩

theorem running_named : running.Named := by constructor <;> decide +kernel

theorem held_named : held.Named := by constructor <;> decide +kernel

/-- The part in order, with a rope speed, an exceed count and a watch. -/
def window (base : State) (v : Nat) (watch : Option Watch) : State :=
  { base with rpm := { base.rpm with v := v }, msv := { base.msv with exceed := 1, watch := watch } }

theorem window_inOrder (v : Nat) (w : Option Watch) :
    (window running v w).Obeys ∧ (window running v w).CausesOk ∧ (window running v w).Named ∧
      (window held v w).Obeys ∧ (window held v w).CausesOk ∧ (window held v w).Named :=
  have ⟨a, b, c, d, e, f⟩ := running_obeys
  have ⟨g, h, i, j, k, l⟩ := held_obeys
  have r := running_named
  have q := held_named
  ⟨⟨a, b, c, d, e, f⟩, ⟨running_causesOk.1, running_causesOk.2⟩,
    ⟨r.entries, r.fresh, r.z3, r.calls, r.nextCall, r.callRange, r.waiting, r.speed⟩,
    ⟨g, h, i, j, k, l⟩, ⟨held_causesOk.1, held_causesOk.2⟩,
    ⟨q.entries, q.fresh, q.z3, q.calls, q.nextCall, q.callRange, q.waiting, q.speed⟩⟩

theorem witness_SupervisorWindowChecksSpeed :
    (∀ v w, (window running v w).Obeys ∧ (window running v w).CausesOk ∧ (window running v w).Named ∧
      (window held v w).Obeys ∧ (window held v w).CausesOk ∧ (window held v w).Named) ∧
    ((window running 171 none).rpm.v = 150 + max 20 (150 / 10) + 1 ∧ (window running 170 none).rpm.v ≤ 170 ∧
      20 < (window held 21 none).rpm.v ∧ (window held 21 none).msv.ropeCreep = false ∧
      1 ≤ (window running 171 none).msv.exceed ∧ (window running 171 none).msv.overspeed = false ∧
      (window running 201 (some ⟨200, 40, 0, 200⟩)).msv.watch ≠ none ∧
      (window running 201 (some ⟨200, 40, 0, 200⟩)).msv.decelFail = false) ∧
    (let s := { held with msv := { state := .stoppingService, chainOut := true } }
     s.rpm.standstill = true ∧ s.msv.state = .stoppingService) :=
  ⟨window_inOrder, by decide +kernel, by decide +kernel⟩

theorem running_consistent : running.Consistent := by constructor <;> decide +kernel

/-- R157, R158: in RUN at its bound, with and without a watch whose envelope has come down to it. -/
theorem witness_SupervisorWindowChecksSpeed_run :
    ∀ w ∈ [none, some (⟨200, 40, 0, 200⟩ : Watch)], (let s := window running 150 w
      s.msv.state = .run ∧ s.rpm.v ≤ 170 ∧ s.msv.causes.length < 31) ∧
      (window running 150 w).Consistent := by
  intro w _
  have h := running_consistent
  exact ⟨⟨rfl, (by decide : 150 ≤ 170), (by decide : 0 < 31)⟩, h.remote, h.limits, h.trips⟩

/-- The part in RUN at a ceiling in force of 0, as after a SET_CEILING of 0. -/
def stood (v : Nat) (w : Option Watch) : State :=
  { runs [] with
    rpm := { (runs []).rpm with v := v, standstill := false }
    msv := { state := .run, chainOut := true, opCeiling := 0, exceed := 1, watch := w } }

theorem stood_named (v : Nat) (w : Option Watch) : (stood v w).Named :=
  have r := running_named
  ⟨r.entries, r.fresh, r.z3, r.calls, r.nextCall, r.callRange, r.waiting, r.speed⟩

/-- R160, R161: a speed above the bound takes RUN to STOPPING_FAST, with a watch, without one, and at a ceiling of 0. -/
theorem witness_SupervisorWindowChecksSpeed_raise :
    ∀ p ∈ [(21, none), (201, some (⟨200, 40, 0, 200⟩ : Watch))],
      ((stood p.1 p.2).Obeys ∧ (stood p.1 p.2).CausesOk) ∧
      (let s := stood p.1 p.2
       s.msv.state = .run ∧ s.msv.ceiling = 0 ∧ s.now = 0 ∧ 1 ≤ s.msv.exceed ∧ s.rpm.standstill = false ∧
        s.msv.overspeed = false ∧ s.msv.decelFail = false ∧ max 20 ((p.2.map (·.e0)).getD 0) < s.rpm.v) := by
  intro p h
  simp only [List.mem_cons, List.not_mem_nil, or_false] at h
  obtain rfl | rfl := h <;>
    exact ⟨⟨by constructor <;> decide +kernel, List.nodup_nil, fun _ h => by cases h⟩, by decide +kernel⟩

theorem witness_HostWritesReachTheirTarget :
    State.reset.obc.armed = false ∧ (0x7FFE < 0x8000 ∧ 0x7FFE % 2 = 0) ∧ (0x24 < 0x8000 ∧ 0x24 % 2 = 0) ∧
      (0x22 < 0x8000 ∧ 0x22 % 2 = 0 ∧ ¬ (0x22 = 0x24 ∨ 0x22 = 0x26 ∨ (0x100 ≤ 0x22 ∧ 0x22 < 0x900) ∨ 0x4C00 ≤ 0x22)) ∧
      (0x7FFF < 0x8000 ∧ 0x7FFF % 2 = 1) ∧ (0 : Word) ≠ 0x5A ∧ (0 : Word) ≠ 0xA5 := by decide +kernel

theorem witness_PostTakesTicketsInOrder :
    (Memory.wf State.reset.mem = true ∧
      ∀ k ∈ List.range 32, State.reset.slipState k = 1 → State.reset.slipTicket k ≠ State.reset.obc.nextTicket) ∧
    (∀ kind ∈ [0, 27, 5], (let s := { held with mem := memWrite [⟨0x8C2, 1⟩, ⟨0x8C4, 150⟩] 0x8C3 (BitVec.ofNat 8 kind) }
      Memory.wf s.mem = true ∧ s.slipState 31 = 1 ∧ s.slipTicket 31 = s.obc.nextTicket ∧
        (∀ j ∈ List.range 31, ¬ (s.slipState j = 1 ∧ s.slipTicket j = s.obc.nextTicket)) ∧
        (∀ j ∈ List.range 32, s.slipState j = 1 → s.slipTicket j ≠ s.obc.nextTicket + 1) ∧
        (memRead s.mem (slipBase 31 + 3)).toNat = kind ∧ s.msv.state ≠ .standby ∧
        s.arg16 31 0 = s.sst.active.rope.designMax)) := by decide +kernel

theorem witness_OrdersAreRefusedOrOrphaned :
    (31 < 32 ∧ Memory.wf State.reset.mem = true ∧ State.reset.msv.state = .standby) ∧
    (let s := { held with obc := { contexts := List.replicate 8 (some ⟨9, 31, .start, {}⟩) } }
     s.msv.state ≠ .standby ∧ s.obc.contexts.all (·.isSome) = true) ∧
    (let s := { liveTaken (.releaseCabin 5) with mem := slipMem 31 3 9, lch := { insertion := some ⟨5, 0, 60000⟩ } }
     s.lch.insertion = some ⟨5, 0, 60000⟩ ∧ s.context 0 = some ⟨9, 31, .releaseCabin 5, {}⟩ ∧
      ¬ (s.slipState 31 = 2 ∧ s.slipTicket 31 = 9) ∧ s.obc.span < 256 ∧ s.obc.missedMask = 0 ∧ s.obc.missedCount = 0) := by
  decide +kernel

theorem witness_JournalWritesOrCounts :
    (∀ span ∈ [254, 255, 256],
      (let s := { runs [] with obc := { written := BitVec.ofNat 32 span, missedMask := 4#29, missedCount := 1 } }
       s.lch.divert = none ∧ (s.obc.written - s.obc.taken).toNat = span ∧ s.obc.missedMask ≠ 0)) ∧
    (let s := { runs [] with obc := { written := 255 } }
     (s.obc.written - s.obc.taken).toNat < 256 ∧ s.obc.missedMask = 0 ∧ s.obc.missedCount = 0) := by decide +kernel

/-- The part in STANDBY under the key, with pending copies at the ends of their ranges. -/
def pendingCopies (cap : Byte) (lock : Lock) (key : Bool) : State :=
  { State.reset with
    pins := { setupKey := key }
    mem := memWrite [⟨0x4C40, 200⟩, ⟨0x4C46, 5⟩, ⟨0x4C47, 3⟩, ⟨0x4CC7, 3⟩] 0x4CC6 cap
    sst := { State.reset.sst with locks := List.replicate 6 lock } }

theorem witness_AdoptReplacesActiveCopy :
    (let s := pendingCopies 0xE7 .unlocked true
     31 < 32 ∧ Memory.wf s.mem = true ∧ s.sst.revisions.length = 6 ∧ s.sst.locks.length = 6 ∧
      s.sst.locks[3]? = some .unlocked ∧ s.pins.setupKey = true ∧ s.msv.state = .standby ∧
      (∀ i ∈ List.range 4, s.word (0x4CC0 + 2 * i) ≤ 999) ∧ s.word 0x4CC6 = 999 ∧ s.sst.revisions[3]? = some 1 ∧
      s.sst.locks[1]? = some .unlocked ∧ s.sst.revisions[1]? = some 1 ∧
      ∀ c ∈ [Channel.d0, .d1, .d2, .d3], (memRead s.mem (0x4C40 + 8 * channelCode c + 6)).toNat ≤ 5 ∧
        (memRead s.mem (0x4C40 + 8 * channelCode c + 7)).toNat ≤ 3) ∧
    (let s := pendingCopies 0xE8 .unlocked true
     999 < s.word (0x4CC0 + 2 * 3) ∧ ∀ i ∈ List.range 3, s.word (0x4CC0 + 2 * i) ≤ 999) ∧
    (∀ table ∈ List.range 6, (pendingCopies 0 .locked true).sst.locks[table]? ≠ some .unlocked) ∧
    (let s := pendingCopies 0 .unlocked false
     s.sst.locks[5]? = some .unlocked ∧ s.pins.setupKey = false) := by decide +kernel

/-- The bytes of a pending table from an offset, each field as two bytes or as one. -/
def fields (a : Nat) : List (Nat × Bool) → List Host.Cell
  | [] => []
  | (v, true) :: rest => ⟨a, BitVec.ofNat 8 v⟩ :: ⟨a + 1, BitVec.ofNat 8 (v / 256)⟩ :: fields (a + 2) rest
  | (v, false) :: rest => ⟨a, BitVec.ofNat 8 v⟩ :: fields (a + 1) rest

/-- R192: pending zone, rope and line plans with fields at the ends of their ranges, and two registries, one of which
repeats a tag. -/
theorem witness_AdoptReplacesActiveCopy_plans :
    let holding (cells : List Host.Cell) : State :=
      { pendingCopies 0xE7 .unlocked true with mem := cells.foldl (fun m c => memWrite m c.1 c.2) [] }
    let w (v : Nat) : Nat × Bool := (v, true)
    let b (v : Nat) : Nat × Bool := (v, false)
    let zone := fields 0x4C00 [w 50, w 1, w 5000, w 1000, w 50, w 1, w 0, w 0, w 50, w 1, w 50, w 1, w 500, w 50000, b 50, b 6,
      w 20, b 95, w 999]
    let rope := fields 0x4C80 [w 100, w 20000, b 25, w 100, w 200, w 20, b 5, w 1700, w 300, w 500, w 1500, w 1700, w 20, w 21, w 21]
    let line := fields 0x4D00 [b 2, b 7, w 199, b 9, w 301, b 3, b 2, b 1, b 0, b 0, w 399, b 13, b 1, b 4, w 12000]
    let registry (tag : Nat) := fields 0x4E00 [b 1, w 7, b 0, w 7, b 1, w tag]
    (let at16 (i : Nat) := (holding zone).word (0x4C00 + i)
     let at8 (i : Nat) := (memRead (holding zone).mem (0x4C00 + i)).toNat
     Memory.wf (holding zone).mem = true ∧
     (∀ i, i < 6 → i ≠ 3 → 50 ≤ at16 (4 * i) ∧ at16 (4 * i) ≤ 5000 ∧ 1 ≤ at16 (4 * i + 2) ∧ at16 (4 * i + 2) ≤ 1000) ∧
      at16 24 = 500 ∧ at16 26 = 50000 ∧ at8 28 = 50 ∧ at8 29 = 6 ∧ at16 30 = 20 ∧ at8 32 = 95 ∧ at16 33 = 999) ∧
    (let at16 (i : Nat) := (holding rope).word (0x4C00 + i)
     let at8 (i : Nat) := (memRead (holding rope).mem (0x4C00 + i)).toNat
     Memory.wf (holding rope).mem = true ∧ at16 0x80 = 100 ∧ at16 0x82 = 20000 ∧ at8 0x84 = 25 ∧ at16 0x85 = 100 ∧
      at16 0x87 = 200 ∧ at16 0x89 = 20 ∧ at8 0x8B = 5 ∧ at16 0x8C = 1700 ∧ at16 0x8E < at16 0x90 ∧ at16 0x90 < at16 0x92 ∧
      at16 0x92 < at16 0x94 ∧ at16 0x94 = at16 0x8C ∧ at16 0x96 = 20 ∧ at16 0x96 < at16 0x98 ∧ at16 0x98 = at16 0x9A) ∧
    (let at16 (i : Nat) := (holding line).word (0x4C00 + i)
     let at8 (i : Nat) := (memRead (holding line).mem (0x4C00 + i)).toNat
     Memory.wf (holding line).mem = true ∧ at8 0x100 = 2 ∧ at8 0x101 = 7 ∧ at16 0x102 = 199 ∧ at8 0x104 = 9 ∧
      at16 0x105 = 301 ∧ at8 0x108 = 2 ∧ at8 0x109 = 1 ∧ at8 0x10A ≤ 1 ∧ at8 0x10B ≤ 4 ∧ at16 0x10C = 399 ∧
      at8 0x10E = 13 ∧ at8 0x10F = 1 ∧ at8 0x110 = 4) ∧
    (∀ tag ∈ [7, 8], (let at16 (i : Nat) := (holding (registry tag)).word (0x4C00 + i)
     let at8 (i : Nat) := (memRead (holding (registry tag)).mem (0x4C00 + i)).toNat
     let named (i : Nat) : Bool := decide (at8 (0x200 + 3 * i) % 2 = 1)
     Memory.wf (holding (registry tag)).mem = true ∧ (∀ i, i < 96 → named i = decide (i = 0 ∨ i = 2)) ∧
      at16 0x201 = 7 ∧ at16 0x207 = tag)) := by
  refine ⟨?_, ?_, ?_, ?_⟩ <;> decide +kernel

theorem witness_SetupStoreLocksSavesAndCounts :
    (let s := pendingCopies 0 .locked true
     31 < 32 ∧ Memory.wf s.mem = true ∧ s.sst.locks.length = 6 ∧ s.pins.setupKey = true ∧
      (∀ table ∈ List.range 6, s.sst.locks[table]? ≠ some .tight) ∧ s.msv.state = .standby ∧ s.sst.saving = none ∧
      s.freeContext? = some 0 ∧ .tight ∉ s.sst.locks ∧ s.sst.set1.crcOk = false) ∧
    (pendingCopies 0 .locked false).pins.setupKey = false ∧
    (let s := { State.reset with sst := { set1 := ⟨{}, true⟩ }, pins := { setupKey := true } }
     s.sst.set1.crcOk = true ∧ s.msv.state = .standby ∧ .tight ∉ s.sst.locks ∧ s.sst.saving = none) ∧
    (let s := { liveTaken (.saveSet 1) with sst := { saving := some ⟨1, {}, List.replicate 6 1, 0⟩ } }
     s.sst.saving = some ⟨1, {}, List.replicate 6 1, 0⟩ ∧ s.context 0 = some ⟨9, 31, .saveSet 1, {}⟩ ∧
      s.slipState 31 = 2 ∧ s.slipTicket 31 = 9) := by decide +kernel

/-- R181, R183: tables that are all TIGHT under the key and without it, user set 2, and a set whose CRC fails. -/
theorem witness_SetupStoreLocksSavesAndCounts_tight :
    (∀ key, (let s := pendingCopies 0 .tight key
      s.pins.setupKey = key ∧ s.sst.locks.length = 6 ∧ (∀ table ∈ List.range 6, s.sst.locks[table]? = some .tight) ∧
        Memory.wf s.mem = true ∧ .tight ∈ s.sst.locks)) ∧
    (∀ n ∈ [1, 2], (let s := { liveTaken (.saveSet n) with sst := { saving := some ⟨n, {}, List.replicate 6 1, 0⟩ } }
      s.sst.saving = some ⟨n, {}, List.replicate 6 1, 0⟩ ∧ s.context 0 = some ⟨9, 31, .saveSet n, {}⟩ ∧
        s.slipState 31 = 2 ∧ s.slipTicket 31 = 9)) ∧
    (∀ ok, (let s := { State.reset with sst := { set1 := ⟨{}, ok⟩, set2 := ⟨{}, ok⟩ }, pins := { setupKey := true } }
      s.sst.set1.crcOk = ok ∧ s.sst.set2.crcOk = ok ∧ s.msv.state = .standby ∧ .tight ∉ s.sst.locks ∧
        s.sst.saving = none ∧ s.freeContext? = some 0)) := by decide +kernel

theorem witness_ResetsStartThePart :
    let s := { crowded with obc := { armed := true }, sst := { startSet := 1, set1 := ⟨{}, true⟩, resetCount := 65535 } }
    s.obc.armed = true ∧ Memory.wf s.mem = true ∧ s.sst.startSet = 1 ∧ s.sst.set1.crcOk = true := by decide +kernel

theorem witness_StepRunsFrontCommand : State.reset.pending = [] := by decide

theorem held_sized : held.Sized := by constructor <;> decide +kernel

/-- A step answers a next state. -/
def isNext (o : Host.Outcome State Fault Refusal) : Bool :=
  match o with
  | .next _ => true
  | _ => false

theorem next_of_isNext {o : Host.Outcome State Fault Refusal} (h : isNext o = true) : ∃ t, o = .next t := by
  cases o <;> simp_all [isNext]

theorem witness_StepsKeepChainAndCeiling :
    running.Obeys ∧ running.CausesOk ∧ ∃ t, step { running with pending := [.fastStop 31] } = .next t :=
  ⟨running_obeys, running_causesOk, next_of_isNext (by decide +kernel)⟩

theorem witness_StepsKeepTablesAndMemory :
    held.Sized ∧ Memory.wf held.mem = true ∧ [Instr.barCabin 31 96].head?.any (·.writesAnywhere) = false ∧
      ∃ t, step { held with pending := [.barCabin 31 96] } = .next t :=
  ⟨held_sized, by decide +kernel, by decide, next_of_isNext (by decide +kernel)⟩

theorem witness_StepsKeepNamesInOrder :
    held.Sized ∧ held.CausesOk ∧ held.Named ∧ held.Consistent ∧ ∃ t, step { held with pending := [.gOutRising] } = .next t :=
  ⟨held_sized, held_causesOk, held_named, by constructor <;> decide +kernel, next_of_isNext (by decide +kernel)⟩

theorem witness_FramesRoundTrip :
    let f : LineFrame := ⟨15, 13, 15, 15, List.replicate 16 0xFF⟩
    f.priority < 16 ∧ 1 ≤ f.sender ∧ f.sender ≤ 13 ∧ f.dest < 16 ∧ f.dest ≠ 14 ∧ f.kind < 16 ∧ f.payload.length ≤ 16 ∧
      unstuff (stuff f.region) = some f.region := by decide +kernel

end Sys2Proof.Tests
end

section
/-! PROOF. What a rope window end measures (R53 to R56): the later stages of the window end (R57, R58, R62 to R65)
leave the measured values alone, so they are those of the closed window. -/

namespace Sys2Proof.Machine

open Sys2Proof

/-! ## The measured values of the rope monitor -/

/-- The values of a rope window that R53 to R56 compute: speeds, travel, rope distance and the two agreement counts. -/
structure RopeMeasurement where
  vA : Nat
  vB : Nat
  v : Nat
  dWin : Nat
  dist : DWord
  rem : Nat
  disagreeCount : Nat
  agreeCount : Nat

/-- The measured values that the rope monitor holds. -/
def Rpm.measurement (r : Rpm) : RopeMeasurement :=
  ⟨r.vA, r.vB, r.v, r.dWin, r.dist, r.rem, r.disagreeCount, r.agreeCount⟩

/-! ## Shared operations that leave the rope monitor unchanged -/

theorem ChangesOnly.rpm_eq {s t : State} {ps : List Part} (h : ChangesOnly s ps t) (hp : .rpm ∉ ps := by decide) :
    t.rpm = s.rpm := h.same .rpm hp

section
variable (s : State)

@[simp] theorem raiseCause_rpm (code : CauseCode) (category : Category) (index : Nat) :
    (s.raiseCause code category index).rpm = s.rpm := (raiseCause_changes s ..).rpm_eq

@[simp] theorem endCause_rpm (code : CauseCode) (index : Nat) : (s.endCause code index).rpm = s.rpm :=
  (endCause_changes s ..).rpm_eq

@[simp] theorem sideFollow_rpm (code : CauseCode) (category : Category) (index : Nat) (held outside : Bool) :
    (s.sideFollow code category index held outside).rpm = s.rpm := (sideFollow_changes s ..).rpm_eq

@[simp] theorem journal_rpm (kind : JKind) (block : Block) (cabin : Nat) (detail : List Byte) :
    (s.journal kind block cabin detail).rpm = s.rpm := (journal_changes s ..).rpm_eq

theorem when_rpm {c : Bool} {f : State → State} (h : (f s).rpm = s.rpm) : (s.when c f).rpm = s.rpm := by
  unfold State.when
  split
  · exact h
  · rfl

/-! ## The later stages of a window end keep the measured values -/

theorem tachoFollow_measurement : s.tachoFollow.rpm.measurement = s.rpm.measurement := by
  unfold State.tachoFollow
  split
  · split <;> simp [Rpm.measurement]
  · split <;> simp [Rpm.measurement]

theorem setStandstill_measurement (value : Bool) :
    (s.setStandstill value).rpm.measurement = s.rpm.measurement := by
  unfold State.setStandstill
  split
  · rfl
  · simp [Rpm.measurement]

theorem standstillCount_measurement : s.standstillCount.rpm.measurement = s.rpm.measurement := by
  unfold State.standstillCount
  split
  · exact setStandstill_measurement _ _
  · exact setStandstill_measurement _ _

theorem thresholds_measurement (p : Nat) : (s.thresholds p).rpm.measurement = s.rpm.measurement := by
  simp [State.thresholds, Rpm.measurement]

theorem tensionSample_measurement (c : Nat) : (s.tensionSample c).rpm.measurement = s.rpm.measurement := by
  unfold State.tensionSample
  dsimp only
  split
  · rw [thresholds_measurement, when_rpm _ (endCause_rpm ..)]
    rfl
  · rw [when_rpm _ (raiseCause_rpm ..)]
    rfl

/-! ## The closed window -/

/-- The rope monitor as its window closes: the measurement of R53 and R54, then R55 and R56. -/
def windowClosed (p : RopePlan) (now : Nat) (r : Rpm) : Rpm :=
  countDisagree p (advanceDistance (Machine.closeWindow p now r))

theorem ropeWindow_measurement (tension : Nat) :
    (s.ropeWindow tension).rpm.measurement =
      (windowClosed s.sst.active.rope s.windowTime.now s.rpm).measurement := by
  unfold State.ropeWindow
  rw [tensionSample_measurement, standstillCount_measurement, tachoFollow_measurement]
  rfl

end

theorem satInc_eq_min (top n : Nat) : satInc top n = min top (n + 1) := by
  unfold satInc
  split <;> omega

/-- The two counts of R56, each as a value. -/
theorem countDisagree_eq (p : RopePlan) (r : Rpm) :
    countDisagree p r =
      { r with
        disagreeCount := if windowDisagrees p r then min 10 (r.disagreeCount + 1) else 0
        agreeCount := if windowDisagrees p r then 0 else min 10 (r.agreeCount + 1) } := by
  unfold countDisagree
  split <;> simp [satInc_eq_min, *]

section
variable (p : RopePlan) (now : Nat) (r : Rpm)

theorem windowClosed_vA : (windowClosed p now r).vA = min 999 (r.nA * p.tA / 1000) := by
  rw [windowClosed, countDisagree_eq]; rfl

theorem windowClosed_vB : (windowClosed p now r).vB = min 999 (r.nB * p.tB / 1000) := by
  rw [windowClosed, countDisagree_eq]; rfl

theorem windowClosed_v : (windowClosed p now r).v = max (windowClosed p now r).vA (windowClosed p now r).vB := by
  rw [windowClosed, countDisagree_eq]; rfl

theorem windowClosed_dWin : (windowClosed p now r).dWin = max (r.nA * p.tA) (r.nB * p.tB) := by
  rw [windowClosed, countDisagree_eq]; rfl

theorem windowClosed_dist : (windowClosed p now r).dist =
    r.dist + BitVec.ofNat 32 ((r.rem + (windowClosed p now r).dWin) / 1000) := by
  rw [windowClosed, countDisagree_eq]; rfl

/-- The remainder kept is what the whole millimetres leave of the travel (R55). -/
theorem windowClosed_rem : (windowClosed p now r).rem =
    r.rem + (windowClosed p now r).dWin - 1000 * ((r.rem + (windowClosed p now r).dWin) / 1000) := by
  have hmod : (windowClosed p now r).rem = (r.rem + (windowClosed p now r).dWin) % 1000 := by
    rw [windowClosed, countDisagree_eq]; rfl
  omega

/-- The agreement test of R56 is made on the speeds of the closed window. -/
theorem windowClosed_counts :
    let w := windowClosed p now r
    w.disagreeCount = (if windowDisagrees p w then min 10 (r.disagreeCount + 1) else 0) ∧
      w.agreeCount = (if windowDisagrees p w then 0 else min 10 (r.agreeCount + 1)) := by
  rw [windowClosed, countDisagree_eq]
  exact ⟨rfl, rfl⟩

end

theorem windowDisagrees_iff (p : RopePlan) (r : Rpm) :
    windowDisagrees p r = true ↔
      max 10 (max r.vA r.vB * p.tol / 100) < max r.vA r.vB - min r.vA r.vB := decide_eq_true_iff

/-! ## R53 to R56 -/

theorem exec_ropeWindowEnd (tension : Nat) (s : State) :
    exec (.ropeWindowEnd tension) s = .next (finish s (s.ropeWindow tension)) := rfl

/-- Settles O21: the measured values are those of the closed window, which the later stages of the window end keep. -/
theorem ropeWindowMeasuresRope : Obligations.RopeWindowMeasuresRope := by
  intro s tension
  have hkept := ropeWindow_measurement s tension
  simp only [Rpm.measurement, RopeMeasurement.mk.injEq] at hkept
  obtain ⟨hvA, hvB, hv, hdWin, hdist, hrem, hdis, hagr⟩ := hkept
  refine ⟨_, exec_ropeWindowEnd tension s, ?_⟩
  simp only [finish_rpm, hvA, hvB, hv, hdWin, hdist, hrem, hdis, hagr]
  obtain ⟨hdisagree, hagree⟩ := windowClosed_counts s.sst.active.rope s.windowTime.now s.rpm
  refine ⟨windowClosed_vA .., windowClosed_vB .., windowClosed_v .., windowClosed_dWin .., windowClosed_dist ..,
    windowClosed_rem .., fun hfar => ?_, fun hnear => ?_⟩
  · have htest := (windowDisagrees_iff ..).mpr hfar
    exact ⟨hdisagree.trans (if_pos htest), hagree.trans (if_pos htest)⟩
  · have htest := mt (windowDisagrees_iff ..).mp (Nat.not_lt.mpr hnear)
    exact ⟨hagree.trans (if_neg htest), hdisagree.trans (if_neg htest)⟩

end Sys2Proof.Machine
end

section
/-! PROOF. Every step keeps the supervisor in order (R142, R148, R149, R154, R156 to R158). The invariant has three
strengths: what holds right after a change of the cause list, what holds while the ceiling has yet to be recomputed, and
the whole. The supervisor's own operations lead from the weaker ones to the whole; every other block changes the
supervisor by raising and ending causes alone, or not at all, as its frame says. -/

namespace Sys2Proof.Machine

-- One lemma at a time, as in Laws/State.lean.
set_option Elab.async false

open Sys2Proof

/-! # The invariant and its parts -/

/-! ## Cause lists in order (R142, R148) -/

/-- A list of ordinary entries is in order: no two of one identity, each in a category of its code. -/
structure CausesInOrder (l : List Cause) : Prop where
  identity : (l.map fun c => (c.code, c.index)).Nodup
  category : ∀ c ∈ l, c.category ∈ c.code.categories

theorem State.causesOk_iff {s : State} : s.CausesOk ↔ CausesInOrder s.msv.causes :=
  ⟨fun h => ⟨h.identity, h.category⟩, fun h => ⟨h.identity, h.category⟩⟩

theorem Cause.isOf_iff {c : Cause} {code : CauseCode} {index : Nat} :
    c.isOf code index = true ↔ c.code = code ∧ c.index = index := by
  simp [Cause.isOf]

/-- Changing entries without changing whose they are keeps the list in order. -/
theorem CausesInOrder.map {l : List Cause} (h : CausesInOrder l) {f : Cause → Cause}
    (hf : ∀ x ∈ l, (f x).code = x.code ∧ (f x).index = x.index ∧ (f x).category = x.category) :
    CausesInOrder (l.map f) := by
  refine ⟨?_, ?_⟩
  · have hid : (l.map f).map (fun c => (c.code, c.index)) = l.map fun c => (c.code, c.index) := by
      rw [List.map_map]
      exact List.map_congr_left fun x hx => by
        obtain ⟨hcode, hindex, -⟩ := hf x hx
        simp [hcode, hindex]
    exact hid ▸ h.identity
  · intro c hc
    obtain ⟨x, hx, rfl⟩ := List.mem_map.mp hc
    obtain ⟨hcode, -, hcategory⟩ := hf x hx
    rw [hcode, hcategory]
    exact h.category x hx

theorem CausesInOrder.filter {l : List Cause} (h : CausesInOrder l) (p : Cause → Bool) :
    CausesInOrder (l.filter p) :=
  ⟨h.identity.sublist ((List.filter_sublist).map _), fun c hc => h.category c (List.mem_of_mem_filter hc)⟩

/-- An entry whose identity is not listed yet goes behind the others. -/
theorem CausesInOrder.append {l : List Cause} (h : CausesInOrder l) {c : Cause}
    (hnew : l.find? (·.isOf c.code c.index) = none) (hcategory : c.category ∈ c.code.categories) :
    CausesInOrder (l ++ [c]) := by
  refine ⟨?_, fun x hx => ?_⟩
  · rw [List.map_append, List.nodup_append]
    refine ⟨h.identity, by simp, ?_⟩
    rintro _ hx _ hy rfl
    obtain ⟨x, hx, hxc⟩ := List.mem_map.mp hx
    have hfresh := List.find?_eq_none.mp hnew x hx
    simp_all [Cause.isOf]
  · rcases List.mem_append.mp hx with hx | hx
    · exact h.category x hx
    · rw [List.mem_singleton.mp hx]
      exact hcategory

/-- The entry that holds an identity gives way to its successor of the same identity and category. -/
theorem CausesInOrder.replace {l : List Cause} (h : CausesInOrder l) {code : CauseCode} {index : Nat} {c c' : Cause}
    (hfind : l.find? (·.isOf code index) = some c)
    (hc' : c'.code = c.code ∧ c'.index = c.index ∧ c'.category = c.category) :
    CausesInOrder (l.map fun x => if x.isOf code index then c' else x) := by
  have hcof := List.find?_some hfind
  refine h.map fun x hx => ?_
  split
  · next hxof =>
    have hsame : x = c := List.inj_on_of_nodup_map h.identity hx (List.mem_of_find?_eq_some hfind) (by
      obtain ⟨hcode, hindex⟩ := Cause.isOf_iff.mp hxof
      obtain ⟨hcode', hindex'⟩ := Cause.isOf_iff.mp hcof
      rw [hcode, hindex, hcode', hindex'])
    exact hsame ▸ hc'
  · exact ⟨rfl, rfl, rfl⟩

/-! ## What holds while the supervisor has yet to act -/

/-- CHAIN_OUT follows the state (R154), and the cause list is in order: what still holds after a change of the list on
which the supervisor has yet to act. -/
structure State.ChainFollows (s : State) : Prop where
  chain : s.msv.chainOut = s.msv.state.chainClosed
  causes : CausesInOrder s.msv.causes

/-- The state also follows the list (R149): what still holds while the ceiling has yet to be recomputed. -/
structure State.StateFollows (s : State) : Prop extends s.ChainFollows where
  fast : s.msv.hasFast = true → s.msv.state.chainClosed = false
  latched : s.msv.hasLatched = true → s.msv.state ≠ .run

/-- The supervisor is in order: the invariant that every step keeps. -/
structure State.InOrder (s : State) : Prop where
  obeys : s.Obeys
  causesOk : s.CausesOk

section
variable {s t : State}

theorem State.InOrder.stateFollows (h : s.InOrder) : s.StateFollows :=
  ⟨⟨h.obeys.chain, State.causesOk_iff.mp h.causesOk⟩, h.obeys.fast, h.obeys.latched⟩

theorem State.InOrder.chainFollows (h : s.InOrder) : s.ChainFollows := h.stateFollows.toChainFollows

theorem State.ChainFollows.of_msv_eq (h : s.ChainFollows) (hmsv : t.msv = s.msv) : t.ChainFollows := by
  constructor <;> rw [hmsv]
  · exact h.chain
  · exact h.causes

theorem State.StateFollows.of_msv_eq (h : s.StateFollows) (hmsv : t.msv = s.msv) : t.StateFollows := by
  refine ⟨h.toChainFollows.of_msv_eq hmsv, ?_, ?_⟩ <;> rw [hmsv]
  · exact h.fast
  · exact h.latched

theorem ceilingTarget_congr (hmsv : t.msv = s.msv) (hceiling : t.sst.active.ceiling = s.sst.active.ceiling)
    (hrope : t.sst.active.rope = s.sst.active.rope) : t.ceilingTarget = s.ceilingTarget := by
  simp only [State.ceilingTarget, hmsv, hceiling, hrope]

/-- The invariant speaks of the supervisor and of its two active tables alone. -/
theorem State.InOrder.of_eq (h : s.InOrder) (hmsv : t.msv = s.msv)
    (hceiling : t.sst.active.ceiling = s.sst.active.ceiling) (hrope : t.sst.active.rope = s.sst.active.rope) :
    t.InOrder := by
  obtain ⟨chain, fast, latched, target, ceiling, speedRef⟩ := h.obeys
  refine ⟨⟨?_, ?_, ?_, ?_, ?_, ?_⟩, State.causesOk_iff.mpr ?_⟩
  all_goals simp only [hmsv, hrope, ceilingTarget_congr hmsv hceiling hrope]
  exacts [chain, fast, latched, target, ceiling, speedRef, State.causesOk_iff.mp h.causesOk]

theorem ChangesOnly.msv_eq {ps : List Part} (h : ChangesOnly s ps t) (hp : .msv ∉ ps := by decide) :
    t.msv = s.msv := h.same .msv hp

/-- An operation that leaves the supervisor and the setup store alone keeps the supervisor in order. -/
theorem State.InOrder.frame {ps : List Part} (h : s.InOrder) (hc : ChangesOnly s ps t)
    (hp : .msv ∉ ps ∧ .sst ∉ ps := by decide) : t.InOrder := by
  have hsst : t.sst = s.sst := hc.same .sst hp.2
  exact h.of_eq (hc.msv_eq hp.1) (by rw [hsst]) (by rw [hsst])

/-! ## The ceiling recomputed (R156 to R158) -/

theorem recomputeCeiling_msv (s : State) : s.recomputeCeiling.msv =
    { s.msv with
      target := s.ceilingTarget
      ceiling := min s.msv.ceiling s.ceilingTarget
      watch := if s.ceilingTarget < s.msv.ceiling then some (s.decreaseWatch s.msv.ceiling) else s.msv.watch
      speedRef := speedRefOf (min s.msv.ceiling s.ceilingTarget) s.sst.active.rope.designMax } := by
  by_cases hlt : s.ceilingTarget < s.msv.ceiling
  · simp [State.recomputeCeiling, State.recomputeSpeedRef, hlt, Nat.min_eq_right hlt.le]
  · simp [State.recomputeCeiling, State.recomputeSpeedRef, hlt, Nat.min_eq_left (Nat.le_of_not_lt hlt)]

theorem recomputeCeiling_sst (s : State) : s.recomputeCeiling.sst = s.sst :=
  (recomputeCeiling_changes s).same .sst (by decide)

/-- The target reads nothing of the supervisor that recomputing the ceiling changes. -/
theorem ceilingTarget_recomputeCeiling (s : State) : s.recomputeCeiling.ceilingTarget = s.ceilingTarget := by
  simp [State.ceilingTarget, recomputeCeiling_msv, recomputeCeiling_sst, Msv.hasLatched]

theorem State.StateFollows.recomputeCeiling (h : s.StateFollows) : s.recomputeCeiling.InOrder := by
  obtain ⟨⟨chain, causes⟩, fast, latched⟩ := h
  refine ⟨⟨?_, ?_, ?_, ?_, ?_, ?_⟩, State.causesOk_iff.mpr ?_⟩
  case refine_4 => rw [ceilingTarget_recomputeCeiling, recomputeCeiling_msv]
  all_goals simp only [recomputeCeiling_msv, recomputeCeiling_sst]
  exacts [chain, fast, latched, Nat.min_le_right .., causes]

/-! ## Changes of the supervisor state (R149) -/

theorem setChain_msv (s : State) (closed : Bool) : (s.setChain closed).msv = { s.msv with chainOut := closed } := by
  unfold State.setChain
  split
  · next h => rw [← h]
  · rfl

/-- A change to a state that suits the list leaves the supervisor in order, whatever CHAIN_OUT and the ceiling were. -/
theorem changeState_inOrder {new : SupState} (brought : List Byte) (causes : CausesInOrder s.msv.causes)
    (fast : s.msv.hasFast = true → new.chainClosed = false) (latched : s.msv.hasLatched = true → new ≠ .run) :
    (s.changeState new brought).InOrder := by
  have hfollows : (((s.updMsv fun m => { m with state := new, watch := s.watchAtChange new }).journal .stateChange .msv
      0 (byteOf s.msv.state.code :: byteOf new.code :: brought)).setChain new.chainClosed).StateFollows := by
    have hmsv := (journal_changes (s.updMsv fun m => { m with state := new, watch := s.watchAtChange new })
      .stateChange .msv 0 (byteOf s.msv.state.code :: byteOf new.code :: brought)).msv_eq
    refine ⟨⟨?_, ?_⟩, ?_, ?_⟩ <;> rw [setChain_msv, hmsv]
    exacts [rfl, causes, fast, latched]
  exact hfollows.recomputeCeiling.frame (gateEvent_changes _)

/-- The supervisor acts on a change of the list: whatever the change was, it is in order afterwards (R149). -/
theorem State.ChainFollows.afterListChange (h : s.ChainFollows) {code : CauseCode} {index : Nat} :
    (s.afterListChange code index).InOrder := by
  unfold State.afterListChange
  split
  · exact changeState_inOrder _ h.causes (fun _ => rfl) fun _ => by decide
  · next hfast =>
    split
    · next hlatched =>
      refine changeState_inOrder _ h.causes (fun hf => ?_) fun _ => by decide
      exact absurd ⟨hf, .inl hlatched.2⟩ hfast
    · next hlatched =>
      refine State.StateFollows.recomputeCeiling ⟨h, fun hf => ?_, fun hl hrun => hlatched ⟨hl, hrun⟩⟩
      have hstate : ¬ (s.msv.state = .run ∨ s.msv.state = .stoppingService) := fun hs => hfast ⟨hf, hs⟩
      cases hs : s.msv.state <;> simp_all [SupState.chainClosed]

end

/-! # The supervisor's own operations -/

section
variable {s t : State} {code : CauseCode} {category : Category} {index : Nat}

/-! ## Combining operations -/

theorem State.InOrder.ite {c : Prop} [Decidable c] (hs : s.InOrder) (ht : t.InOrder) :
    (if c then s else t).InOrder := by
  split <;> assumption

theorem State.InOrder.when {c : Bool} {f : State → State} (h : s.InOrder) (hf : ∀ {t}, t.InOrder → (f t).InOrder) :
    (s.when c f).InOrder := .ite (hf h) h

theorem State.InOrder.foldl {α : Type} {f : State → α → State} (h : s.InOrder)
    (hf : ∀ t x, t.InOrder → (f t x).InOrder) (xs : List α) : (xs.foldl f s).InOrder :=
  List.foldlRecOn xs f h fun t ht x _ => hf t x ht

/-- An order that a test answers at once, and otherwise goes on with the next one. -/
theorem State.InOrder.answeredOr {c : Prop} [Decidable c] {r : OrderResult} {p : State × OrderResult} (h : s.InOrder)
    (hp : p.1.InOrder) : (if c then (s, r) else p).1.InOrder := by
  split
  · exact h
  · exact hp

/-! ## Raise and end (R143 to R147) -/

/-- What every change of the list ends with: it is published and the supervisor acts on it. -/
theorem State.ChainFollows.listChange (h : s.ChainFollows) {f : Msv → Msv} {kind : JKind} {c : Cause} {sub : Nat}
    (hcauses : CausesInOrder (f s.msv).causes) (hstate : (f s.msv).state = s.msv.state := by rfl)
    (hchain : (f s.msv).chainOut = s.msv.chainOut := by rfl) :
    (((s.updMsv f).publishCause kind c sub).afterListChange code index).InOrder := by
  have hf : (s.updMsv f).ChainFollows := ⟨by simp [hstate, hchain, h.chain], hcauses⟩
  exact (hf.of_msv_eq (publishCause_changes ..).msv_eq).afterListChange

theorem State.InOrder.tellFast (h : s.InOrder) : (s.tellFast code index).InOrder := h.frame (tellFast_changes ..)

/-- A raise ends with the list change and, for a FAST one, with what the line and the calls are told (R147). -/
theorem State.ChainFollows.raised (h : s.ChainFollows) {f : Msv → Msv} {c : Cause} {sub : Nat} {told : Bool}
    {toldCode : CauseCode} {toldIndex : Nat}
    (hcauses : CausesInOrder (f s.msv).causes) (hstate : (f s.msv).state = s.msv.state := by rfl)
    (hchain : (f s.msv).chainOut = s.msv.chainOut := by rfl) :
    ((((s.updMsv f).publishCause .causeRaised c sub).afterListChange code index).when told
      (·.tellFast toldCode toldIndex)).InOrder :=
  (h.listChange hcauses hstate hchain).when (·.tellFast)

theorem State.ChainFollows.raiseOverflow (h : s.ChainFollows) : (s.raiseOverflow code category index).InOrder := by
  unfold State.raiseOverflow
  exact (h.raised h.causes).when (·.tellFast)

theorem State.ChainFollows.listRaise (h : s.ChainFollows) {sub : SubState} (hcategory : category ∈ code.categories) :
    (s.listRaise code category index sub).InOrder := by
  unfold State.listRaise
  split
  · next hfind => exact h.raised (h.causes.replace hfind ⟨rfl, rfl, rfl⟩)
  · next hfind =>
    split
    · exact h.raised (h.causes.append hfind hcategory)
    · exact h.raiseOverflow

theorem State.InOrder.raiseCause (h : s.InOrder) (hcategory : category ∈ code.categories := by decide) :
    (s.raiseCause code category index).InOrder := by
  refine State.ChainFollows.listRaise ?_ hcategory
  split
  · exact ⟨h.chainFollows.chain, h.chainFollows.causes⟩
  · exact h.chainFollows

theorem State.InOrder.operatorCause (h : s.InOrder) (hcategory : category ∈ code.categories := by decide) :
    (s.operatorCause code category).InOrder := h.chainFollows.listRaise hcategory

theorem State.InOrder.removeCause (h : s.InOrder) {c : Cause} : (s.removeCause c).InOrder :=
  h.chainFollows.listChange (h.chainFollows.causes.filter _)

theorem State.InOrder.listEnd (h : s.InOrder) : (s.listEnd code index).InOrder := by
  unfold State.listEnd
  split
  · exact h
  · next c hfind =>
    exact .ite h.removeCause
      (.ite (h.chainFollows.listChange (h.chainFollows.causes.replace hfind ⟨rfl, rfl, rfl⟩)) h)

theorem State.InOrder.endCause (h : s.InOrder) : (s.endCause code index).InOrder := by
  refine State.InOrder.listEnd ?_
  split
  · refine State.StateFollows.recomputeCeiling ⟨⟨?_, ?_⟩, ?_, ?_⟩
    exacts [h.stateFollows.chain, h.stateFollows.causes, h.stateFollows.fast, h.stateFollows.latched]
  · exact h

theorem State.InOrder.raiseOnce (h : s.InOrder) (hcategory : category ∈ code.categories := by decide) :
    (s.raiseOnce code category index).InOrder := (h.raiseCause hcategory).endCause

/-! ## Acknowledgement (R146) -/

/-- An acknowledgement that only marks entries changes neither their identities nor their categories. -/
theorem State.InOrder.markAcked (h : s.InOrder) (p : Cause → Bool) :
    (((s.updMsv fun m =>
      { m with causes := m.causes.map fun x => if p x then { x with sub := .activeAcked } else x }).setNews
        .cause).recomputeCeiling).InOrder := by
  have hany : ∀ q : Cause → Bool, (∀ x, q { x with sub := .activeAcked } = q x) →
      (s.msv.causes.map fun x => if p x then { x with sub := .activeAcked } else x).any q = s.msv.causes.any q := by
    intro q hq
    rw [List.any_map]
    congr 1
    funext x
    simp only [Function.comp_apply]
    split
    · exact hq x
    · rfl
  obtain ⟨⟨chain, causes⟩, fast, latched⟩ := h.stateFollows
  refine State.StateFollows.recomputeCeiling ⟨⟨chain, ?_⟩, ?_, ?_⟩
  · exact causes.map fun x _ => by split <;> exact ⟨rfl, rfl, rfl⟩
  · simpa [Msv.hasFast, hany] using fast
  · simpa [Msv.hasLatched, hany, Cause.latched] using latched

theorem State.InOrder.ackCauseEntry (h : s.InOrder) {c : Cause} : (s.ackCauseEntry c).InOrder := by
  unfold State.ackCauseEntry
  split
  · exact h.markAcked _
  · exact h.removeCause
  · exact h

theorem State.InOrder.ackAggregate (h : s.InOrder) : s.ackAggregate.InOrder := by
  unfold State.ackAggregate
  split
  · exact h
  · exact h.chainFollows.listChange h.chainFollows.causes

theorem State.InOrder.ackAll (h : s.InOrder) : s.ackAll.InOrder :=
  (h.foldl (fun _ _ ht => ht.ackCauseEntry) _).ackAggregate

theorem State.InOrder.ackSlot (h : s.InOrder) {slot n : Nat} : (s.ackSlot slot n).1.InOrder := by
  refine h.answeredOr ?_
  split
  · exact h.ackAggregate.answeredOr h
  · split
    · exact h
    · exact h.ackCauseEntry.answeredOr h

theorem State.InOrder.ackOrder (h : s.InOrder) {slot n : Nat} : (s.ackOrder slot n).1.InOrder :=
  h.ackAll.answeredOr h.ackSlot

/-! ## The supervisor's orders and CHAIN_SENSE (R150 to R155, R159) -/

/-- A change to a state other than RUN with the chain open suits every list. -/
theorem State.InOrder.changeState (h : s.InOrder) {new : SupState} {brought : List Byte}
    (hopen : new.chainClosed = false := by rfl) : (s.changeState new brought).InOrder :=
  changeState_inOrder _ h.chainFollows.causes (fun _ => hopen) fun _ => by rintro rfl; cases hopen

theorem State.InOrder.startOrder (h : s.InOrder) : s.startOrder.1.InOrder := by
  refine h.answeredOr ?_
  split
  · exact h
  · exact h.changeState

/-- A list with a FAST entry holds a latched one. -/
theorem hasLatched_of_hasFast {m : Msv} (h : m.hasFast = true) : m.hasLatched = true := by
  simp only [Msv.hasFast, Msv.hasLatched, Bool.or_eq_true, List.any_eq_true, Cause.latched] at h ⊢
  refine h.imp_left fun ⟨c, hc, hfast⟩ => ⟨c, hc, ?_⟩
  simp_all

/-- RESUME is carried out only where no latched cause is listed, so RUN suits the list (R152). -/
theorem State.InOrder.resumeOrder (h : s.InOrder) : s.resumeOrder.1.InOrder := by
  refine h.answeredOr (h.answeredOr ?_)
  split
  · exact h
  · next hlatched =>
    have hrun : (s.changeState .run []).InOrder := changeState_inOrder _ h.chainFollows.causes
      (fun hf => absurd (hasLatched_of_hasFast hf) hlatched) fun hl => absurd hl hlatched
    exact h.answeredOr (hrun.when (·.raiseCause))

theorem State.InOrder.setOperatorCeiling (h : s.InOrder) {v : Nat} : (s.setOperatorCeiling v).InOrder := by
  refine State.StateFollows.recomputeCeiling ⟨⟨?_, ?_⟩, ?_, ?_⟩
  exacts [h.stateFollows.chain, h.stateFollows.causes, h.stateFollows.fast, h.stateFollows.latched]

theorem State.InOrder.setCeiling (h : s.InOrder) {v : Nat} : (s.setCeiling v).1.InOrder :=
  h.answeredOr (h.setOperatorCeiling.answeredOr h.setOperatorCeiling)

theorem State.InOrder.updPins (h : s.InOrder) {f : Pins → Pins} : (s.updPins f).InOrder := h.frame (updPins_changes ..)

theorem State.InOrder.setNews (h : s.InOrder) {n : News} : (s.setNews n).InOrder := h.frame (setNews_changes ..)

theorem State.InOrder.chainSenseChange (h : s.InOrder) {closed : Bool} : (s.chainSenseChange closed).InOrder :=
  .ite h (.ite h.updPins.setNews.endCause (h.updPins.setNews.when (·.raiseCause)))

/-! ## The supervisor's window end (R160 to R162) -/

/-- The watch and the conditions of the speed causes are free of the invariant. -/
theorem State.InOrder.updSpeed (h : s.InOrder) {f : Msv → Msv}
    (hf : ∃ watch exceed overspeed decelFail ropeCreep,
      f s.msv = { s.msv with watch, exceed, overspeed, decelFail, ropeCreep }) : (s.updMsv f).InOrder := by
  obtain ⟨_, _, _, _, _, hf⟩ := hf
  obtain ⟨⟨chain, fast, latched, target, ceiling, speedRef⟩, ⟨identity, category⟩⟩ := h
  constructor <;> constructor <;> simp only [State.updMsv_msv, hf]
  exacts [chain, fast, latched, by simpa [State.ceilingTarget, hf, Msv.hasLatched] using target, ceiling, speedRef,
    identity, category]

theorem setSpeedActive_eq (m : Msv) (code : CauseCode) (b : Bool) :
    ∃ overspeed decelFail ropeCreep, m.setSpeedActive code b = { m with overspeed, decelFail, ropeCreep } := by
  unfold Msv.setSpeedActive
  split <;> exact ⟨_, _, _, rfl⟩

theorem State.InOrder.setExceed (h : s.InOrder) {n : Nat} : (s.updMsv fun m => { m with exceed := n }).InOrder :=
  h.updSpeed ⟨_, _, _, _, _, rfl⟩

theorem State.InOrder.setSpeedActive (h : s.InOrder) {b : Bool} : (s.updMsv (·.setSpeedActive code b)).InOrder :=
  let ⟨_, _, _, heq⟩ := setSpeedActive_eq s.msv code b
  h.updSpeed ⟨_, _, _, _, _, heq⟩

theorem State.InOrder.endSpeed (h : s.InOrder) : (s.endSpeed code).InOrder := .ite h.setSpeedActive.endCause h

/-- Each speed cause is a FAST cause (R148). -/
theorem fast_mem_categories_speedSituation (s : State) : Category.fast ∈ s.speedSituation.categories := by
  unfold State.speedSituation
  split <;> decide

theorem State.InOrder.speedTest (h : s.InOrder) : s.speedTest.InOrder :=
  .ite (.ite (h.setExceed.setSpeedActive.raiseCause (fast_mem_categories_speedSituation s)) h.setExceed)
    h.setExceed.endSpeed.endSpeed.endSpeed

theorem State.InOrder.stopEnd (h : s.InOrder) : s.stopEnd.InOrder := .ite h.changeState h

theorem State.InOrder.watchEnd (h : s.InOrder) : s.watchEnd.InOrder := by
  unfold State.watchEnd
  split
  · exact h
  · exact h.updSpeed ⟨_, _, _, _, _, rfl⟩

/-- The ramp stops at the target, and SPEED_REF is recomputed with it (R157, R158). -/
theorem State.InOrder.ramp (h : s.InOrder) : s.ramp.InOrder := by
  unfold State.ramp
  split
  · obtain ⟨⟨chain, fast, latched, target, -, -⟩, ⟨identity, category⟩⟩ := h
    exact ⟨⟨chain, fast, latched, target, Nat.min_le_left .., rfl⟩, ⟨identity, category⟩⟩
  · exact h

theorem State.InOrder.supervisorWindow (h : s.InOrder) : s.supervisorWindow.InOrder := h.speedTest.stopEnd.watchEnd.ramp

end

/-! # Doors, track, launch unit and rope monitor -/

section
variable {s : State} {c : Channel}

/-! ## Updates of other blocks -/

theorem State.InOrder.updTrk (h : s.InOrder) {f : Trk → Trk} : (s.updTrk f).InOrder := h.frame (updTrk_changes ..)
theorem State.InOrder.updLch (h : s.InOrder) {f : Lch → Lch} : (s.updLch f).InOrder := h.frame (updLch_changes ..)
theorem State.InOrder.updRpm (h : s.InOrder) {f : Rpm → Rpm} : (s.updRpm f).InOrder := h.frame (updRpm_changes ..)
theorem State.InOrder.updHeld (h : s.InOrder) {f : Held → Held} : (s.updHeld f).InOrder :=
  h.frame (updHeld_changes ..)
theorem State.InOrder.updEntry (h : s.InOrder) {uid : Nat} {f : TrackEntry → TrackEntry} : (s.updEntry uid f).InOrder :=
  h.frame (updEntry_changes ..)
theorem State.InOrder.updFleetRec (h : s.InOrder) {n : Nat} {f : FleetRec → FleetRec} : (s.updFleetRec n f).InOrder :=
  h.frame (updFleetRec_changes ..)
theorem State.InOrder.updChan (h : s.InOrder) {f : Chan → Chan} : (s.updChan c f).InOrder :=
  h.frame (updChan_changes ..)
theorem State.InOrder.journal (h : s.InOrder) {kind : JKind} {block : Block} {n : Nat} {detail : List Byte} :
    (s.journal kind block n detail).InOrder := h.frame (journal_changes ..)
theorem State.InOrder.completeOrder (h : s.InOrder) {k : Nat} {r : OrderResult} : (s.completeOrder k r).InOrder :=
  h.frame (completeOrder_changes ..)
theorem State.InOrder.gateEvent (h : s.InOrder) : s.gateEvent.InOrder := h.frame (gateEvent_changes ..)
theorem State.InOrder.setFleetState (h : s.InOrder) {n : Nat} {st : FleetState} : (s.setFleetState n st).InOrder :=
  h.frame (setFleetState_changes ..)

/-! ## Doors -/

theorem State.InOrder.endNotProven (h : s.InOrder) : s.endNotProven.InOrder := by
  unfold State.endNotProven
  split
  · exact h
  · exact .ite h.endCause h

theorem State.InOrder.writeDoor (h : s.InOrder) {uid : Nat} {door : DoorState} : (s.writeDoor uid door).InOrder :=
  .ite (h.updEntry.when (·.updEntry)).endNotProven.gateEvent h.updEntry

theorem State.InOrder.writeDoorOf (h : s.InOrder) {uid : Option Nat} {door : DoorState} :
    (s.writeDoorOf uid door).InOrder := by
  cases uid with
  | none => exact h
  | some u => exact h.writeDoor

theorem State.InOrder.updFleetOf (h : s.InOrder) {uid : Option Nat} {f : FleetRec → FleetRec} :
    (s.updFleetOf uid f).InOrder := h.frame (updFleetOf_changes ..)

theorem State.InOrder.driveOffFollow (h : s.InOrder) {old new : DriveMode} : (s.driveOffFollow c old new).InOrder :=
  .ite (.ite h.raiseCause (.ite h.endCause h)) h

theorem State.InOrder.setMode (h : s.InOrder) {mode : DriveMode} {reason : ChangeReason} :
    (s.setMode c mode reason).InOrder :=
  .ite h (h.updChan.frame (offReleases_changes ..)).journal.driveOffFollow

theorem State.InOrder.applyPending (h : s.InOrder) : (s.applyPending c).InOrder := by
  unfold State.applyPending
  split
  · exact h
  · exact h.updChan.setMode

theorem State.InOrder.completeStroke (h : s.InOrder) {x : Chan} {r : ResultCode} : (s.completeStroke c x r).InOrder :=
  h.frame (completeStroke_changes ..)

theorem State.InOrder.provenWrites (h : s.InOrder) {x : Chan} : (s.provenWrites c x).InOrder := by
  unfold State.provenWrites
  split
  · exact h.writeDoorOf
  · dsimp only
    split
    · exact h.updFleetOf.updEntry.writeDoorOf
    · exact h.updFleetOf.writeDoorOf
  · split
    · exact h
    · exact h.updEntry
  · exact h

theorem State.InOrder.proveStroke (h : s.InOrder) : (s.proveStroke c).InOrder :=
  h.updChan.provenWrites.updChan.completeStroke.applyPending

theorem State.InOrder.failWrites (h : s.InOrder) {x : Chan} : (s.failWrites c x).InOrder := by
  unfold State.failWrites
  split
  · exact .ite h.updFleetOf.writeDoorOf h
  · exact .ite h h.updFleetOf.writeDoorOf
  · exact h

theorem State.InOrder.failCause (h : s.InOrder) {x : Chan} : (s.failCause c x).InOrder :=
  .ite h.raiseOnce (.ite h.raiseCause h.raiseCause)

theorem State.InOrder.failStroke (h : s.InOrder) {fault : DoorFault} : (s.failStroke c fault).InOrder :=
  h.updChan.failWrites.updChan.failCause.journal.completeStroke.applyPending

theorem State.InOrder.closeTests {n : Nat} (h : s.InOrder) : (State.closeTests c n s).InOrder := by
  induction n generalizing s with
  | zero => exact h
  | succ n ih => exact .ite h.proveStroke (.ite (.ite (.ite (ih h.updChan.updChan) h.updChan.failStroke) h.updChan) h)

theorem State.InOrder.testClose (h : s.InOrder) : (s.testClose c).InOrder := h.closeTests

theorem State.InOrder.endReversal (h : s.InOrder) : (s.endReversal c).InOrder := .ite h.updChan.testClose h.failStroke

theorem State.InOrder.beginStroke (h : s.InOrder) {close : Bool} {o : Origin} : (s.beginStroke c close o).InOrder :=
  h.frame (beginStroke_changes ..)

theorem State.InOrder.startGateClose (h : s.InOrder) : s.startGateClose.InOrder := h.updChan.beginStroke.testClose

theorem State.InOrder.afterOpen (h : s.InOrder) : (s.afterOpen c).InOrder := .ite h.startGateClose h

theorem State.InOrder.testOpen (h : s.InOrder) : (s.testOpen c).InOrder := .ite h.proveStroke.afterOpen h

theorem State.InOrder.missEngagement (h : s.InOrder) {uid : Nat} : (s.missEngagement c uid).InOrder :=
  (h.when (·.updEntry)).updFleetRec.writeDoor.raiseOnce.journal

theorem State.InOrder.engageOpener (h : s.InOrder) {uid : Nat} : (s.engageOpener uid).InOrder :=
  .ite h.updChan.beginStroke.writeDoor.testOpen h.missEngagement

theorem State.InOrder.engageCloser (h : s.InOrder) {uid : Nat} : (s.engageCloser uid).InOrder :=
  .ite h.updChan.beginStroke.writeDoor.testClose h.missEngagement

theorem State.InOrder.withhold (h : s.InOrder) {n r : Nat} : (s.withhold n r).InOrder := h.journal

theorem State.InOrder.engageGate (h : s.InOrder) {e : TrackEntry} : (s.engageGate e).InOrder :=
  .ite (h.withhold.when (·.startGateClose))
    (.ite h.updChan.beginStroke.testOpen (.ite h.updChan.updEntry (.ite h.withhold h.withhold)))

theorem State.InOrder.gateCloseNow (h : s.InOrder) : s.gateCloseNow.InOrder := by
  unfold State.gateCloseNow
  split
  · exact h.startGateClose
  · exact h.updChan
  · exact h

theorem State.InOrder.closePoint (h : s.InOrder) {uid : Nat} : (s.closePoint uid).InOrder := .ite h.gateCloseNow h

theorem State.InOrder.gateLateCheck (h : s.InOrder) {e : TrackEntry} : (s.gateLateCheck e).InOrder :=
  .ite h.raiseOnce.journal.gateCloseNow h

theorem State.InOrder.dropChannel (h : s.InOrder) : (s.dropChannel c).InOrder := .ite h.updChan.gateCloseNow h.updChan

theorem State.InOrder.dropEngagements (h : s.InOrder) {uid : Nat} : (s.dropEngagements uid).InOrder :=
  h.foldl (fun _ _ ht => .ite ht.dropChannel ht) _

theorem State.InOrder.dropAllEngagements (h : s.InOrder) : s.dropAllEngagements.InOrder :=
  h.foldl (fun _ _ ht => .ite ht.dropChannel ht) _

theorem State.InOrder.gateAtLost (h : s.InOrder) : s.gateAtLost.InOrder := .ite h.gateCloseNow h

theorem State.InOrder.openLimit (h : s.InOrder) : (s.openLimit c).InOrder := by
  unfold State.openLimit
  split
  · exact h.proveStroke.afterOpen
  · exact h.endReversal
  · exact h

theorem State.InOrder.closedLimit (h : s.InOrder) : (s.closedLimit c).InOrder := by
  unfold State.closedLimit
  split
  · exact h.proveStroke
  · exact h

theorem State.InOrder.obstructed (h : s.InOrder) : (s.obstructed c).InOrder := by
  unfold State.obstructed
  split
  · exact .ite h.updChan.endReversal h.updChan
  · exact h

theorem State.InOrder.strokeTimeout (h : s.InOrder) {phase : ChanState} : (s.strokeTimeout c phase).InOrder := by
  unfold State.strokeTimeout
  split
  · split
    · exact h.failStroke
    · exact h.failStroke
    · exact h.endReversal
    · exact h
  · exact h

theorem State.InOrder.setDriveMode (h : s.InOrder) {n m : Nat} : (s.setDriveMode n m).1.InOrder := by
  unfold State.setDriveMode
  split
  · dsimp only
    split
    · exact h
    split
    · dsimp only
      exact h.updChan
    · exact State.InOrder.setMode (.ite h.updChan.endCause h.updChan)
  · exact h

theorem State.InOrder.startStrokeOrder (h : s.InOrder) {k n d : Nat} : (s.startStrokeOrder k n d).InOrder := by
  unfold State.startStrokeOrder
  split
  · exact h
  · exact .ite h.updChan.beginStroke.testOpen h.updChan.beginStroke.writeDoorOf.testClose

theorem State.InOrder.haltDrive (h : s.InOrder) {n : Nat} : (s.haltDrive n).1.InOrder := by
  unfold State.haltDrive
  split
  · exact h
  · dsimp only
    split
    · exact (State.InOrder.ite h.updChan.writeDoorOf h.updChan).completeStroke.applyPending
    · exact h

/-! ## What the launch unit does for the track -/

theorem State.InOrder.z3Changed (h : s.InOrder) : s.z3Changed.InOrder :=
  .ite h (.ite h.updLch.updLch.raiseCause (.ite h.updLch.updLch.endCause h.updLch))

theorem State.InOrder.enterHolding (h : s.InOrder) {uid : Nat} : (s.enterHolding uid).InOrder :=
  h.frame (enterHolding_changes ..)

theorem State.InOrder.gateEmpty (h : s.InOrder) : s.gateEmpty.InOrder := h.updLch.when (·.endCause)

theorem State.InOrder.clearDivert (h : s.InOrder) : s.clearDivert.InOrder := h.frame (clearDivert_changes ..)

theorem State.InOrder.departureCheck (h : s.InOrder) {dist : DWord} : (s.departureCheck dist).InOrder := by
  unfold State.departureCheck
  dsimp only
  split
  · exact h.updLch
  · exact (State.InOrder.ite h.raiseOnce h).updLch

theorem State.InOrder.gateRebuilt (h : s.InOrder) : s.gateRebuilt.InOrder := by
  unfold State.gateRebuilt
  dsimp only
  split
  · exact h.updLch.gateEmpty.z3Changed
  · exact h.updLch.gateEmpty.enterHolding.z3Changed

/-! ## Track -/

theorem State.InOrder.endOverdue (h : s.InOrder) {e : TrackEntry} : (s.endOverdue e).InOrder :=
  .ite (.ite h.endCause (.ite h h.endCause)) h

theorem State.InOrder.endAllOverdue (h : s.InOrder) {es : List TrackEntry} : (s.endAllOverdue es).InOrder :=
  h.foldl (fun _ _ ht => .ite ht.endCause ht) _

theorem State.InOrder.enterLost (h : s.InOrder) : s.enterLost.InOrder :=
  h.updTrk.raiseCause.endAllOverdue.journal.gateAtLost

theorem State.InOrder.refusePlacement (h : s.InOrder) : s.refusePlacement.InOrder := h.raiseOnce.enterLost

theorem State.InOrder.place (h : s.InOrder) {e : TrackEntry} : (s.place e).InOrder := h.updTrk.z3Changed

theorem State.InOrder.requestPlacement (h : s.InOrder) {e : TrackEntry} : (s.requestPlacement e).InOrder :=
  .ite h.refusePlacement h.place

theorem State.InOrder.removeEntry (h : s.InOrder) {e : TrackEntry} : (s.removeEntry e).InOrder :=
  (h.updTrk.dropEngagements.frame (dropTestEntry_changes ..)).endOverdue.z3Changed

theorem State.InOrder.moveEntry (h : s.InOrder) {e : TrackEntry} {zone : Nat} : (s.moveEntry e zone).InOrder :=
  h.updEntry.endOverdue.z3Changed

theorem State.InOrder.unknownArrival (h : s.InOrder) : s.unknownArrival.InOrder := .ite h.updTrk.raiseCause h.updTrk

theorem State.InOrder.knownArrival (h : s.InOrder) : s.knownArrival.InOrder := h.updTrk.endCause

theorem State.InOrder.resolveUnknown (h : s.InOrder) {e : TrackEntry} {reason : List Byte} :
    (s.resolveUnknown e reason).InOrder := (h.updTrk.journal.frame (journal_changes ..)).unknownArrival

theorem State.InOrder.resolveKnown (h : s.InOrder) {e : TrackEntry} {n : Nat} : (s.resolveKnown e n).InOrder :=
  ((((h.updTrk.updEntry.endOverdue.frame (noteMismatch_changes ..)).updFleetRec).frame
    (arrivalEndsDivert_changes ..)).frame (journal_changes ..)).knownArrival

theorem State.InOrder.resolveDuplicate (h : s.InOrder) {e : TrackEntry} {tag : Word} {n : Nat} :
    (s.resolveDuplicate e tag n).InOrder := (h.updTrk.journal.frame (journal_changes ..)).knownArrival

theorem State.InOrder.resolveTag (h : s.InOrder) {e : TrackEntry} {tag : Word} : (s.resolveTag e tag).InOrder := by
  unfold State.resolveTag
  split
  · exact h.resolveUnknown
  · exact .ite h.resolveDuplicate h.resolveKnown

theorem State.InOrder.closeWindow (h : s.InOrder) : s.closeWindow.InOrder := by
  unfold State.closeWindow
  split
  · exact h
  · split
    · exact h.updTrk
    · exact h.resolveUnknown

theorem State.InOrder.validFrame (h : s.InOrder) {tag : Word} : (s.validFrame tag).InOrder := by
  unfold State.validFrame
  split
  · exact h
  · split
    · exact h
    · exact h.resolveTag

theorem State.InOrder.invalidFrame (h : s.InOrder) : s.invalidFrame.InOrder := h.updTrk

theorem State.InOrder.tagByte (h : s.InOrder) {b : TagByte} : (s.tagByte b).InOrder := by
  unfold State.tagByte
  dsimp only
  split
  · exact h.updTrk.invalidFrame
  split
  · exact h.updTrk
  split
  · exact h.updTrk.validFrame
  · exact h.updTrk.invalidFrame

theorem State.InOrder.countEdge (h : s.InOrder) {n : Nat} : (s.countEdge n).InOrder := h.updTrk

theorem State.InOrder.standstillChatter (h : s.InOrder) {n : Nat} : (s.standstillChatter n).InOrder := h.journal

theorem State.InOrder.arrivalSpacing (h : s.InOrder) : s.arrivalSpacing.InOrder := by
  unfold State.arrivalSpacing
  dsimp only
  split
  · exact h.updTrk
  · exact (State.InOrder.ite h.raiseOnce h).updTrk

theorem State.InOrder.arrive (h : s.InOrder) : s.arrive.InOrder :=
  .ite h.refusePlacement h.closeWindow.place.arrivalSpacing.updTrk

theorem State.InOrder.edgeB0 (h : s.InOrder) : s.edgeB0.InOrder := .ite h.countEdge (.ite h.standstillChatter h.arrive)

theorem State.InOrder.depart (h : s.InOrder) {e : TrackEntry} : (s.depart e).InOrder :=
  h.removeEntry.setFleetState.journal.departureCheck

theorem State.InOrder.matchAt (h : s.InOrder) {n : Nat} {e : TrackEntry} : (s.matchAt n e).InOrder := by
  have hmoved : ((s.updEntry e.uid fun x => { x with waiver := false }).moveEntry e n).InOrder := h.updEntry.moveEntry
  unfold State.matchAt
  dsimp only
  split
  · exact (State.InOrder.ite hmoved.closeWindow hmoved).engageOpener
  · exact hmoved.engageGate
  · exact hmoved.engageCloser.gateLateCheck
  · exact hmoved

theorem State.InOrder.testEdge (h : s.InOrder) {n : Nat} : (s.testEdge n).InOrder := by
  unfold State.testEdge
  split
  · exact h.raiseOnce
  · exact .ite (.ite h.depart h.matchAt) h.journal

theorem State.InOrder.edgeAt (h : s.InOrder) {n : Nat} : (s.edgeAt n).InOrder :=
  .ite h.countEdge (.ite h.standstillChatter h.testEdge)

theorem State.InOrder.standAtGate (h : s.InOrder) : s.standAtGate.InOrder := by
  unfold State.standAtGate
  split
  · exact h.raiseOnce
  · exact .ite h.journal h.updEntry.enterHolding

theorem State.InOrder.edgeB4 (h : s.InOrder) : s.edgeB4.InOrder :=
  .ite h.updPins.countEdge (.ite h.updPins.standstillChatter h.updPins.standAtGate)

theorem State.InOrder.overdueCheck (h : s.InOrder) {uid : Nat} : (s.overdueCheck uid).InOrder := by
  unfold State.overdueCheck
  split
  · exact h
  · exact .ite h.updEntry.raiseCause h

theorem State.InOrder.closePointCheck (h : s.InOrder) : s.closePointCheck.InOrder := by
  unfold State.closePointCheck
  split
  · exact h
  · exact .ite h.closePoint h

theorem State.InOrder.trackWindow (h : s.InOrder) : s.trackWindow.InOrder :=
  .ite h (h.updTrk.foldl (fun _ _ ht => ht.overdueCheck) _).closePointCheck

theorem State.InOrder.rebuild (h : s.InOrder) {pairs : List (Nat × Nat)} : (s.rebuild pairs).InOrder := by
  unfold State.rebuild
  extract_lets old s1 s2 s3 s4 s5
  have h1 : s1.InOrder := h.updTrk.dropAllEngagements.endAllOverdue
  have h2 : s2.InOrder := h1.updTrk.frame (rebuildAtGate_changes _)
  have h3 : s3.InOrder := (h2.frame (rebuildFleet_changes _ pairs)).updTrk
  have h4 : s4.InOrder := h3.endCause.journal
  exact (State.InOrder.ite h4.journal h4).gateRebuilt

/-! ## Launch -/

theorem State.InOrder.completeLaunch (h : s.InOrder) : s.completeLaunch.InOrder := by
  unfold State.completeLaunch
  split
  · exact h.moveEntry.gateEmpty
  · exact h.gateEmpty

theorem State.InOrder.completeDivert (h : s.InOrder) : s.completeDivert.InOrder := by
  unfold State.completeDivert
  split
  · exact h.gateEmpty
  · exact h.updLch.updHeld.removeEntry.gateEmpty

theorem State.InOrder.uncommandedLaunch (h : s.InOrder) : s.uncommandedLaunch.InOrder := by
  have hraised : (s.raiseOnce .uncommandedLaunch .fast 0).InOrder := h.raiseOnce
  unfold State.uncommandedLaunch
  dsimp only
  split
  · exact hraised.moveEntry.gateEmpty
  · exact hraised.gateEmpty

theorem State.InOrder.b4Falling (h : s.InOrder) : s.b4Falling.InOrder := by
  unfold State.b4Falling
  dsimp only
  split
  · exact h.updPins.completeLaunch
  · exact h.updPins.completeDivert
  · exact h.updPins.uncommandedLaunch
  · exact h.updPins.uncommandedLaunch

theorem State.InOrder.divertFails (h : s.InOrder) : s.divertFails.InOrder := by
  unfold State.divertFails
  split
  · exact h
  · exact (State.InOrder.ite h.raiseOnce.requestPlacement h.raiseOnce).clearDivert

theorem State.InOrder.b5Rising (h : s.InOrder) : s.b5Rising.InOrder :=
  .ite h.updPins (.ite h.updPins.divertFails (h.updPins.divertFails.frame (startGripTest_changes ..)))

theorem State.InOrder.gripCause (h : s.InOrder) {g : Grade} {n : Nat} : (s.gripCause g n).InOrder := by
  cases g with
  | noReading | fail | high => exact h.raiseOnce
  | weak | good => exact h

theorem State.InOrder.endGripTest (h : s.InOrder) : s.endGripTest.InOrder :=
  .ite (h.updLch.frame (recordGrip_changes ..)).gripCause.journal h

theorem State.InOrder.endInsertion (h : s.InOrder) {i : Insertion} {r : OrderResult} : (s.endInsertion i r).InOrder :=
  h.frame (endInsertion_changes ..)

theorem State.InOrder.gOutUnexpected (h : s.InOrder) : s.gOutUnexpected.InOrder :=
  (State.InOrder.ite h.requestPlacement h).journal

theorem State.InOrder.gOut (h : s.InOrder) : s.gOut.InOrder := by
  unfold State.gOut
  split
  · exact h.gOutUnexpected
  split
  · exact h.endInsertion.gOutUnexpected
  split
  · exact h.setFleetState.endInsertion
  split
  · exact h.refusePlacement.setFleetState.endInsertion
  · exact h.setFleetState.place.journal.endInsertion

theorem State.InOrder.latchChange (h : s.InOrder) {active : Bool} : (s.latchChange active).InOrder :=
  .ite h (State.InOrder.ite h.updPins.updTrk h.updPins).endNotProven.gateEvent

theorem State.InOrder.proofExpires (h : s.InOrder) : s.proofExpires.InOrder := .ite h.updLch.raiseCause h

/-! ## Rope -/

theorem State.InOrder.tachoFollow (h : s.InOrder) : s.tachoFollow.InOrder :=
  .ite (.ite h.updRpm.endCause h) (.ite h.updRpm.raiseCause h)

theorem State.InOrder.sideFollow (h : s.InOrder) {code : CauseCode} {category : Category} {index : Nat}
    {held outside : Bool} (hcategory : category ∈ code.categories := by decide) :
    (s.sideFollow code category index held outside).InOrder :=
  .ite (h.raiseCause hcategory) (.ite h.endCause h)

theorem State.InOrder.thresholds (h : s.InOrder) {p : Nat} : (s.thresholds p).InOrder :=
  h.updRpm.sideFollow.sideFollow.sideFollow.sideFollow

theorem State.InOrder.tensionSample (h : s.InOrder) {n : Nat} : (s.tensionSample n).InOrder :=
  .ite (h.updRpm.when (·.endCause)).thresholds (h.updRpm.when (·.raiseCause))

theorem State.InOrder.ropeWindow (h : s.InOrder) {n : Nat} : (s.ropeWindow n).InOrder :=
  (((h.frame (windowTime_changes s)).updRpm.tachoFollow).frame (standstillCount_changes _)).tensionSample

theorem State.InOrder.loopExpiry (h : s.InOrder) {l : RopeLoop} : (s.loopExpiry l).InOrder := by
  unfold State.loopExpiry
  split
  · exact (h.frame (setLoop_changes ..)).raiseCause
  · exact (h.frame (setLoop_changes ..)).endCause
  · exact h

end

/-! # Stations, line, setup store, orders, resets and every step -/

section
variable {s : State} {a : Nat}

/-! ## Stations -/

theorem State.InOrder.updStation (h : s.InOrder) {f : StationRec → StationRec} : (s.updStation a f).InOrder :=
  h.frame (updStation_changes ..)

theorem State.InOrder.silentCause (h : s.InOrder) {old new : StationState} : (s.silentCause a old new).InOrder :=
  .ite (.ite h.raiseCause h) (.ite h.endCause h)

theorem State.InOrder.setStation (h : s.InOrder) {new : StationState} {e : StationEvent} :
    (s.setStation a new e).InOrder :=
  (h.updStation.journal.frame (tellStation_changes ..)).silentCause

theorem State.InOrder.silenceExpires (h : s.InOrder) : (s.silenceExpires a).InOrder := .ite h.setStation h

theorem State.InOrder.frameState (h : s.InOrder) {report : Bool} : (s.frameState a report).InOrder := by
  unfold State.frameState
  split
  · exact h.setStation
  · exact h.updStation
  · exact .ite h.setStation h
  · exact h

theorem State.InOrder.stationFrame (h : s.InOrder) {report : Bool} : (s.stationFrame a report).InOrder :=
  .ite (h.frame (hear_changes ..)).frameState ((h.frame (hear_changes ..)).frame (noteUnexpected_changes ..))

theorem State.InOrder.sheaveFollow (h : s.InOrder) {n : Nat} {r : SheaveState} : (s.sheaveFollow a n r).InOrder :=
  .ite h.updStation.raiseCause (.ite h.updStation.endCause h.updStation)

theorem State.InOrder.requestRaise (h : s.InOrder) {category : Category} {was wanted : Bool}
    (hcategory : category ∈ CauseCode.remoteTrip.categories := by decide) :
    (s.requestRaise a category was wanted).InOrder := .ite (h.raiseCause hcategory) h

theorem State.InOrder.requestEnd (h : s.InOrder) {category : Category} {was wanted : Bool} :
    (s.requestEnd a category was wanted).InOrder := .ite h.endCause h

theorem State.InOrder.takeStatus (h : s.InOrder) {b0 b1 : Byte} : (s.takeStatus a b0 b1).InOrder :=
  .ite h (.ite h.updStation ((h.updStation.foldl (fun _ _ ht => ht.sheaveFollow)
    _).requestRaise.requestRaise.requestEnd.requestEnd.frame (faultChange_changes ..)))

theorem State.InOrder.addRequest (h : s.InOrder) {category : Category} : (s.addRequest a category).InOrder :=
  .ite h.updStation.requestRaise h.updStation.requestRaise

theorem State.InOrder.takeTrip (h : s.InOrder) {b0 b1 : Byte} : (s.takeTrip a b0 b1).InOrder :=
  .ite h (h.when (·.addRequest)).journal

theorem State.InOrder.endStationCauses (h : s.InOrder) : (s.endStationCauses a).InOrder :=
  (h.updStation.endCause.foldl (fun _ _ ht => ht.endCause) _).endCause.endCause

theorem State.InOrder.excludeStation (h : s.InOrder) : (s.excludeStation a).1.InOrder := by
  refine h.answeredOr (h.answeredOr (h.answeredOr (h.answeredOr ?_)))
  dsimp only
  exact h.setStation.endStationCauses.when (·.raiseCause)

theorem State.InOrder.exclusionFollow (h : s.InOrder) : s.exclusionFollow.InOrder := .ite h.endCause h

theorem State.InOrder.includeStation (h : s.InOrder) : (s.includeStation a).1.InOrder :=
  h.answeredOr (h.answeredOr (h.answeredOr h.setStation.updStation.exclusionFollow))

theorem State.InOrder.stationVanishes (h : s.InOrder) : (s.stationVanishes a).InOrder :=
  ((State.InOrder.ite h.updStation h.setStation).frame (stationUnavailable_changes ..)).endStationCauses.updStation

theorem State.InOrder.dropSheaves (h : s.InOrder) {m n : Nat} : (s.dropSheaves a m n).InOrder :=
  h.foldl (fun _ _ ht => ht.updStation.endCause) _

theorem State.InOrder.stationStays (h : s.InOrder) {old : LinePlan} : (s.stationStays old a).InOrder :=
  .ite (.ite h.dropSheaves.raiseCause (.ite h.dropSheaves.endCause h.dropSheaves)) h.dropSheaves

theorem State.InOrder.stationPlan (h : s.InOrder) {old : LinePlan} : (s.stationPlan old a).InOrder := by
  unfold State.stationPlan
  split
  · exact h.frame (stationAppears_changes ..)
  · exact h.stationVanishes
  · exact h.stationStays
  · exact h

theorem State.InOrder.stationsUpdate (h : s.InOrder) {old : LinePlan} : (s.stationsUpdate old).InOrder :=
  (h.foldl (fun _ _ ht => ht.stationPlan) _).when (·.exclusionFollow)

/-! ## Line -/

theorem State.InOrder.updLnc (h : s.InOrder) {f : Lnc → Lnc} : (s.updLnc f).InOrder := h.frame (updLnc_changes ..)

/-- A received frame changes the supervisor by the station table and by what it carries. -/
theorem State.InOrder.receive (h : s.InOrder) {f : RxFrame} {report : Bool} {contents : State → State}
    (hcontents : ∀ {t : State}, t.InOrder → (contents t).InOrder) : (s.receive f report contents).InOrder :=
  .ite (h.frame (receiveError_changes ..)) (.ite (h.frame (endReception_changes ..))
    ((h.updLnc.stationFrame.when hcontents).frame (endReception_changes ..)))

theorem State.InOrder.receiveStatus (h : s.InOrder) {f : RxFrame} : (s.receiveStatus f).InOrder := by
  unfold State.receiveStatus
  split
  · exact h.receive (·.takeStatus)
  · exact h.receive id

theorem State.InOrder.receiveTrip (h : s.InOrder) {f : RxFrame} : (s.receiveTrip f).InOrder := by
  unfold State.receiveTrip
  split
  · exact h.receive (·.takeTrip)
  · exact h.receive id

theorem State.InOrder.receiveNote (h : s.InOrder) {f : RxFrame} : (s.receiveNote f).InOrder := by
  unfold State.receiveNote
  split
  · exact h.receive fun ht => .ite ht.journal ht
  · exact h.receive id

theorem State.InOrder.receivePairReq (h : s.InOrder) {f : RxFrame} : (s.receivePairReq f).InOrder := by
  unfold State.receivePairReq
  split
  · exact h.receive (·.frame (pairRequest_changes ..))
  · exact h.receive id

theorem State.InOrder.receiveHook (h : s.InOrder) {f : RxFrame} : (s.receiveHook f).InOrder := by
  unfold State.receiveHook
  split
  · exact h.receive (·.frame (hookFrame_changes ..))
  · exact h.receive id

theorem State.InOrder.beginBreak (h : s.InOrder) {sender : Option Nat} : (s.beginBreak sender).InOrder :=
  .ite h (((((h.updLnc.frame (enterLine_changes ..)).raiseCause.when
    (·.frame (countReceiveError_changes ..))).frame (stationsBreakBegin_changes ..)).frame
      (callsBreakBegin_changes ..)))

theorem State.InOrder.endBreak (h : s.InOrder) : s.endBreak.InOrder :=
  .ite (((h.frame (enterLine_changes ..)).endCause.frame (stationsBreakEnd_changes ..)).frame
    (callsBreakEnd_changes ..)) h

/-! ## Setup store (R177, R179, R183) -/

/-- A change of the setup store that leaves the active rope plan and ceiling table alone keeps the order. -/
theorem State.InOrder.updSst (h : s.InOrder) {f : Sst → Sst}
    (hceiling : (f s.sst).active.ceiling = s.sst.active.ceiling := by rfl)
    (hrope : (f s.sst).active.rope = s.sst.active.rope := by rfl) : (s.updSst f).InOrder := h.of_eq rfl hceiling hrope

/-- Before the ceiling is recomputed, a new active table leaves what the state and the chain follow as it is. -/
theorem State.StateFollows.updSst (h : s.StateFollows) {f : Sst → Sst} : (s.updSst f).StateFollows := h.of_msv_eq rfl

theorem State.StateFollows.journal (h : s.StateFollows) {kind : JKind} {block : Block} {n : Nat} {detail : List Byte} :
    (s.journal kind block n detail).StateFollows := h.of_msv_eq (journal_changes ..).msv_eq

theorem State.InOrder.usersTake (h : s.InOrder) {old : Tables} {k : Nat} : (s.usersTake old k).InOrder := by
  unfold State.usersTake
  split
  · exact h.stateFollows.recomputeCeiling
  · exact h.stateFollows.recomputeCeiling
  · exact h.stationsUpdate
  · exact h

/-- Adopting another table than 2 and 3 leaves the active rope plan and ceiling table alone. -/
theorem clamped_withPending_eq (m : List Host.Cell) (t : Tables) : ∀ {k : Nat}, k ≠ 2 → k ≠ 3 →
    ((withPending m t k).clamped k).ceiling = t.ceiling ∧ ((withPending m t k).clamped k).rope = t.rope
  | 0, _, _ | 1, _, _ | 4, _, _ | _ + 5, _, _ => ⟨rfl, rfl⟩
  | 2, h2, _ => absurd rfl h2
  | 3, _, h3 => absurd rfl h3

/-- An adopted rope plan or ceiling table has the ceiling recomputed, the other tables do not touch it (R156, R179). -/
theorem State.InOrder.adoptCopy (h : s.InOrder) {k : Nat} {fs : List (Nat × Finding)} :
    (s.adoptCopy k fs (withPending s.mem s.sst.active k)).InOrder := by
  unfold State.adoptCopy
  dsimp only
  by_cases hk : k = 2 ∨ k = 3
  · rcases hk with rfl | rfl
    · exact h.stateFollows.updSst.journal.recomputeCeiling
    · exact h.stateFollows.updSst.journal.recomputeCeiling
  · obtain ⟨h2, h3⟩ := not_or.mp hk
    obtain ⟨hceiling, hrope⟩ := clamped_withPending_eq s.mem s.sst.active h2 h3
    exact (h.updSst hceiling hrope).journal.usersTake

theorem State.InOrder.adopt (h : s.InOrder) {k : Nat} : (s.adopt k).1.InOrder := by
  refine h.answeredOr (h.answeredOr (h.answeredOr (h.answeredOr ?_)))
  split
  · exact h
  · exact h
  · exact h.adoptCopy

theorem State.InOrder.changeLock (h : s.InOrder) {f : Lock → Except ResultCode Lock} {k : Nat} :
    (s.changeLock f k).1.InOrder := by
  unfold State.changeLock
  split
  · dsimp only
    exact h.updSst
  · exact h

theorem State.InOrder.changeLocks (h : s.InOrder) {f : Lock → Except ResultCode Lock} : (s.changeLocks f).1.InOrder :=
  List.foldlRecOn (motive := fun p : State × OrderResult => p.1.InOrder) [0, 1, 2, 3, 4, 5] _ h
    fun _ hp _ _ => hp.changeLock

theorem State.InOrder.unlock (h : s.InOrder) {k : Nat} : (s.unlock k).1.InOrder := by
  unfold State.unlock
  split
  · exact h.changeLocks
  split
  · exact h
  · exact h.changeLock

theorem State.InOrder.lock (h : s.InOrder) {k level : Nat} : (s.lock k level).1.InOrder := by
  refine h.answeredOr ?_
  dsimp only
  split
  · exact h.changeLocks
  · exact h.changeLock

theorem State.InOrder.keyChange (h : s.InOrder) {active : Bool} : (s.keyChange active).InOrder :=
  .ite h.updPins h.updPins.updSst

theorem updSet_active (t : Sst) (n : Nat) (f : UserSet → UserSet) : (t.updSet n f).active = t.active := by
  unfold Sst.updSet
  split <;> rfl

theorem State.InOrder.startSave (h : s.InOrder) {k n : Nat} : (s.startSave k n).InOrder :=
  h.updSst (by simp [updSet_active]) (by simp [updSet_active])

theorem State.InOrder.saveDone (h : s.InOrder) : s.saveDone.InOrder := by
  unfold State.saveDone
  split
  · exact h
  · exact (h.updSst (by simp [updSet_active]) (by simp [updSet_active])).journal.completeOrder

/-- All six tables are active before the users take them, so the ceiling is recomputed from the loaded ones (R183). -/
theorem State.InOrder.loadSet (h : s.InOrder) {n : Nat} : (s.loadSet n).1.InOrder := by
  refine h.answeredOr (h.answeredOr (h.answeredOr (h.answeredOr (h.answeredOr (h.answeredOr ?_)))))
  dsimp only [List.foldl_cons, List.foldl_nil]
  exact h.stateFollows.updSst.journal.recomputeCeiling.usersTake.usersTake.usersTake

/-! ## Order board (R170, R171) -/

theorem State.InOrder.writeResult (h : s.InOrder) {slip : Nat} {r : OrderResult} : (s.writeResult slip r).InOrder :=
  h.frame (writeResult_changes ..)

theorem State.InOrder.runShort (h : s.InOrder) {o : Order} : (s.runShort o).1.InOrder := by
  cases o with
  | start => exact h.startOrder
  | stop => exact h.operatorCause
  | fastStop => exact h.operatorCause
  | resume => exact h.resumeOrder
  | setCeiling _ => exact h.setCeiling
  | ackCause _ _ => exact h.ackOrder
  | rebuildTrack _ =>
    unfold State.runShort
    dsimp only
    split
    · exact h
    · exact h.rebuild
  | barCabin _ => exact h.frame (barCabin_changes ..)
  | unbarCabin _ => exact h.frame (unbarCabin_changes ..)
  | garageCabin _ => exact h.frame (garageCabin_changes ..)
  | setDriveMode _ _ => exact h.setDriveMode
  | haltDrive _ => exact h.haltDrive
  | excludeStation _ => exact h.excludeStation
  | includeStation _ => exact h.includeStation
  | answer _ => exact h.frame (answerCall_changes ..)
  | hangUp _ => exact h.frame (hangUpCall_changes ..)
  | adopt _ => exact h.adopt
  | unlock _ => exact h.unlock
  | lock _ _ => exact h.lock
  | loadSet _ => exact h.loadSet
  | setClock _ => exact h.updSst.journal
  | releaseCabin _ | stroke _ _ | sendNote _ _ _ | call _ _ | saveSet _ => exact h

theorem State.InOrder.startLong (h : s.InOrder) {k : Nat} {o : Order} : (s.startLong k o).InOrder := by
  unfold State.startLong
  split
  · exact h.frame (startRelease_changes ..)
  · exact h.startStrokeOrder
  · exact h.frame (startNote_changes ..)
  · exact h.frame (placeCall_changes ..)
  · exact h.startSave
  · exact h

theorem State.InOrder.dispatchLong (h : s.InOrder) {slip : Nat} {o : Order} : (s.dispatchLong slip o).InOrder := by
  unfold State.dispatchLong
  split
  · exact h.writeResult
  · split
    · exact h.writeResult
    · exact (h.frame (takeContext_changes ..)).startLong

theorem State.InOrder.dispatch (h : s.InOrder) {slip : Nat} {o : Order} : (s.dispatch slip o).InOrder :=
  .ite h.writeResult (.ite h.dispatchLong h.runShort.writeResult)

theorem State.InOrder.takeSlip (h : s.InOrder) {slip : Nat} {others : List Nat} : (s.takeSlip slip others).InOrder := by
  have hrefused : (others.foldl (fun t k => t.writeResult k (refusal .duplicateTicket)) s).InOrder :=
    h.foldl (fun _ _ ht => ht.writeResult) _
  unfold State.takeSlip
  dsimp only
  split
  · exact hrefused.writeResult.of_eq rfl rfl rfl
  · exact hrefused.dispatch.of_eq rfl rfl rfl

theorem State.InOrder.taking {n : Nat} (h : s.InOrder) : (State.taking n s).InOrder := by
  induction n generalizing s with
  | zero => exact h
  | succ n ih =>
    unfold State.taking
    split
    · exact h
    · exact ih h.takeSlip

/-! ## Resets (R176, R186) -/

/-- The blocks' reset states have the supervisor in STANDBY with an empty list, the chain open and the ceiling 0. -/
theorem resetBlocks_inOrder (s : State) : s.resetBlocks.InOrder := by
  refine ⟨⟨rfl, ?_, ?_, rfl, Nat.le_refl _, ?_⟩, State.causesOk_iff.mpr ⟨List.nodup_nil, ?_⟩⟩
  · exact fun h => absurd h Bool.false_ne_true
  · exact fun h => absurd h Bool.false_ne_true
  · simp [State.resetBlocks, speedRefOf]
  · exact fun c hc => absurd hc (List.not_mem_nil)

theorem State.InOrder.resetStations (h : s.InOrder) : s.resetStations.InOrder :=
  h.updStation.foldl (fun _ _ ht => ht.updStation.when (·.updHeld)) _

theorem State.InOrder.freeSlips (h : s.InOrder) : s.freeSlips.InOrder :=
  h.foldl (fun _ _ ht => ht.frame (setSlipState_changes ..)) _

theorem State.InOrder.stationEntries (h : s.InOrder) {old : Stn} : (s.stationEntries old).InOrder :=
  h.foldl (fun _ _ ht => .ite ht ht.journal) _

theorem State.InOrder.driveOffAtReset (h : s.InOrder) {c : Channel} : (s.driveOffAtReset c).InOrder :=
  .ite h.raiseCause h

theorem State.InOrder.statusPeriod (h : s.InOrder) : s.statusPeriod.InOrder := h.frame (statusPeriod_changes ..)

theorem State.InOrder.timePeriod (h : s.InOrder) : s.timePeriod.InOrder := h.frame (timePeriod_changes ..)

theorem State.InOrder.resetEvents (h : s.InOrder) {b : BeforeReset} {invalid : Option Nat} :
    (s.resetEvents b invalid).InOrder := by
  unfold State.resetEvents
  extract_lets s1 s2 s3 s4 s5 s6 s7 s8
  have h1 : s1.InOrder := State.InOrder.raiseCause (h.journal : s.resetEntry.InOrder)
  have h3 : s3.InOrder := h1.journal.driveOffAtReset.driveOffAtReset
  have h5 : s5.InOrder := (h3.when (·.journal)).stationEntries
  have h7 : s7.InOrder := (h5.when (·.journal)).when (·.setNews)
  have h8 : s8.InOrder := by
    cases invalid with
    | none => exact h7
    | some n => exact h7.journal
  exact h8.setNews.statusPeriod.timePeriod

/-- A pin or control reset leaves the supervisor in order whatever it was before. -/
theorem warmReset_inOrder (s : State) (kind : ResetKind) : (s.warmReset kind).InOrder := by
  unfold State.warmReset
  exact (resetBlocks_inOrder _).resetStations.freeSlips.resetEvents

theorem powerReset_inOrder (s : State) (held : Bool) (seconds : DWord) (ms : Nat) :
    (s.powerReset held seconds ms).InOrder := (resetBlocks_inOrder _).resetStations.resetEvents

/-! ## Host writes (R164 to R170) -/

theorem State.InOrder.disarm (h : s.InOrder) : s.disarm.InOrder := h.frame (disarm_changes s)

theorem State.InOrder.controlReset (h : s.InOrder) : s.controlReset.InOrder := .ite (warmReset_inOrder ..) h

theorem State.InOrder.hostReadCount (h : s.InOrder) {high : Word} : (s.hostReadCount high).InOrder :=
  have hstored : (s.disarm.storeWord 0x26 high).InOrder := h.disarm.frame (storeWord_changes ..)
  hstored.of_eq rfl rfl rfl

theorem State.InOrder.memoryWrite (h : s.InOrder) {offset : Nat} {value : Word} :
    (s.memoryWrite offset value).InOrder :=
  .ite h.hostReadCount (.ite (h.disarm.frame (storeWord_changes ..)) h.disarm)

theorem State.InOrder.controlWrite (h : s.InOrder) {value : Word} : (s.controlWrite value).InOrder :=
  .ite (h.frame (arm_changes s)) (.ite h.controlReset h.disarm)

/-! ## Every step -/

theorem State.InOrder.finish {t : State} (h : t.InOrder) : (finish s t).InOrder := h.frame (finish_changes s t)

theorem State.InOrder.boundaryEdge (h : s.InOrder) {edge : EdgeAt} : (s.boundaryEdge edge).InOrder := by
  cases edge with
  | b5 => exact h.updPins.edgeAt.endGripTest
  | b1 | b2 | b3 | b6 => exact h.edgeAt

/-- An outcome whose next state, if it answers one, has the supervisor in order. -/
def NextInOrder (o : Host.Outcome State Fault Refusal) : Prop := ∀ t, o = .next t → t.InOrder

theorem nextInOrder_next {t : State} : NextInOrder (.next t) ↔ t.InOrder :=
  ⟨fun h => h t rfl, fun h _ heq => by cases heq; exact h⟩

/-- A command whose meaning is an operation of its block keeps the order as the operation does. -/
theorem State.InOrder.done {t : State} (h : t.InOrder) : NextInOrder (.next (Machine.finish s t)) :=
  nextInOrder_next.mpr h.finish

theorem exec_inOrder (h : s.InOrder) : ∀ i : Instr, NextInOrder (exec i s)
  | .start .. | .stop .. | .fastStop .. | .resume .. | .setCeiling .. | .ackCause .. | .rebuildTrack .. | .barCabin ..
  | .unbarCabin .. | .garageCabin .. | .releaseCabin .. | .setDriveMode .. | .haltDrive .. | .stroke .. | .sendNote ..
  | .excludeStation .. | .includeStation .. | .call .. | .answer .. | .hangUp .. | .adopt .. | .unlock .. | .lock ..
  | .loadSet .. | .saveSet .. | .setClock .. => h.dispatch.done
  | .postWrite _ => h.disarm.taking.done
  | .newsWrite _ | .enableWrite _ => State.InOrder.done (h.disarm.of_eq rfl rfl rfl)
  | .resetSequenceArm => (h.frame (arm_changes s)).done
  | .controlReset => h.controlReset.done
  | .hostReadCountWrite _ => h.hostReadCount.done
  | .hostMemoryWrite .control _ => h.controlWrite.done
  | .hostMemoryWrite (.memory _) _ => by
    unfold exec execHostMemoryWrite
    dsimp only
    split
    · exact fun _ heq => nomatch heq
    split
    · exact fun _ heq => nomatch heq
    · exact h.memoryWrite.done
  | .powerUp .. => nextInOrder_next.mpr (powerReset_inOrder ..)
  | .pinReset => (warmReset_inOrder ..).done
  | .arrival => h.edgeB0.done
  | .tagFrame _ => (h.foldl (fun _ _ ht => ht.tagByte) _).done
  | .tagByteGapTimeout => (h.frame (tagGap_changes s)).done
  | .boundaryEdge _ => h.boundaryEdge.done
  | .cabinAtGate => h.edgeB4.done
  | .b4Falling => h.b4Falling.done
  | .b5Rising => h.b5Rising.done
  | .gInRising => (h.frame (gIn_changes s)).done
  | .gOutRising => h.gOut.done
  | .latchChange _ => h.latchChange.done
  | .proofTimerExpiry => h.proofExpires.done
  | .insertionTimeout => (h.frame (insertionExpires_changes s)).done
  | .openLimActive .. => (h.updPins.when (·.openLimit)).done
  | .closedLimActive .. => (h.updPins.when (·.closedLimit)).done
  | .obstrActive .. => (h.updPins.when (·.obstructed)).done
  | .openTimeExpiry _ | .closeTimeExpiry _ | .reverseTimeExpiry _ => h.strokeTimeout.done
  | .tachPulse _ => (h.frame (pulse_changes s _)).done
  | .ropeWindowEnd _ => h.ropeWindow.done
  | .trackWindowEnd => h.trackWindow.done
  | .launchWindowEnd => (h.frame (launchWindow_changes s)).done
  | .supervisorWindowEnd => h.supervisorWindow.done
  | .loopInputChange .. => (h.frame (loopInput_changes s ..)).done
  | .loopTimerExpiry _ => h.loopExpiry.done
  | .chainSenseChange _ => h.chainSenseChange.done
  | .setupKeyChange _ => h.keyChange.done
  | .saveSetDone => h.saveDone.done
  | .clockSecond => (h.updSst : s.clockSecond.InOrder).done
  | .idleGapReached => (h.frame (idleGap_changes s)).done
  | .transmitAttempt => (h.frame (transmit_changes s)).done
  | .arbitrationLoss => (h.frame (loseArbitration_changes s)).done
  | .bitError => (h.frame (bitErrorCut_changes s)).done
  | .ackSlotOutcome _ => (h.frame (ackOutcome_changes s _)).done
  | .receiveError _ => (h.frame (receiveError_changes s _)).done
  | .tripReceived _ => h.receiveTrip.done
  | .statusReceived _ => h.receiveStatus.done
  | .noteReceived _ => h.receiveNote.done
  | .pairReqReceived _ => h.receivePairReq.done
  | .hookReceived _ => h.receiveHook.done
  | .otherFrameReceived .. => (h.receive id).done
  | .breakBegin _ => h.beginBreak.done
  | .breakEnd => h.endBreak.done
  | .statusTimerExpiry => h.statusPeriod.done
  | .timeTimerExpiry => h.timePeriod.done
  | .silenceTimerExpiry _ => h.silenceExpires.done
  | .waitTimerExpiry _ => (h.frame (waitExpires_changes s _)).done
  | .ringTimerExpiry _ => (h.frame (ringExpires_changes s _)).done
  | .reannounceTimerExpiry => (h.frame (reannounceExpires_changes s)).done
  | .gripForceSample _ => (h.frame (forceSample_changes s _)).done
  | .startBitReceived _ => (h.frame (startBit_changes s _)).done
  | .callViewTimerSecond => (h.frame (callSeconds_changes s)).done

/-- A step idles, which moves the time base alone, or runs the command at the front of the queue. -/
theorem step_inOrder (h : s.InOrder) : NextInOrder (step s) := by
  unfold step
  split
  · exact State.InOrder.done (h.of_eq rfl rfl rfl)
  · next c rest _ =>
    have hrest : State.InOrder { s with pending := rest } := h.of_eq rfl rfl rfl
    exact exec_inOrder hrest c

end

/-- Settles O57: the invariant is kept by every operation, command and idle step. -/
theorem stepsKeepChainAndCeiling : Obligations.StepsKeepChainAndCeiling := by
  intro s t hobeys hcauses hstep
  obtain ⟨hobeys', hcauses'⟩ := step_inOrder ⟨hobeys, hcauses⟩ t hstep
  exact ⟨hobeys', hcauses'⟩

end Sys2Proof.Machine
end

section
/-! PROOF. The frame of every command (R164): all but a power-up and the host's own writes leave terminal memory outside
the slips' states and results as it is, and every command keeps the canonical form of memory. -/

namespace Sys2Proof.Machine

-- One lemma at a time, as in Laws/State.lean.
set_option Elab.async false

open Sys2Proof

/-- Everything but terminal memory outside the slips' states and results. -/
abbrev commandParts : List Part :=
  [.time, .pins, .mem, .trk, .fleet, .ddu, .rpm, .lch, .lnc, .stn, .cal, .msv, .sst, .news, .journal, .contexts, .port]

/-- A change that leaves every byte of memory alone but those of slip states and results. -/
abbrev KeepsCells (s t : State) : Prop := ChangesOnly s commandParts t

/-! ## Resets and host writes -/

theorem keepsCells_of_mem_eq {s t : State} (h : t.mem = s.mem) : KeepsCells s t := by
  refine ⟨fun p hp => ?_⟩
  cases p
  case cells => exact ⟨fun a _ => by rw [h], fun hw => h ▸ hw⟩
  all_goals exact absurd (by decide) hp

section
variable {s : State}

theorem finish_keepsCells {t : State} {ps : List Part} (h : ChangesOnly s ps t) (hp : ps ⊆ commandParts := by decide) :
    KeepsCells s (finish s t) := (h.weaken hp).then (finish_changes s t)

theorem resetStations_changes (s : State) : ChangesOnly s [.stn] s.resetStations :=
  have hone : ∀ (t : State) (a : Nat), ChangesOnly t [.stn] ((t.updStation a fun r =>
      { r with timer := t.silencePeriod a .unheard }).when (t.present a) (·.markPlanned a)) := fun t _ =>
    (updStation_changes t ..).then (.when (updHeld_changes ..))
  (updStation_changes s ..).then (.foldl hone _ _)

theorem resetEntry_changes (s : State) : ChangesOnly s [.journal, .news] s.resetEntry := journal_changes s ..

theorem resetBlocks_keepsCells (s : State) : KeepsCells s s.resetBlocks := keepsCells_of_mem_eq rfl

theorem freeSlips_changes (s : State) : ChangesOnly s [.mem] s.freeSlips :=
  .foldl (fun t k => setSlipState_changes t k 0) _ s

theorem stationEntries_changes (s : State) (old : Stn) : ChangesOnly s [.journal, .news] (s.stationEntries old) :=
  .foldl (fun _ _ => .ite (.refl _ _) (journal_changes _ ..)) _ s

theorem driveOffAtReset_changes (s : State) (c : Channel) : ChangesOnly s causeParts (s.driveOffAtReset c) :=
  .ite (raiseCause_changes s ..) (.refl _ _)

/-- What the causes, entries and frames of a reset can change. -/
theorem resetEvents_changes (s : State) (b : BeforeReset) (invalid : Option Nat) :
    ChangesOnly s causeParts (s.resetEvents b invalid) := by
  unfold State.resetEvents
  extract_lets s1 s2 s3 s4 s5 s6 s7 s8
  have h1 : ChangesOnly s causeParts s1 := ((resetEntry_changes s).weaken).then (raiseCause_changes ..)
  have h3 : ChangesOnly s causeParts s3 :=
    ((h1.then (journal_changes _ ..)).then (driveOffAtReset_changes ..)).then (driveOffAtReset_changes ..)
  have h4 : ChangesOnly s causeParts s4 := h3.then (.when (journal_changes s3 ..))
  have h5 : ChangesOnly s causeParts s5 := h4.then (stationEntries_changes ..)
  have h6 : ChangesOnly s causeParts s6 := h5.then (.when (journal_changes s5 ..))
  have h7 : ChangesOnly s causeParts s7 := h6.then (.when (setNews_changes s6 _))
  have h8 : ChangesOnly s causeParts s8 := by
    cases invalid with
    | none => exact h7
    | some n => exact h7.then (journal_changes _ ..)
  exact ((h8.then (setNews_changes ..)).then (statusPeriod_changes _)).then (timePeriod_changes _)

theorem warmReset_keepsCells (kind : ResetKind) : KeepsCells s (s.warmReset kind) := by
  unfold State.warmReset
  extract_lets b s1
  have h1 : KeepsCells s s1 := (updSst_changes s _).weaken
  have hblocks : KeepsCells s s1.resetBlocks := h1.then (resetBlocks_keepsCells s1)
  exact ((hblocks.then (resetStations_changes _)).then (freeSlips_changes _)).then (resetEvents_changes ..)

theorem controlReset_keepsCells : KeepsCells s s.controlReset := .ite (warmReset_keepsCells _) (.refl _ _)

/-! ## Every command -/

theorem boundaryEdge_changes (edge : EdgeAt) : ChangesOnly s sensorParts (s.boundaryEdge edge) := by
  cases edge with
  | b5 => exact (((updPins_changes s _).weaken).then (edgeAt_changes _ _)).then (endGripTest_changes _)
  | b1 | b2 | b3 | b6 => exact (edgeAt_changes s _).weaken

theorem setInput_changes (c : Channel) (f : ChannelPins → ChannelPins) : ChangesOnly s [.pins] (s.setInput c f) :=
  updPins_changes s _

theorem openLimActive_changes (c : Channel) (b : Bool) : ChangesOnly s sensorParts
    ((s.setInput c fun p => { p with openLim := b }).when b (·.openLimit c)) :=
  ((setInput_changes c _).weaken).then (.when (openLimit_changes _ c))

theorem closedLimActive_changes (c : Channel) (b : Bool) : ChangesOnly s sensorParts
    ((s.setInput c fun p => { p with closedLim := b }).when b (·.closedLimit c)) :=
  ((setInput_changes c _).weaken).then (.when (closedLimit_changes _ c))

theorem obstrActive_changes (c : Channel) (b : Bool) : ChangesOnly s sensorParts
    ((s.setInput c fun p => { p with obstr := b }).when b (·.obstructed c)) :=
  ((setInput_changes c _).weaken).then (.when (obstructed_changes _ c))

/-- Every command but a power-up and the host's own writes leaves the cells of memory alone. -/
theorem exec_keepsCells {t : State} : ∀ {i : Instr}, i.writesAnywhere = false → exec i s = .next t → KeepsCells s t
  | .powerUp .., hi, _ | .hostReadCountWrite _, hi, _ | .hostMemoryWrite .., hi, _ => by cases hi
  | .start .., _, rfl | .stop .., _, rfl | .fastStop .., _, rfl | .resume .., _, rfl | .setCeiling .., _, rfl
  | .ackCause .., _, rfl | .rebuildTrack .., _, rfl | .barCabin .., _, rfl | .unbarCabin .., _, rfl
  | .garageCabin .., _, rfl | .releaseCabin .., _, rfl | .setDriveMode .., _, rfl | .haltDrive .., _, rfl
  | .stroke .., _, rfl | .sendNote .., _, rfl | .excludeStation .., _, rfl | .includeStation .., _, rfl
  | .call .., _, rfl | .answer .., _, rfl | .hangUp .., _, rfl | .adopt .., _, rfl | .unlock .., _, rfl
  | .lock .., _, rfl | .loadSet .., _, rfl | .saveSet .., _, rfl | .setClock .., _, rfl =>
    finish_keepsCells (dispatch_changes s ..)
  | .postWrite _, _, rfl => finish_keepsCells (((disarm_changes s).weaken).then (taking_changes 33 _) (ps := commandParts))
  | .newsWrite _, _, rfl | .enableWrite _, _, rfl => finish_keepsCells (keepsCells_of_mem_eq rfl)
  | .resetSequenceArm, _, rfl => finish_keepsCells (arm_changes s)
  | .controlReset, _, rfl => finish_keepsCells controlReset_keepsCells
  | .pinReset, _, rfl => finish_keepsCells (warmReset_keepsCells .pin)
  | .arrival, _, rfl => finish_keepsCells (edgeB0_changes s)
  | .tagFrame bytes, _, rfl => finish_keepsCells (.foldl (fun t b => tagByte_changes t b) bytes s)
  | .tagByteGapTimeout, _, rfl => finish_keepsCells (tagGap_changes s)
  | .boundaryEdge _, _, rfl => finish_keepsCells (boundaryEdge_changes _)
  | .cabinAtGate, _, rfl => finish_keepsCells (edgeB4_changes s)
  | .b4Falling, _, rfl => finish_keepsCells (b4Falling_changes s)
  | .b5Rising, _, rfl => finish_keepsCells (b5Rising_changes s)
  | .gInRising, _, rfl => finish_keepsCells (gIn_changes s)
  | .gOutRising, _, rfl => finish_keepsCells (gOut_changes s)
  | .latchChange _, _, rfl => finish_keepsCells (latchChange_changes s _)
  | .proofTimerExpiry, _, rfl => finish_keepsCells (proofExpires_changes s)
  | .insertionTimeout, _, rfl => finish_keepsCells (insertionExpires_changes s)
  | .openLimActive .., _, rfl => finish_keepsCells (openLimActive_changes ..)
  | .closedLimActive .., _, rfl => finish_keepsCells (closedLimActive_changes ..)
  | .obstrActive .., _, rfl => finish_keepsCells (obstrActive_changes ..)
  | .openTimeExpiry _, _, rfl | .closeTimeExpiry _, _, rfl | .reverseTimeExpiry _, _, rfl =>
    finish_keepsCells (strokeTimeout_changes s ..)
  | .tachPulse _, _, rfl => finish_keepsCells (pulse_changes s _)
  | .ropeWindowEnd _, _, rfl => finish_keepsCells (ropeWindow_changes s _)
  | .trackWindowEnd, _, rfl => finish_keepsCells (trackWindow_changes s)
  | .launchWindowEnd, _, rfl => finish_keepsCells (launchWindow_changes s)
  | .supervisorWindowEnd, _, rfl => finish_keepsCells (supervisorWindow_changes s)
  | .loopInputChange .., _, rfl => finish_keepsCells (loopInput_changes s ..)
  | .loopTimerExpiry _, _, rfl => finish_keepsCells (loopExpiry_changes s _)
  | .chainSenseChange _, _, rfl => finish_keepsCells (chainSenseChange_changes s _)
  | .setupKeyChange _, _, rfl => finish_keepsCells (keyChange_changes s _)
  | .saveSetDone, _, rfl => finish_keepsCells (saveDone_changes s)
  | .clockSecond, _, rfl => finish_keepsCells (clockSecond_changes s)
  | .idleGapReached, _, rfl => finish_keepsCells (idleGap_changes s)
  | .transmitAttempt, _, rfl => finish_keepsCells (transmit_changes s)
  | .arbitrationLoss, _, rfl => finish_keepsCells (loseArbitration_changes s)
  | .bitError, _, rfl => finish_keepsCells (bitErrorCut_changes s)
  | .ackSlotOutcome _, _, rfl => finish_keepsCells (ackOutcome_changes s _)
  | .receiveError _, _, rfl => finish_keepsCells (receiveError_changes s _)
  | .tripReceived _, _, rfl => finish_keepsCells (receiveTrip_changes s _)
  | .statusReceived _, _, rfl => finish_keepsCells (receiveStatus_changes s _)
  | .noteReceived _, _, rfl => finish_keepsCells (receiveNote_changes s _)
  | .pairReqReceived _, _, rfl => finish_keepsCells (receivePairReq_changes s _)
  | .hookReceived _, _, rfl => finish_keepsCells (receiveHook_changes s _)
  | .otherFrameReceived .., _, rfl => finish_keepsCells (receive_changes s _ false id fun t => .refl t _)
  | .breakBegin _, _, rfl => finish_keepsCells (beginBreak_changes s _)
  | .breakEnd, _, rfl => finish_keepsCells (endBreak_changes s)
  | .statusTimerExpiry, _, rfl => finish_keepsCells (statusPeriod_changes s)
  | .timeTimerExpiry, _, rfl => finish_keepsCells (timePeriod_changes s)
  | .silenceTimerExpiry _, _, rfl => finish_keepsCells (silenceExpires_changes s _)
  | .waitTimerExpiry _, _, rfl => finish_keepsCells (waitExpires_changes s _)
  | .ringTimerExpiry _, _, rfl => finish_keepsCells (ringExpires_changes s _)
  | .reannounceTimerExpiry, _, rfl => finish_keepsCells (reannounceExpires_changes s)
  | .gripForceSample _, _, rfl => finish_keepsCells (forceSample_changes s _)
  | .startBitReceived _, _, rfl => finish_keepsCells (startBit_changes s _)
  | .callViewTimerSecond, _, rfl => finish_keepsCells (callSeconds_changes s)

/-! ## The canonical form -/

theorem KeepsCells.wf {t : State} (h : KeepsCells s t) (hw : Memory.wf s.mem = true) : Memory.wf t.mem = true :=
  (h.same .cells (by decide)).2 hw

theorem KeepsCells.boardOnly {t : State} (h : KeepsCells s t) : BoardOnly s t := (h.same .cells (by decide)).1

theorem memoryWrite_wf {offset : Nat} {value : Word} (hw : Memory.wf s.mem = true) :
    Memory.wf (s.memoryWrite offset value).mem = true := by
  unfold State.memoryWrite
  split
  · exact wf_memWriteList hw
  split
  · exact wf_memWriteList hw
  · exact hw

theorem controlWrite_keepsCells {value : Word} : KeepsCells s (s.controlWrite value) :=
  .ite ((arm_changes s).weaken) (.ite controlReset_keepsCells ((disarm_changes s).weaken))

/-- A power-up empties memory (R176). -/
theorem powerReset_wf {held : Bool} {seconds : DWord} {ms : Nat} :
    Memory.wf (s.powerReset held seconds ms).mem = true := by
  unfold State.powerReset
  extract_lets n s1 s2
  have h : KeepsCells s1 s2 :=
    ((resetBlocks_keepsCells s1).then (resetStations_changes _)).then (resetEvents_changes ..)
  exact h.wf rfl

theorem exec_wf {t : State} {i : Instr} (hw : Memory.wf s.mem = true) (h : exec i s = .next t) :
    Memory.wf t.mem = true := by
  by_cases hi : i.writesAnywhere = false
  · exact (exec_keepsCells hi h).wf hw
  · match i with
    | .powerUp .. => cases h; exact powerReset_wf
    | .hostReadCountWrite _ => cases h; exact wf_memWriteList hw
    | .hostMemoryWrite .control _ => cases h; exact (controlWrite_keepsCells).wf hw
    | .hostMemoryWrite (.memory offset) value =>
      unfold exec execHostMemoryWrite at h
      dsimp only at h
      split at h
      · cases h
      split at h
      · cases h
      · cases h; exact memoryWrite_wf hw

end
end Sys2Proof.Machine
end

section
/-! PROOF. The frames of the shared operations read field by field: which blocks journalling, completing an order, raising and
ending a cause, and a decision at the gate leave as they are. -/

namespace Sys2Proof.Machine

-- One lemma at a time, as in Laws/State.lean.
set_option Elab.async false

open Sys2Proof

/-! ## Reading a field off a frame -/

section
variable {s t : State} {ps : List Part} (h : ChangesOnly s ps t)
include h

theorem ChangesOnly.pins_eq (hp : .pins ∉ ps := by decide) : t.pins = s.pins := h.same .pins hp
theorem ChangesOnly.mem_eq (hp : .mem ∉ ps := by decide) : t.mem = s.mem := h.same .mem hp
theorem ChangesOnly.trk_eq (hp : .trk ∉ ps := by decide) : t.trk = s.trk := h.same .trk hp
theorem ChangesOnly.fleet_eq (hp : .fleet ∉ ps := by decide) : t.fleet = s.fleet := h.same .fleet hp
theorem ChangesOnly.ddu_eq (hp : .ddu ∉ ps := by decide) : t.ddu = s.ddu := h.same .ddu hp
theorem ChangesOnly.lch_eq (hp : .lch ∉ ps := by decide) : t.lch = s.lch := h.same .lch hp
theorem ChangesOnly.lnc_eq (hp : .lnc ∉ ps := by decide) : t.lnc = s.lnc := h.same .lnc hp
theorem ChangesOnly.stn_eq (hp : .stn ∉ ps := by decide) : t.stn = s.stn := h.same .stn hp
theorem ChangesOnly.cal_eq (hp : .cal ∉ ps := by decide) : t.cal = s.cal := h.same .cal hp
theorem ChangesOnly.sst_eq (hp : .sst ∉ ps := by decide) : t.sst = s.sst := h.same .sst hp
theorem ChangesOnly.now_eq (hp : .time ∉ ps := by decide) : t.now = s.now := (h.same .time hp).1
theorem ChangesOnly.resetAt_eq (hp : .time ∉ ps := by decide) : t.resetAt = s.resetAt := (h.same .time hp).2.1
theorem ChangesOnly.pending_eq (hp : .time ∉ ps := by decide) : t.pending = s.pending := (h.same .time hp).2.2
theorem ChangesOnly.news_eq (hp : .news ∉ ps := by decide) : t.obc.news = s.obc.news := h.same .news hp
theorem ChangesOnly.contexts_eq (hp : .contexts ∉ ps := by decide) : t.obc.contexts = s.obc.contexts :=
  h.same .contexts hp

/-- The clock reads the time base and the setup store. -/
theorem ChangesOnly.clockTime_eq (hp : .time ∉ ps ∧ .sst ∉ ps := by decide) : t.clockTime = s.clockTime := by
  simp only [State.clockTime, State.clockMs, h.now_eq hp.1, h.sst_eq hp.2]
end

/-! ## The shared operations, field by field -/

section
variable (s : State)

@[simp] theorem journal_pins (k : JKind) (b : Block) (n : Nat) (d : List Byte) : (s.journal k b n d).pins = s.pins :=
  (journal_changes s ..).pins_eq
@[simp] theorem journal_mem (k : JKind) (b : Block) (n : Nat) (d : List Byte) : (s.journal k b n d).mem = s.mem :=
  (journal_changes s ..).mem_eq
@[simp] theorem journal_trk (k : JKind) (b : Block) (n : Nat) (d : List Byte) : (s.journal k b n d).trk = s.trk :=
  (journal_changes s ..).trk_eq
@[simp] theorem journal_fleet (k : JKind) (b : Block) (n : Nat) (d : List Byte) : (s.journal k b n d).fleet = s.fleet :=
  (journal_changes s ..).fleet_eq
@[simp] theorem journal_ddu (k : JKind) (b : Block) (n : Nat) (d : List Byte) : (s.journal k b n d).ddu = s.ddu :=
  (journal_changes s ..).ddu_eq
@[simp] theorem journal_lch (k : JKind) (b : Block) (n : Nat) (d : List Byte) : (s.journal k b n d).lch = s.lch :=
  (journal_changes s ..).lch_eq
@[simp] theorem journal_lnc (k : JKind) (b : Block) (n : Nat) (d : List Byte) : (s.journal k b n d).lnc = s.lnc :=
  (journal_changes s ..).lnc_eq
@[simp] theorem journal_stn (k : JKind) (b : Block) (n : Nat) (d : List Byte) : (s.journal k b n d).stn = s.stn :=
  (journal_changes s ..).stn_eq
@[simp] theorem journal_cal (k : JKind) (b : Block) (n : Nat) (d : List Byte) : (s.journal k b n d).cal = s.cal :=
  (journal_changes s ..).cal_eq
@[simp] theorem journal_msv (k : JKind) (b : Block) (n : Nat) (d : List Byte) : (s.journal k b n d).msv = s.msv :=
  (journal_changes s ..).msv_eq
@[simp] theorem journal_sst (k : JKind) (b : Block) (n : Nat) (d : List Byte) : (s.journal k b n d).sst = s.sst :=
  (journal_changes s ..).sst_eq
@[simp] theorem journal_now (k : JKind) (b : Block) (n : Nat) (d : List Byte) : (s.journal k b n d).now = s.now :=
  (journal_changes s ..).now_eq
@[simp] theorem journal_resetAt (k : JKind) (b : Block) (n : Nat) (d : List Byte) : (s.journal k b n d).resetAt = s.resetAt :=
  (journal_changes s ..).resetAt_eq
@[simp] theorem journal_pending (k : JKind) (b : Block) (n : Nat) (d : List Byte) : (s.journal k b n d).pending = s.pending :=
  (journal_changes s ..).pending_eq
@[simp] theorem journal_contexts (k : JKind) (b : Block) (n : Nat) (d : List Byte) : (s.journal k b n d).obc.contexts = s.obc.contexts :=
  (journal_changes s ..).contexts_eq

@[simp] theorem completeOrder_pins (k : Nat) (r : OrderResult) : (s.completeOrder k r).pins = s.pins :=
  (completeOrder_changes s ..).pins_eq
@[simp] theorem completeOrder_trk (k : Nat) (r : OrderResult) : (s.completeOrder k r).trk = s.trk :=
  (completeOrder_changes s ..).trk_eq
@[simp] theorem completeOrder_fleet (k : Nat) (r : OrderResult) : (s.completeOrder k r).fleet = s.fleet :=
  (completeOrder_changes s ..).fleet_eq
@[simp] theorem completeOrder_ddu (k : Nat) (r : OrderResult) : (s.completeOrder k r).ddu = s.ddu :=
  (completeOrder_changes s ..).ddu_eq
@[simp] theorem completeOrder_rpm (k : Nat) (r : OrderResult) : (s.completeOrder k r).rpm = s.rpm :=
  (completeOrder_changes s ..).rpm_eq
@[simp] theorem completeOrder_lch (k : Nat) (r : OrderResult) : (s.completeOrder k r).lch = s.lch :=
  (completeOrder_changes s ..).lch_eq
@[simp] theorem completeOrder_lnc (k : Nat) (r : OrderResult) : (s.completeOrder k r).lnc = s.lnc :=
  (completeOrder_changes s ..).lnc_eq
@[simp] theorem completeOrder_stn (k : Nat) (r : OrderResult) : (s.completeOrder k r).stn = s.stn :=
  (completeOrder_changes s ..).stn_eq
@[simp] theorem completeOrder_cal (k : Nat) (r : OrderResult) : (s.completeOrder k r).cal = s.cal :=
  (completeOrder_changes s ..).cal_eq
@[simp] theorem completeOrder_msv (k : Nat) (r : OrderResult) : (s.completeOrder k r).msv = s.msv :=
  (completeOrder_changes s ..).msv_eq
@[simp] theorem completeOrder_sst (k : Nat) (r : OrderResult) : (s.completeOrder k r).sst = s.sst :=
  (completeOrder_changes s ..).sst_eq
@[simp] theorem completeOrder_now (k : Nat) (r : OrderResult) : (s.completeOrder k r).now = s.now :=
  (completeOrder_changes s ..).now_eq
@[simp] theorem completeOrder_resetAt (k : Nat) (r : OrderResult) : (s.completeOrder k r).resetAt = s.resetAt :=
  (completeOrder_changes s ..).resetAt_eq
@[simp] theorem completeOrder_pending (k : Nat) (r : OrderResult) : (s.completeOrder k r).pending = s.pending :=
  (completeOrder_changes s ..).pending_eq

@[simp] theorem writeResult_pins (k : Nat) (r : OrderResult) : (s.writeResult k r).pins = s.pins :=
  (writeResult_changes s ..).pins_eq
@[simp] theorem writeResult_trk (k : Nat) (r : OrderResult) : (s.writeResult k r).trk = s.trk :=
  (writeResult_changes s ..).trk_eq
@[simp] theorem writeResult_fleet (k : Nat) (r : OrderResult) : (s.writeResult k r).fleet = s.fleet :=
  (writeResult_changes s ..).fleet_eq
@[simp] theorem writeResult_ddu (k : Nat) (r : OrderResult) : (s.writeResult k r).ddu = s.ddu :=
  (writeResult_changes s ..).ddu_eq
@[simp] theorem writeResult_rpm (k : Nat) (r : OrderResult) : (s.writeResult k r).rpm = s.rpm :=
  (writeResult_changes s ..).rpm_eq
@[simp] theorem writeResult_lch (k : Nat) (r : OrderResult) : (s.writeResult k r).lch = s.lch :=
  (writeResult_changes s ..).lch_eq
@[simp] theorem writeResult_lnc (k : Nat) (r : OrderResult) : (s.writeResult k r).lnc = s.lnc :=
  (writeResult_changes s ..).lnc_eq
@[simp] theorem writeResult_stn (k : Nat) (r : OrderResult) : (s.writeResult k r).stn = s.stn :=
  (writeResult_changes s ..).stn_eq
@[simp] theorem writeResult_cal (k : Nat) (r : OrderResult) : (s.writeResult k r).cal = s.cal :=
  (writeResult_changes s ..).cal_eq
@[simp] theorem writeResult_msv (k : Nat) (r : OrderResult) : (s.writeResult k r).msv = s.msv :=
  (writeResult_changes s ..).msv_eq
@[simp] theorem writeResult_sst (k : Nat) (r : OrderResult) : (s.writeResult k r).sst = s.sst :=
  (writeResult_changes s ..).sst_eq
@[simp] theorem writeResult_now (k : Nat) (r : OrderResult) : (s.writeResult k r).now = s.now :=
  (writeResult_changes s ..).now_eq
@[simp] theorem writeResult_resetAt (k : Nat) (r : OrderResult) : (s.writeResult k r).resetAt = s.resetAt :=
  (writeResult_changes s ..).resetAt_eq
@[simp] theorem writeResult_pending (k : Nat) (r : OrderResult) : (s.writeResult k r).pending = s.pending :=
  (writeResult_changes s ..).pending_eq
@[simp] theorem writeResult_contexts (k : Nat) (r : OrderResult) : (s.writeResult k r).obc.contexts = s.obc.contexts :=
  (writeResult_changes s ..).contexts_eq

@[simp] theorem setSlipState_pins (k n : Nat) : (s.setSlipState k n).pins = s.pins :=
  (setSlipState_changes s ..).pins_eq
@[simp] theorem setSlipState_trk (k n : Nat) : (s.setSlipState k n).trk = s.trk := (setSlipState_changes s ..).trk_eq
@[simp] theorem setSlipState_fleet (k n : Nat) : (s.setSlipState k n).fleet = s.fleet :=
  (setSlipState_changes s ..).fleet_eq
@[simp] theorem setSlipState_ddu (k n : Nat) : (s.setSlipState k n).ddu = s.ddu := (setSlipState_changes s ..).ddu_eq
@[simp] theorem setSlipState_rpm (k n : Nat) : (s.setSlipState k n).rpm = s.rpm := (setSlipState_changes s ..).rpm_eq
@[simp] theorem setSlipState_lch (k n : Nat) : (s.setSlipState k n).lch = s.lch := (setSlipState_changes s ..).lch_eq
@[simp] theorem setSlipState_lnc (k n : Nat) : (s.setSlipState k n).lnc = s.lnc := (setSlipState_changes s ..).lnc_eq
@[simp] theorem setSlipState_stn (k n : Nat) : (s.setSlipState k n).stn = s.stn := (setSlipState_changes s ..).stn_eq
@[simp] theorem setSlipState_cal (k n : Nat) : (s.setSlipState k n).cal = s.cal := (setSlipState_changes s ..).cal_eq
@[simp] theorem setSlipState_msv (k n : Nat) : (s.setSlipState k n).msv = s.msv := (setSlipState_changes s ..).msv_eq
@[simp] theorem setSlipState_sst (k n : Nat) : (s.setSlipState k n).sst = s.sst := (setSlipState_changes s ..).sst_eq
@[simp] theorem setSlipState_now (k n : Nat) : (s.setSlipState k n).now = s.now := (setSlipState_changes s ..).now_eq
@[simp] theorem setSlipState_resetAt (k n : Nat) : (s.setSlipState k n).resetAt = s.resetAt :=
  (setSlipState_changes s ..).resetAt_eq
@[simp] theorem setSlipState_pending (k n : Nat) : (s.setSlipState k n).pending = s.pending :=
  (setSlipState_changes s ..).pending_eq
@[simp] theorem setSlipState_contexts (k n : Nat) : (s.setSlipState k n).obc.contexts = s.obc.contexts :=
  (setSlipState_changes s ..).contexts_eq

@[simp] theorem gateEvent_pins : (s.gateEvent).pins = s.pins := (gateEvent_changes s).pins_eq
@[simp] theorem gateEvent_mem : (s.gateEvent).mem = s.mem := (gateEvent_changes s).mem_eq
@[simp] theorem gateEvent_trk : (s.gateEvent).trk = s.trk := (gateEvent_changes s).trk_eq
@[simp] theorem gateEvent_fleet : (s.gateEvent).fleet = s.fleet := (gateEvent_changes s).fleet_eq
@[simp] theorem gateEvent_ddu : (s.gateEvent).ddu = s.ddu := (gateEvent_changes s).ddu_eq
@[simp] theorem gateEvent_rpm : (s.gateEvent).rpm = s.rpm := (gateEvent_changes s).rpm_eq
@[simp] theorem gateEvent_lnc : (s.gateEvent).lnc = s.lnc := (gateEvent_changes s).lnc_eq
@[simp] theorem gateEvent_stn : (s.gateEvent).stn = s.stn := (gateEvent_changes s).stn_eq
@[simp] theorem gateEvent_cal : (s.gateEvent).cal = s.cal := (gateEvent_changes s).cal_eq
@[simp] theorem gateEvent_msv : (s.gateEvent).msv = s.msv := (gateEvent_changes s).msv_eq
@[simp] theorem gateEvent_sst : (s.gateEvent).sst = s.sst := (gateEvent_changes s).sst_eq
@[simp] theorem gateEvent_now : (s.gateEvent).now = s.now := (gateEvent_changes s).now_eq
@[simp] theorem gateEvent_resetAt : (s.gateEvent).resetAt = s.resetAt := (gateEvent_changes s).resetAt_eq
@[simp] theorem gateEvent_pending : (s.gateEvent).pending = s.pending := (gateEvent_changes s).pending_eq
@[simp] theorem gateEvent_contexts : (s.gateEvent).obc.contexts = s.obc.contexts := (gateEvent_changes s).contexts_eq

@[simp] theorem endCause_pins (c : CauseCode) (i : Nat) : (s.endCause c i).pins = s.pins :=
  (endCause_changes s ..).pins_eq
@[simp] theorem endCause_mem (c : CauseCode) (i : Nat) : (s.endCause c i).mem = s.mem := (endCause_changes s ..).mem_eq
@[simp] theorem endCause_trk (c : CauseCode) (i : Nat) : (s.endCause c i).trk = s.trk := (endCause_changes s ..).trk_eq
@[simp] theorem endCause_fleet (c : CauseCode) (i : Nat) : (s.endCause c i).fleet = s.fleet :=
  (endCause_changes s ..).fleet_eq
@[simp] theorem endCause_ddu (c : CauseCode) (i : Nat) : (s.endCause c i).ddu = s.ddu := (endCause_changes s ..).ddu_eq
@[simp] theorem endCause_lnc (c : CauseCode) (i : Nat) : (s.endCause c i).lnc = s.lnc := (endCause_changes s ..).lnc_eq
@[simp] theorem endCause_stn (c : CauseCode) (i : Nat) : (s.endCause c i).stn = s.stn := (endCause_changes s ..).stn_eq
@[simp] theorem endCause_cal (c : CauseCode) (i : Nat) : (s.endCause c i).cal = s.cal := (endCause_changes s ..).cal_eq
@[simp] theorem endCause_sst (c : CauseCode) (i : Nat) : (s.endCause c i).sst = s.sst := (endCause_changes s ..).sst_eq
@[simp] theorem endCause_now (c : CauseCode) (i : Nat) : (s.endCause c i).now = s.now := (endCause_changes s ..).now_eq
@[simp] theorem endCause_resetAt (c : CauseCode) (i : Nat) : (s.endCause c i).resetAt = s.resetAt :=
  (endCause_changes s ..).resetAt_eq
@[simp] theorem endCause_pending (c : CauseCode) (i : Nat) : (s.endCause c i).pending = s.pending :=
  (endCause_changes s ..).pending_eq
@[simp] theorem endCause_contexts (c : CauseCode) (i : Nat) : (s.endCause c i).obc.contexts = s.obc.contexts :=
  (endCause_changes s ..).contexts_eq

@[simp] theorem raiseCause_pins (c : CauseCode) (k : Category) (i : Nat) : (s.raiseCause c k i).pins = s.pins :=
  (raiseCause_changes s ..).pins_eq
@[simp] theorem raiseCause_trk (c : CauseCode) (k : Category) (i : Nat) : (s.raiseCause c k i).trk = s.trk :=
  (raiseCause_changes s ..).trk_eq
@[simp] theorem raiseCause_fleet (c : CauseCode) (k : Category) (i : Nat) : (s.raiseCause c k i).fleet = s.fleet :=
  (raiseCause_changes s ..).fleet_eq
@[simp] theorem raiseCause_ddu (c : CauseCode) (k : Category) (i : Nat) : (s.raiseCause c k i).ddu = s.ddu :=
  (raiseCause_changes s ..).ddu_eq
@[simp] theorem raiseCause_stn (c : CauseCode) (k : Category) (i : Nat) : (s.raiseCause c k i).stn = s.stn :=
  (raiseCause_changes s ..).stn_eq
@[simp] theorem raiseCause_sst (c : CauseCode) (k : Category) (i : Nat) : (s.raiseCause c k i).sst = s.sst :=
  (raiseCause_changes s ..).sst_eq
@[simp] theorem raiseCause_now (c : CauseCode) (k : Category) (i : Nat) : (s.raiseCause c k i).now = s.now :=
  (raiseCause_changes s ..).now_eq
@[simp] theorem raiseCause_resetAt (c : CauseCode) (k : Category) (i : Nat) : (s.raiseCause c k i).resetAt = s.resetAt :=
  (raiseCause_changes s ..).resetAt_eq
@[simp] theorem raiseCause_pending (c : CauseCode) (k : Category) (i : Nat) : (s.raiseCause c k i).pending = s.pending :=
  (raiseCause_changes s ..).pending_eq

@[simp] theorem raiseOnce_pins (c : CauseCode) (k : Category) (i : Nat) : (s.raiseOnce c k i).pins = s.pins :=
  (raiseOnce_changes s ..).pins_eq
@[simp] theorem raiseOnce_trk (c : CauseCode) (k : Category) (i : Nat) : (s.raiseOnce c k i).trk = s.trk :=
  (raiseOnce_changes s ..).trk_eq
@[simp] theorem raiseOnce_fleet (c : CauseCode) (k : Category) (i : Nat) : (s.raiseOnce c k i).fleet = s.fleet :=
  (raiseOnce_changes s ..).fleet_eq
@[simp] theorem raiseOnce_ddu (c : CauseCode) (k : Category) (i : Nat) : (s.raiseOnce c k i).ddu = s.ddu :=
  (raiseOnce_changes s ..).ddu_eq
@[simp] theorem raiseOnce_rpm (c : CauseCode) (k : Category) (i : Nat) : (s.raiseOnce c k i).rpm = s.rpm :=
  (raiseOnce_changes s ..).rpm_eq
@[simp] theorem raiseOnce_stn (c : CauseCode) (k : Category) (i : Nat) : (s.raiseOnce c k i).stn = s.stn :=
  (raiseOnce_changes s ..).stn_eq
@[simp] theorem raiseOnce_sst (c : CauseCode) (k : Category) (i : Nat) : (s.raiseOnce c k i).sst = s.sst :=
  (raiseOnce_changes s ..).sst_eq
@[simp] theorem raiseOnce_now (c : CauseCode) (k : Category) (i : Nat) : (s.raiseOnce c k i).now = s.now :=
  (raiseOnce_changes s ..).now_eq
@[simp] theorem raiseOnce_resetAt (c : CauseCode) (k : Category) (i : Nat) : (s.raiseOnce c k i).resetAt = s.resetAt :=
  (raiseOnce_changes s ..).resetAt_eq
@[simp] theorem raiseOnce_pending (c : CauseCode) (k : Category) (i : Nat) : (s.raiseOnce c k i).pending = s.pending :=
  (raiseOnce_changes s ..).pending_eq

end

end Sys2Proof.Machine
end

section
/-! PROOF. What raising and ending a cause does to the cause list and to the supervisor state (R143 to R149), as functions
of the list alone. -/

namespace Sys2Proof.Machine

-- One lemma at a time, as in Laws/State.lean.
set_option Elab.async false

open Sys2Proof

/-! ## What a reaction of the supervisor leaves unchanged -/

/-- Two values of the supervisor agree in the cause list, the LIMIT register, the operator ceiling and the speed
conditions: what the supervisor's own reaction to a change of the list leaves unchanged. -/
structure Msv.SameList (m n : Msv) : Prop where
  causes : n.causes = m.causes
  aggregate : n.aggregate = m.aggregate
  limits : n.limits = m.limits
  opCeiling : n.opCeiling = m.opCeiling
  exceed : n.exceed = m.exceed
  overspeed : n.overspeed = m.overspeed
  decelFail : n.decelFail = m.decelFail
  ropeCreep : n.ropeCreep = m.ropeCreep

section
variable (s : State)

theorem recomputeCeiling_sameList : s.msv.SameList s.recomputeCeiling.msv := by
  rw [recomputeCeiling_msv]
  exact ⟨rfl, rfl, rfl, rfl, rfl, rfl, rfl, rfl⟩

theorem changeState_sameList (new : SupState) (brought : List Byte) :
    s.msv.SameList (s.changeState new brought).msv := by
  simp only [State.changeState, gateEvent_msv, recomputeCeiling_msv, setChain_msv, journal_msv]
  exact ⟨rfl, rfl, rfl, rfl, rfl, rfl, rfl, rfl⟩

theorem afterListChange_sameList (code : CauseCode) (index : Nat) :
    s.msv.SameList (s.afterListChange code index).msv := by
  unfold State.afterListChange
  split
  · exact changeState_sameList ..
  split
  · exact changeState_sameList ..
  · exact recomputeCeiling_sameList s

/-! ## The supervisor state after a change of the list (R149) -/

@[simp] theorem changeState_state (new : SupState) (brought : List Byte) :
    (s.changeState new brought).msv.state = new := by
  simp [State.changeState, recomputeCeiling_msv, setChain_msv]

@[simp] theorem changeState_chainOut (new : SupState) (brought : List Byte) :
    (s.changeState new brought).msv.chainOut = new.chainClosed := by
  simp [State.changeState, recomputeCeiling_msv, setChain_msv]

end

/-- The state to which a cause list takes a supervisor (R149). -/
def stateAfter (m : Msv) : SupState :=
  if m.hasFast ∧ (m.state = .run ∨ m.state = .stoppingService) then .stoppingFast
  else if m.hasLatched ∧ m.state = .run then .stoppingService
  else m.state

section
variable (s : State) (code : CauseCode) (index : Nat)

theorem afterListChange_state : (s.afterListChange code index).msv.state = stateAfter s.msv := by
  unfold State.afterListChange stateAfter
  split
  · simp
  split
  · simp
  · simp [recomputeCeiling_msv]

/-- CHAIN_OUT opens with a fast stop, and is closed already where a service stop begins (R154). -/
theorem afterListChange_chainOut : (s.afterListChange code index).msv.chainOut =
    if stateAfter s.msv = s.msv.state then s.msv.chainOut else (stateAfter s.msv).chainClosed := by
  unfold State.afterListChange stateAfter
  split
  · next h => rw [if_neg (by rintro heq; simp [← heq] at h)]; simp
  split
  · next h => rw [if_neg (by simp [h.2])]; simp
  · simp [recomputeCeiling_msv]

/-! ## Raising (R143, R145) -/

@[simp] theorem publishCause_msv (k : JKind) (c : Cause) (n : Nat) : (s.publishCause k c n).msv = s.msv :=
  (publishCause_changes s ..).msv_eq

theorem tellFast_msv : (s.tellFast code index).msv = s.msv := (tellFast_changes s ..).msv_eq

theorem when_msv {b : Bool} {f : State → State} (h : (f s).msv = s.msv) : (s.when b f).msv = s.msv := by
  unfold State.when
  split
  · exact h
  · rfl

end

/-- The cause list after a raise: the entry of the identity is repeated, or the raise is appended while there is room. -/
def raisedList (l : List Cause) (c : Cause) : List Cause :=
  match l.find? (·.isOf c.code c.index) with
  | some x =>
    l.map fun y => if y.isOf c.code c.index then { x with repeats := satInc 255 x.repeats, sub := c.sub } else y
  | none => if l.length < 31 then l ++ [c] else l

/-- The cause list after the end of a condition. -/
def endedList (l : List Cause) (code : CauseCode) (index : Nat) : List Cause :=
  match l.find? (·.isOf code index) with
  | none => l
  | some c =>
    if c.category = .limit ∨ c.sub = .activeAcked then l.filter fun x => !x.isOf code index
    else if c.sub = .activeUnacked then
      l.map fun x => if x.isOf code index then { c with sub := .clearedUnacked } else x
    else l

/-- The supervisor right after its list took a raise, before it acts on it. -/
def Msv.raised (m : Msv) (c : Cause) (now : ClockTime) : Msv :=
  { m with
    causes := raisedList m.causes c
    aggregate :=
      if (m.causes.find? (·.isOf c.code c.index)).isSome ∨ m.causes.length < 31 then m.aggregate
      else some (match m.aggregate with
        | none => ⟨now, 0⟩
        | some a => { a with repeats := satInc 255 a.repeats }) }

section
variable (s : State) (code : CauseCode) (category : Category) (index : Nat) (sub : SubState)

/-- Every raise changes the list, publishes that, has the supervisor act on it, and tells the line and the calls of a FAST
one (R143 to R147). -/
theorem listRaise_reacts : ∃ u : State, ∃ rcode rindex,
    u.msv = s.msv.raised ⟨code, category, index, s.clockTime, 0, sub⟩ s.clockTime ∧
    (s.listRaise code category index sub).msv = (u.afterListChange rcode rindex).msv := by
  unfold State.listRaise Msv.raised raisedList
  cases hfind : s.msv.causes.find? (·.isOf code index) with
  | some c =>
    refine ⟨_, _, _, ?_, when_msv (State.afterListChange _ code index) (tellFast_msv ..)⟩
    simp
  | none =>
    by_cases hroom : s.msv.causes.length < 31
    · simp only [hroom, if_true]
      refine ⟨_, _, _, ?_, when_msv (State.afterListChange _ code index) (tellFast_msv ..)⟩
      simp
    · simp only [hroom, if_false, State.raiseOverflow, State.publishAggregate]
      refine ⟨_, _, _, ?_, (when_msv _ (tellFast_msv ..)).trans
        (when_msv (State.afterListChange _ .causeOverflow 0) (tellFast_msv ..))⟩
      simp only [publishCause_msv, State.updMsv_msv]
      cases s.msv.aggregate <;> rfl

theorem listRaise_sameList : (s.msv.raised ⟨code, category, index, s.clockTime, 0, sub⟩ s.clockTime).SameList
    (s.listRaise code category index sub).msv := by
  obtain ⟨u, rcode, rindex, hu, heq⟩ := listRaise_reacts s code category index sub
  rw [heq, ← hu]
  exact afterListChange_sameList ..

theorem listRaise_state : (s.listRaise code category index sub).msv.state =
    stateAfter (s.msv.raised ⟨code, category, index, s.clockTime, 0, sub⟩ s.clockTime) := by
  obtain ⟨u, rcode, rindex, hu, heq⟩ := listRaise_reacts s code category index sub
  rw [heq, ← hu, afterListChange_state]

theorem listRaise_chainOut : (s.listRaise code category index sub).msv.chainOut =
    if stateAfter (s.msv.raised ⟨code, category, index, s.clockTime, 0, sub⟩ s.clockTime) = s.msv.state then
      s.msv.chainOut
    else (stateAfter (s.msv.raised ⟨code, category, index, s.clockTime, 0, sub⟩ s.clockTime)).chainClosed := by
  obtain ⟨u, rcode, rindex, hu, heq⟩ := listRaise_reacts s code category index sub
  rw [heq, afterListChange_chainOut, hu]
  rfl

/-- The LIMIT register with the pair of a raise (R147). -/
def Msv.withLimit (m : Msv) (code : CauseCode) (category : Category) (index : Nat) : Msv :=
  if category = .limit ∧ ¬ m.limits.contains (code, index) then { m with limits := m.limits ++ [(code, index)] } else m

theorem withLimit_causes (m : Msv) : (m.withLimit code category index).causes = m.causes := by
  unfold Msv.withLimit; split <;> rfl

theorem withLimit_state (m : Msv) : (m.withLimit code category index).state = m.state := by
  unfold Msv.withLimit; split <;> rfl

theorem withLimit_chainOut (m : Msv) : (m.withLimit code category index).chainOut = m.chainOut := by
  unfold Msv.withLimit; split <;> rfl

theorem withLimit_of_ne {m : Msv} (h : category ≠ .limit) : m.withLimit code category index = m := by
  simp [Msv.withLimit, h]

theorem withLimit_aggregate (m : Msv) : (m.withLimit code category index).aggregate = m.aggregate := by
  unfold Msv.withLimit; split <;> rfl

theorem raiseCause_eq : s.raiseCause code category index =
    (s.updMsv (·.withLimit code category index)).listRaise code category index .activeUnacked := by
  unfold State.raiseCause
  split
  · next h => simp only [State.updMsv, Msv.withLimit, if_pos h]
  · next h => simp only [State.updMsv, Msv.withLimit, if_neg h]

/-- The supervisor right after a raise, before it acts on it. -/
abbrev State.msvRaised (s : State) (code : CauseCode) (category : Category) (index : Nat) : Msv :=
  (s.msv.withLimit code category index).raised ⟨code, category, index, s.clockTime, 0, .activeUnacked⟩ s.clockTime

theorem raiseCause_sameList :
    (s.msvRaised code category index).SameList (s.raiseCause code category index).msv := by
  rw [raiseCause_eq]
  exact listRaise_sameList (s.updMsv (·.withLimit code category index)) ..

theorem raiseCause_state : (s.raiseCause code category index).msv.state =
    stateAfter (s.msvRaised code category index) := by
  rw [raiseCause_eq, listRaise_state]
  rfl

theorem raiseCause_chainOut : (s.raiseCause code category index).msv.chainOut =
    if stateAfter (s.msvRaised code category index) = s.msv.state then s.msv.chainOut
    else (stateAfter (s.msvRaised code category index)).chainClosed := by
  rw [raiseCause_eq, listRaise_chainOut]
  simp only [State.updMsv_msv, withLimit_state, withLimit_chainOut]
  rfl

theorem raiseCause_causes : (s.raiseCause code category index).msv.causes =
    raisedList s.msv.causes ⟨code, category, index, s.clockTime, 0, .activeUnacked⟩ := by
  rw [(raiseCause_sameList ..).causes]
  simp only [Msv.raised, withLimit_causes]

/-! ## Ending (R144) -/

/-- The end of a condition leaves the supervisor as it was, or has it act on the changed list. -/
theorem listEnd_reacts : (s.listEnd code index = s ∧ endedList s.msv.causes code index = s.msv.causes) ∨
    ∃ u : State, ∃ rcode rindex, u.msv = { s.msv with causes := endedList s.msv.causes code index } ∧
      s.listEnd code index = u.afterListChange rcode rindex := by
  unfold State.listEnd endedList
  split
  · next hfind => exact .inl ⟨rfl, by simp [hfind]⟩
  · next c hfind =>
    have hof : c.isOf code index = true := by simpa using List.find?_some hfind
    obtain ⟨hcode, hindex⟩ := Cause.isOf_iff.mp hof
    simp only [hfind]
    split
    · exact .inr ⟨_, _, _, by rw [publishCause_msv]; simp [hcode, hindex], rfl⟩
    split
    · exact .inr ⟨_, _, _, by rw [publishCause_msv]; rfl, rfl⟩
    · exact .inl ⟨rfl, rfl⟩

theorem listEnd_sameList :
    ({ s.msv with causes := endedList s.msv.causes code index } : Msv).SameList (s.listEnd code index).msv := by
  obtain ⟨heq, hlist⟩ | ⟨u, rcode, rindex, hu, heq⟩ := listEnd_reacts s code index
  · rw [heq, hlist]
    exact ⟨rfl, rfl, rfl, rfl, rfl, rfl, rfl, rfl⟩
  · rw [heq, ← hu]
    exact afterListChange_sameList ..

theorem endCause_causes : (s.endCause code index).msv.causes = endedList s.msv.causes code index := by
  unfold State.endCause
  rw [(listEnd_sameList ..).causes]
  split
  · rw [(recomputeCeiling_sameList _).causes]
    rfl
  · rfl

/-- The supervisor before and after the end of a condition, but for the list and the LIMIT register. -/
theorem endCause_sameList : ∃ limits : List (CauseCode × Nat), limits.Sublist s.msv.limits ∧
    ({ s.msv with causes := endedList s.msv.causes code index, limits := limits } : Msv).SameList
      (s.endCause code index).msv := by
  unfold State.endCause
  split
  · refine ⟨s.msv.limits.filter (· ≠ (code, index)), List.filter_sublist, ?_⟩
    have h1 := recomputeCeiling_sameList (s.updMsv fun m => { m with limits := m.limits.filter (· ≠ (code, index)) })
    have h2 := listEnd_sameList
      (s.updMsv fun m => { m with limits := m.limits.filter (· ≠ (code, index)) }).recomputeCeiling code index
    obtain ⟨c1, a1, l1, o1, e1, p1, d1, r1⟩ := h1
    obtain ⟨c2, a2, l2, o2, e2, p2, d2, r2⟩ := h2
    constructor
    · rw [c2]; simp only [c1]; rfl
    · rw [a2]; exact a1
    · rw [l2]; exact l1
    · rw [o2]; exact o1
    · rw [e2]; exact e1
    · rw [p2]; exact p1
    · rw [d2]; exact d1
    · rw [r2]; exact r1
  · exact ⟨s.msv.limits, List.Sublist.refl _, listEnd_sameList ..⟩

end

/-! ## The lists -/

section
variable {l : List Cause} {c : Cause} {code : CauseCode} {index : Nat}

/-- A raise of a listed identity, or one that finds room, is listed in its sub-state. -/
theorem raisedList_lists (hroom : l.length < 31 ∨ ∃ x ∈ l, x.isOf c.code c.index = true) :
    ∃ x ∈ raisedList l c, x.isOf c.code c.index = true ∧ x.sub = c.sub := by
  unfold raisedList
  split
  · next x hfind =>
    refine ⟨{ x with repeats := satInc 255 x.repeats, sub := c.sub }, ?_, ?_, rfl⟩
    · exact List.mem_map.mpr ⟨x, List.mem_of_find?_eq_some hfind, by rw [if_pos (List.find?_some hfind)]⟩
    · have := List.find?_some hfind
      simpa [Cause.isOf] using this
  · next hfind =>
    have hlt : l.length < 31 := hroom.resolve_right fun ⟨x, hx, hof⟩ =>
      absurd hof (List.find?_eq_none.mp hfind x hx)
    rw [if_pos hlt]
    exact ⟨c, by simp, by simp [Cause.isOf], rfl⟩

theorem raisedList_length : (raisedList l c).length ≤ max 31 l.length := by
  unfold raisedList
  split
  · simp
  · split
    · simp; omega
    · omega

theorem raisedList_length_le : (raisedList l c).length ≤ l.length + 1 := by
  unfold raisedList
  split
  · simp
  · split <;> simp

/-- An entry of another identity is listed after a raise as before it. -/
theorem mem_raisedList_of_ne {x : Cause} (hx : x.isOf c.code c.index = false) : x ∈ raisedList l c ↔ x ∈ l := by
  unfold raisedList
  split
  · next y hfind =>
    constructor
    · intro h
      obtain ⟨z, hz, heq⟩ := List.mem_map.mp h
      split at heq
      · have hy := List.find?_some hfind
        rw [← heq] at hx
        simp_all [Cause.isOf]
      · exact heq ▸ hz
    · intro h
      exact List.mem_map.mpr ⟨x, h, by simp [hx]⟩
  · next hfind =>
    split
    · simp only [List.mem_append, List.mem_singleton, or_iff_left_iff_imp]
      rintro rfl
      simp [Cause.isOf] at hx
    · rfl

theorem endedList_length_le : (endedList l code index).length ≤ l.length := by
  unfold endedList
  split
  · exact le_rfl
  split
  · exact List.length_filter_le ..
  split
  · simp
  · exact le_rfl

theorem mem_endedList_of_ne {x : Cause} (hx : x.isOf code index = false) : x ∈ endedList l code index ↔ x ∈ l := by
  unfold endedList
  split
  · rfl
  next c hfind =>
  split
  · simp [hx]
  split
  · constructor
    · intro h
      obtain ⟨z, hz, heq⟩ := List.mem_map.mp h
      split at heq
      · have hc := List.find?_some hfind
        rw [← heq] at hx
        simp_all [Cause.isOf]
      · exact heq ▸ hz
    · intro h
      exact List.mem_map.mpr ⟨x, h, by simp [hx]⟩
  · rfl

/-- Two entries of one identity in a list without repeats are one entry. -/
theorem isOf_unique (hid : (l.map fun c => (c.code, c.index)).Nodup) {x y : Cause} (hx : x ∈ l) (hy : y ∈ l)
    (hxof : x.isOf code index = true) (hyof : y.isOf code index = true) : x = y := by
  obtain ⟨hxc, hxi⟩ := Cause.isOf_iff.mp hxof
  obtain ⟨hyc, hyi⟩ := Cause.isOf_iff.mp hyof
  exact List.inj_on_of_nodup_map hid hx hy (by rw [hxc, hxi, hyc, hyi])

/-- After the end of its condition an entry is cleared, if it is still listed. -/
theorem endedList_cleared (hid : (l.map fun c => (c.code, c.index)).Nodup) {x : Cause}
    (hx : x ∈ endedList l code index) (hof : x.isOf code index = true) : x.sub = .clearedUnacked := by
  unfold endedList at hx
  split at hx
  · next hfind => exact absurd hof (List.find?_eq_none.mp hfind x hx)
  next c hfind =>
  split at hx
  · simp [hof] at hx
  split at hx
  · obtain ⟨z, -, heq⟩ := List.mem_map.mp hx
    split at heq
    · rw [← heq]
    · next hz => rw [heq] at hz; exact absurd hof hz
  · next hlimit hsub =>
    have hcof : c.isOf code index = true := by simpa using List.find?_some hfind
    have hxc : x = c := isOf_unique hid hx (List.mem_of_find?_eq_some hfind) hof hcof
    subst hxc
    cases hs : x.sub <;> simp_all

/-- The end of the condition of a latched cause that is not acknowledged leaves it listed. -/
theorem endedList_lists (hid : (l.map fun c => (c.code, c.index)).Nodup) {x : Cause} (hx : x ∈ l)
    (hof : x.isOf code index = true) (hcategory : x.category ≠ .limit) (hsub : x.sub ≠ .activeAcked) :
    ∃ y ∈ endedList l code index, y.isOf code index = true ∧ y.sub = .clearedUnacked ∧ y.category = x.category := by
  unfold endedList
  split
  · next hfind => exact absurd hof (List.find?_eq_none.mp hfind x hx)
  next c hfind =>
  have hcof : c.isOf code index = true := by simpa using List.find?_some hfind
  have hxc : c = x := isOf_unique hid (List.mem_of_find?_eq_some hfind) hx hcof hof
  subst hxc
  rw [if_neg (by simp [hcategory, hsub])]
  split
  · exact ⟨{ c with sub := .clearedUnacked }, List.mem_map.mpr ⟨c, hx, by rw [if_pos hof]⟩,
      by simpa [Cause.isOf] using hof, rfl, rfl⟩
  · next hu => exact ⟨c, hx, hof, by cases hs : c.sub <;> simp_all, rfl⟩

end

/-! ## Causes in order -/

theorem CausesInOrder.raised {l : List Cause} (h : CausesInOrder l) {c : Cause}
    (hcategory : c.category ∈ c.code.categories) : CausesInOrder (raisedList l c) := by
  unfold raisedList
  split
  · next x hfind => exact h.replace hfind ⟨rfl, rfl, rfl⟩
  · next hfind =>
    split
    · exact h.append hfind hcategory
    · exact h

theorem CausesInOrder.ended {l : List Cause} (h : CausesInOrder l) {code : CauseCode} {index : Nat} :
    CausesInOrder (endedList l code index) := by
  unfold endedList
  split
  · exact h
  next c hfind =>
  split
  · exact h.filter _
  split
  · exact h.replace hfind ⟨rfl, rfl, rfl⟩
  · exact h

theorem State.CausesOk.raiseCause {s : State} (h : s.CausesOk) {code : CauseCode} {category : Category} {index : Nat}
    (hcategory : category ∈ code.categories := by decide) : (s.raiseCause code category index).CausesOk := by
  rw [State.causesOk_iff, raiseCause_causes]
  exact (State.causesOk_iff.mp h).raised hcategory

theorem State.CausesOk.endCause {s : State} (h : s.CausesOk) {code : CauseCode} {index : Nat} :
    (s.endCause code index).CausesOk := by
  rw [State.causesOk_iff, endCause_causes]
  exact (State.causesOk_iff.mp h).ended

theorem State.CausesOk.raiseOnce {s : State} (h : s.CausesOk) {code : CauseCode} {category : Category} {index : Nat}
    (hcategory : category ∈ code.categories := by decide) : (s.raiseOnce code category index).CausesOk :=
  (h.raiseCause hcategory).endCause

theorem State.CausesOk.of_msv_eq {s t : State} (h : s.CausesOk) (hmsv : t.msv = s.msv) : t.CausesOk := by
  obtain ⟨hi, hc⟩ := h
  constructor <;> rw [hmsv] <;> assumption

/-! ## Lists and NoneActive -/

section
variable {s : State} {code : CauseCode} {category : Category} {index : Nat}

theorem raiseCause_lists (hroom : s.msv.causes.length < 31) :
    (s.raiseCause code category index).Lists code index .activeUnacked := by
  unfold State.Lists
  rw [raiseCause_causes]
  exact raisedList_lists (.inl hroom)

theorem endCause_noneActive (h : s.CausesOk) : (s.endCause code index).NoneActive code index := by
  unfold State.NoneActive
  rw [endCause_causes]
  exact fun c hc hof => endedList_cleared h.identity hc hof

/-- A raise whose condition ends at once leaves a latched entry, not acknowledged and cleared (R143). -/
theorem raiseOnce_lists (h : s.CausesOk) (hroom : s.msv.causes.length < 31)
    (hcategory : category ∈ code.categories := by decide) (hlatched : .limit ∉ code.categories := by decide) :
    (s.raiseOnce code category index).Lists code index .clearedUnacked := by
  have hok := h.raiseCause (index := index) hcategory
  obtain ⟨x, hx, hof, hsub⟩ := raiseCause_lists (s := s) (code := code) (category := category) (index := index) hroom
  have hx' : x.category ≠ .limit := fun heq =>
    hlatched ((Cause.isOf_iff.mp hof).1 ▸ heq ▸ hok.category x hx)
  obtain ⟨y, hy, hyof, hysub, -⟩ := endedList_lists hok.identity hx hof hx' (by rw [hsub]; decide)
  exact ⟨y, by rw [State.raiseOnce, endCause_causes]; exact hy, hyof, hysub⟩

/-- An entry of another identity is listed after a raise as before it. -/
theorem raiseCause_lists_of_ne {code' : CauseCode} {index' : Nat} {sub : SubState}
    (hne : ¬ (code' = code ∧ index' = index)) :
    (s.raiseCause code category index).Lists code' index' sub ↔ s.Lists code' index' sub := by
  unfold State.Lists
  rw [raiseCause_causes]
  refine exists_congr fun c => and_congr_left fun hc => mem_raisedList_of_ne ?_
  obtain ⟨rfl, rfl⟩ := Cause.isOf_iff.mp hc.1
  simpa [Cause.isOf] using hne

theorem endCause_lists_of_ne {code' : CauseCode} {index' : Nat} {sub : SubState}
    (hne : ¬ (code' = code ∧ index' = index)) :
    (s.endCause code index).Lists code' index' sub ↔ s.Lists code' index' sub := by
  unfold State.Lists
  rw [endCause_causes]
  refine exists_congr fun c => and_congr_left fun hc => mem_endedList_of_ne ?_
  obtain ⟨rfl, rfl⟩ := Cause.isOf_iff.mp hc.1
  simpa [Cause.isOf] using hne

theorem raiseCause_causes_length_le :
    (s.raiseCause code category index).msv.causes.length ≤ s.msv.causes.length + 1 := by
  rw [raiseCause_causes]
  exact raisedList_length_le

theorem endCause_causes_length_le : (s.endCause code index).msv.causes.length ≤ s.msv.causes.length := by
  rw [endCause_causes]
  exact endedList_length_le

theorem raiseOnce_causes_length_le :
    (s.raiseOnce code category index).msv.causes.length ≤ s.msv.causes.length + 1 :=
  endCause_causes_length_le.trans raiseCause_causes_length_le

end

end Sys2Proof.Machine
end

section
/-! PROOF. Every step keeps the tables' sizes, the names and the counts in order (R2, R23, R78, R100, R104, R109, R116, R126,
R142, R147, R160, R172, R174, R177). One relation between two states says what any run of operations keeps, block by
block; every operation is shown once to be such a run. A move between zones breaks the Z3 count until the count is taken
anew, so there is a looser relation for the operations between. -/

namespace Sys2Proof.Machine

-- One lemma at a time, as in Laws/State.lean.
set_option Elab.async false

open Sys2Proof

/-! # What is kept -/

/-- The entries have distinct names, older than the next one (log 16). -/
structure Trk.NamesOk (k : Trk) : Prop where
  distinct : (k.entries.map (·.uid)).Nodup
  fresh : ∀ e ∈ k.entries, e.uid < k.nextUid

/-- Every TRIP that waits to be sent is addressed to all (R104). -/
def Lnc.TripsOk (l : Lnc) : Prop := ∀ f ∈ l.queue, f.kind = .trip → f.dest = 15

/-- The calls have distinct ids in range, none of them the next one, and only the first may hold the pair (R126). -/
structure Cal.NamesOk (c : Cal) : Prop where
  distinct : (c.table.map (·.id)).Nodup
  next : 1 ≤ c.nextId ∧ c.nextId ≤ 255 ∧ ∀ r ∈ c.table, r.id ≠ c.nextId
  range : ∀ r ∈ c.table, 1 ≤ r.id ∧ r.id ≤ 255
  waiting : ∀ r ∈ c.table.tail, r.state = .waiting

/-- The three speed causes (R160). -/
def CauseCode.isSpeed : CauseCode → Bool
  | .overspeed | .decelFail | .ropeCreep => true
  | _ => false

/-- No two entries have one identity, and an active speed cause has index 0 and its condition marked (R142, R160). -/
structure Msv.NamesOk (m : Msv) : Prop where
  identity : (m.causes.map fun c => (c.code, c.index)).Nodup
  speed : ∀ c ∈ m.causes, c.sub ≠ .clearedUnacked → c.code.isSpeed = true →
    c.index = 0 ∧ m.speedActive c.code = true

/-- A REMOTE_TRIP entry has the category of its index (R116). -/
def Msv.RemoteOk (m : Msv) : Prop :=
  ∀ c ∈ m.causes, c.code = .remoteTrip → c.category = if 16 ≤ c.index then .fast else .service

/-- The LIMIT register holds LIMIT codes alone (R147, R148). -/
def Msv.LimitsOk (m : Msv) : Prop := ∀ p ∈ m.limits, p.1.categories = [.limit]

/-- The station table has 14 records of four sheaves each (R109). -/
structure Stn.SizesOk (k : Stn) : Prop where
  stations : k.records.length = 14
  sheaves : ∀ r ∈ k.records, r.sheaves.length = 4 ∧ r.sheaveActive.length = 4

/-- The Z3 count is that of the track (R78). -/
def State.CountOk (s : State) : Prop := s.lch.z3Count = s.countZ3

/-- What a change of the supervisor keeps in order. -/
structure Msv.Keeps (m n : Msv) : Prop where
  length : m.causes.length ≤ 31 → n.causes.length ≤ 31
  names : m.NamesOk → n.NamesOk
  remote : m.RemoteOk → n.RemoteOk
  limits : m.LimitsOk → n.LimitsOk

theorem Msv.Keeps.refl (m : Msv) : m.Keeps m := ⟨id, id, id, id⟩

theorem Msv.Keeps.trans {m n o : Msv} (h1 : m.Keeps n) (h2 : n.Keeps o) : m.Keeps o :=
  ⟨h2.length ∘ h1.length, h2.names ∘ h1.names, h2.remote ∘ h1.remote, h2.limits ∘ h1.limits⟩

/-- A run of operations from `s` to `t` keeps every block's sizes and names in order, except perhaps the Z3 count. -/
structure KeptLoose (s t : State) : Prop where
  track : s.trk.entries.length ≤ 16 → t.trk.entries.length ≤ 16
  trackNames : s.trk.NamesOk → t.trk.NamesOk
  fleet : s.fleet.length = 96 → t.fleet.length = 96
  queue : s.lnc.queue.length ≤ 16 → t.lnc.queue.length ≤ 16
  trips : s.lnc.TripsOk → t.lnc.TripsOk
  calls : s.cal.table.length ≤ 5 → t.cal.table.length ≤ 5
  callNames : s.cal.table.length ≤ 5 → s.cal.NamesOk → t.cal.NamesOk
  causeList : s.msv.Keeps t.msv
  contexts : s.obc.contexts.length = 8 → t.obc.contexts.length = 8
  ring : s.obc.journal.length ≤ 256 → t.obc.journal.length ≤ 256
  stations : s.stn.SizesOk → t.stn.SizesOk
  revisions : s.sst.revisions.length = 6 → t.sst.revisions.length = 6
  locks : s.sst.locks.length = 6 → t.sst.locks.length = 6

/-- A run of operations keeps the Z3 count in order as well. -/
structure Kept (s t : State) : Prop extends KeptLoose s t where
  count : s.CountOk → t.CountOk

theorem Kept.refl (s : State) : Kept s s :=
  ⟨⟨id, id, id, id, id, id, fun _ => id, .refl _, id, id, id, id, id⟩, id⟩

theorem KeptLoose.trans {s t u : State} (h1 : KeptLoose s t) (h2 : KeptLoose t u) : KeptLoose s u where
  track h := h2.track (h1.track h)
  trackNames h := h2.trackNames (h1.trackNames h)
  fleet h := h2.fleet (h1.fleet h)
  queue h := h2.queue (h1.queue h)
  trips h := h2.trips (h1.trips h)
  calls h := h2.calls (h1.calls h)
  callNames hs h := h2.callNames (h1.calls hs) (h1.callNames hs h)
  causeList := h1.causeList.trans h2.causeList
  contexts h := h2.contexts (h1.contexts h)
  ring h := h2.ring (h1.ring h)
  stations h := h2.stations (h1.stations h)
  revisions h := h2.revisions (h1.revisions h)
  locks h := h2.locks (h1.locks h)

theorem Kept.trans {s t u : State} (h1 : Kept s t) (h2 : Kept t u) : Kept s u :=
  ⟨h1.toKeptLoose.trans h2.toKeptLoose, fun h => h2.count (h1.count h)⟩

/-! # Primitive changes -/

section
variable {s t : State}

theorem Kept.ite {u : State} {c : Prop} [Decidable c] (h1 : Kept s t) (h2 : Kept s u) :
    Kept s (if c then t else u) := by
  split <;> assumption

theorem Kept.when {c : Bool} {f : State → State} (h : Kept s t) (hf : ∀ {u}, Kept s u → Kept s (f u)) :
    Kept s (t.when c f) := .ite (hf h) h

theorem Kept.foldl {α : Type} {f : State → α → State} (h : Kept s t) (hf : ∀ u x, Kept s u → Kept s (f u x))
    (xs : List α) : Kept s (xs.foldl f t) := List.foldlRecOn xs f h fun u hu x _ => hf u x hu

/-- A fold over elements of which something is known. -/
theorem Kept.foldl_mem {α : Type} {f : State → α → State} {xs : List α} (h : Kept s t)
    (hf : ∀ u, ∀ x ∈ xs, Kept s u → Kept s (f u x)) : Kept s (xs.foldl f t) :=
  List.foldlRecOn xs f h fun u hu x hx => hf u x hx hu

/-- An order that a test answers at once, and otherwise goes on with the next one. -/
theorem Kept.answeredOr {c : Prop} [Decidable c] {r : OrderResult} {p : State × OrderResult} (h : Kept s t)
    (hp : Kept s p.1) : Kept s (if c then (t, r) else p).1 := by
  split
  · exact h
  · exact hp

/-! ## Blocks without sizes or names -/

theorem Kept.updPins (h : Kept s t) {f : Pins → Pins} : Kept s (t.updPins f) := ⟨{ h with }, h.count⟩
theorem Kept.updMem (h : Kept s t) {f : List Host.Cell → List Host.Cell} : Kept s (t.updMem f) := ⟨{ h with }, h.count⟩
theorem Kept.updDdu (h : Kept s t) {f : PerChannel Chan → PerChannel Chan} : Kept s (t.updDdu f) :=
  ⟨{ h with }, h.count⟩
theorem Kept.updRpm (h : Kept s t) {f : Rpm → Rpm} : Kept s (t.updRpm f) := ⟨{ h with }, h.count⟩
theorem Kept.updHeld (h : Kept s t) {f : Held → Held} : Kept s (t.updHeld f) := ⟨{ h with }, h.count⟩
theorem Kept.setNews (h : Kept s t) {n : News} : Kept s (t.setNews n) := ⟨{ h with }, h.count⟩
theorem Kept.updChan (h : Kept s t) {c : Channel} {f : Chan → Chan} : Kept s (t.updChan c f) := h.updDdu
theorem Kept.updLch (h : Kept s t) {f : Lch → Lch} (hf : (f t.lch).z3Count = t.lch.z3Count := by rfl) :
    Kept s (t.updLch f) := ⟨{ h with }, fun hs => hf.trans (h.count hs)⟩

theorem Kept.setSlipState (h : Kept s t) {k n : Nat} : Kept s (t.setSlipState k n) := .ite h.updMem h

theorem Kept.writeResult (h : Kept s t) {k : Nat} {r : OrderResult} : Kept s (t.writeResult k r) :=
  .ite h.updMem.updMem.setSlipState.setNews h.setNews

/-! ## Track and fleet -/

/-- A change of the track that keeps names and zones. -/
theorem Kept.updTrk (h : Kept s t) {f : Trk → Trk}
    (hentries : (f t.trk).entries.map (fun e => (e.uid, e.zone)) = t.trk.entries.map fun e => (e.uid, e.zone) := by rfl)
    (hnext : (f t.trk).nextUid = t.trk.nextUid := by rfl) : Kept s (t.updTrk f) := by
  have huids : (f t.trk).entries.map (·.uid) = t.trk.entries.map (·.uid) := by
    simpa [List.map_map, Function.comp_def] using congrArg (List.map Prod.fst) hentries
  have hlength : (f t.trk).entries.length = t.trk.entries.length := by simpa using congrArg List.length hentries
  have hzones : (f t.trk).entries.map (·.zone) = t.trk.entries.map (·.zone) := by
    simpa [List.map_map, Function.comp_def] using congrArg (List.map Prod.snd) hentries
  refine ⟨{ h with track := fun hs => ?_, trackNames := fun hs => ?_ }, fun hs => ?_⟩
  · exact hlength.trans_le (h.track hs)
  · obtain ⟨hd, hf⟩ := h.trackNames hs
    refine ⟨huids ▸ hd, fun e he => ?_⟩
    have hmem : e.uid ∈ t.trk.entries.map (·.uid) := huids ▸ List.mem_map_of_mem (f := fun e : TrackEntry => e.uid) he
    obtain ⟨x, hx, hxe⟩ := List.mem_map.mp hmem
    have := hf x hx
    rwa [hxe, ← hnext] at this
  · have hcount : ∀ l : List TrackEntry, l.countP (·.zone = 3) = (l.map (·.zone)).countP (· = 3) := fun l => by
      rw [List.countP_map]; rfl
    have := h.count hs
    simp only [State.CountOk, State.countZ3, State.updTrk_trk, State.updTrk_lch, hcount, hzones] at this ⊢
    exact this

theorem Kept.updEntry (h : Kept s t) {uid : Nat} {f : TrackEntry → TrackEntry}
    (hf : ∀ e, (f e).uid = e.uid ∧ (f e).zone = e.zone := by exact fun _ => ⟨rfl, rfl⟩) :
    Kept s (t.updEntry uid f) := by
  refine h.updTrk ?_
  rw [List.map_map]
  refine List.map_congr_left fun e _ => ?_
  simp only [Function.comp_apply]
  split
  · obtain ⟨hu, hz⟩ := hf e
    rw [hu, hz]
  · rfl

/-- A change of the track that keeps some of the entries by name, and perhaps not their zones. -/
theorem KeptLoose.updTrk (h : KeptLoose s t) {f : Trk → Trk}
    (hentries : ((f t.trk).entries.map (·.uid)).Sublist (t.trk.entries.map (·.uid)))
    (hnext : (f t.trk).nextUid = t.trk.nextUid := by rfl) : KeptLoose s (t.updTrk f) := by
  refine { h with track := fun hs => ?_, trackNames := fun hs => ?_ }
  · have := hentries.length_le
    simp only [List.length_map] at this
    exact this.trans (h.track hs)
  · obtain ⟨hd, hf⟩ := h.trackNames hs
    refine ⟨hd.sublist hentries, fun e he => ?_⟩
    obtain ⟨x, hx, hxe⟩ := List.mem_map.mp
      (hentries.subset (List.mem_map_of_mem (f := fun e : TrackEntry => e.uid) he))
    have := hf x hx
    rwa [hxe, ← hnext] at this

theorem KeptLoose.updLch (h : KeptLoose s t) {f : Lch → Lch} : KeptLoose s (t.updLch f) := { h with }

theorem Kept.updFleet (h : Kept s t) {f : List FleetRec → List FleetRec}
    (hf : (f t.fleet).length = t.fleet.length) : Kept s (t.updFleet f) :=
  ⟨{ h with fleet := fun hs => hf.trans (h.fleet hs) }, h.count⟩

theorem Kept.updFleetRec (h : Kept s t) {n : Nat} {f : FleetRec → FleetRec} : Kept s (t.updFleetRec n f) :=
  .ite h (h.updFleet (List.length_modify ..))

theorem Kept.setFleetState (h : Kept s t) {n : Nat} {st : FleetState} : Kept s (t.setFleetState n st) := h.updFleetRec

/-! ## Journal and contexts -/

/-- A change of the order board that keeps the number of contexts and does not let the journal grow. -/
theorem Kept.updObc (h : Kept s t) {f : Obc → Obc}
    (hcontexts : (f t.obc).contexts.length = t.obc.contexts.length := by rfl)
    (hjournal : (f t.obc).journal.length ≤ max 256 t.obc.journal.length := by exact Nat.le_max_right ..) :
    Kept s (t.updObc f) :=
  ⟨{ h with contexts := fun hs => hcontexts.trans (h.contexts hs)
            ring := fun hs => hjournal.trans (max_le le_rfl (h.ring hs)) }, h.count⟩

theorem Kept.appendEntry (h : Kept s t) {k : JKind} {b : Block} {i : Byte} {n : Nat} {d : List Byte} :
    Kept s (t.appendEntry k b i n d) := (h.updObc rfl (by simp)).setNews

theorem Kept.missEntry (h : Kept s t) {k : JKind} : Kept s (t.missEntry k) := h.updObc.setNews

theorem Kept.journalAt (h : Kept s t) {k : JKind} {b : Block} {i : Byte} {n : Nat} {d : List Byte} :
    Kept s (t.journalAt k b i n d) := by
  unfold State.journalAt
  dsimp only
  split
  · have hgap : Kept s (if t.obc.missedMask != 0 || t.obc.missedCount != 0 then t.appendGap else t) :=
      .ite h.appendEntry.updObc h
    exact .ite hgap.appendEntry hgap.missEntry
  · exact h.missEntry

theorem Kept.journal (h : Kept s t) {k : JKind} {b : Block} {n : Nat} {d : List Byte} : Kept s (t.journal k b n d) :=
  h.journalAt

theorem Kept.freeContext (h : Kept s t) {k : Nat} : Kept s (t.freeContext k) := h.updObc (List.length_set ..)

theorem Kept.completeOrder (h : Kept s t) {k : Nat} {r : OrderResult} : Kept s (t.completeOrder k r) := by
  unfold State.completeOrder
  split
  · exact h
  · exact (Kept.ite h.writeResult h.journal).freeContext

/-! ## Stations and setup store -/

theorem Kept.updStation (h : Kept s t) {a : Nat} {f : StationRec → StationRec}
    (hf : ∀ r, r.sheaves.length = 4 ∧ r.sheaveActive.length = 4 →
      (f r).sheaves.length = 4 ∧ (f r).sheaveActive.length = 4 := by exact fun _ h => h) :
    Kept s (t.updStation a f) := by
  refine ⟨{ h with stations := fun hs => ?_ }, h.count⟩
  obtain ⟨hn, hr⟩ := h.stations hs
  refine ⟨(List.length_modify ..).trans hn, fun r hmem => ?_⟩
  obtain ⟨i, hi, rfl⟩ := List.mem_iff_getElem.mp hmem
  simp only [State.updStation, State.updStn_stn] at hi ⊢
  rw [List.getElem_modify]
  have hi' := hr (t.stn.records[i]'(by simpa using hi)) (List.getElem_mem _)
  split
  · exact hf _ hi'
  · exact hi'

theorem Kept.updSst (h : Kept s t) {f : Sst → Sst} (hrevisions : (f t.sst).revisions.length = t.sst.revisions.length := by rfl)
    (hlocks : (f t.sst).locks.length = t.sst.locks.length := by rfl) : Kept s (t.updSst f) :=
  ⟨{ h with revisions := fun hs => hrevisions.trans (h.revisions hs)
            locks := fun hs => hlocks.trans (h.locks hs) }, h.count⟩

/-! # Transmit queue -/

/-- A change of the line controller whose queue holds frames it held before, perhaps marked anew. -/
theorem Kept.updLnc (h : Kept s t) {f : Lnc → Lnc} (hlength : (f t.lnc).queue.length ≤ t.lnc.queue.length := by exact le_rfl)
    (hframes : ∀ g ∈ (f t.lnc).queue, ∃ x ∈ t.lnc.queue, x.kind = g.kind ∧ x.dest = g.dest := by
      exact fun g hg => ⟨g, hg, rfl, rfl⟩) : Kept s (t.updLnc f) := by
  refine ⟨{ h with queue := fun hs => hlength.trans (h.queue hs), trips := fun hs g hg hkind => ?_ }, h.count⟩
  obtain ⟨x, hx, hxk, hxd⟩ := hframes g hg
  exact hxd ▸ h.trips hs x hx (hxk.trans hkind)

/-- Marking queued frames anew. -/
theorem Kept.markFrames (h : Kept s t) {p : TxFrame → Prop} [DecidablePred p] {m : TxFrame → TxFrame}
    (hm : ∀ f, (m f).kind = f.kind ∧ (m f).dest = f.dest := by exact fun _ => ⟨rfl, rfl⟩) :
    Kept s (t.updLnc fun l => { l with queue := l.queue.map fun f => if p f then m f else f }) := by
  refine h.updLnc (by simp) fun g hg => ?_
  obtain ⟨x, hx, rfl⟩ := List.mem_map.mp hg
  refine ⟨x, hx, ?_⟩
  split
  · exact ⟨(hm x).1.symm, (hm x).2.symm⟩
  · exact ⟨rfl, rfl⟩

theorem Kept.unqueue (h : Kept s t) {n : Nat} : Kept s (t.unqueue n) :=
  h.updLnc (List.length_filter_le ..) fun g hg => ⟨g, List.mem_of_mem_filter hg, rfl, rfl⟩

theorem insertFrame_perm (f : TxFrame) (q : List TxFrame) : (insertFrame f q).Perm (f :: q) := by
  induction q with
  | nil => exact .refl _
  | cons g rest ih =>
    unfold insertFrame
    split
    · exact (ih.cons g).trans (.swap f g rest)
    · exact .refl _

theorem length_insertFrame (f : TxFrame) (q : List TxFrame) : (insertFrame f q).length = q.length + 1 :=
  (insertFrame_perm f q).length_eq

theorem mem_insertFrame {f g : TxFrame} {q : List TxFrame} : g ∈ insertFrame f q ↔ g = f ∨ g ∈ q := by
  rw [(insertFrame_perm f q).mem_iff, List.mem_cons]

/-- A frame is queued where the queue had room before the run. -/
theorem Kept.enqueue (h : Kept s t) {kind : FrameKind} {dest : Nat} {p : List Byte} {b : Block} {c : Option Nat}
    (hroom : s.lnc.queue.length ≤ 16 → t.lnc.queue.length < 16) (htrip : kind = .trip → dest = 15) :
    Kept s (t.enqueue kind dest p b c) := by
  refine ⟨{ h with queue := fun hs => ?_, trips := fun hs g hg hkind => ?_ }, h.count⟩
  · simp only [State.enqueue, State.updLnc_lnc, length_insertFrame]
    exact hroom hs
  · simp only [State.enqueue, State.updLnc_lnc, mem_insertFrame] at hg
    rcases hg with rfl | hg
    · exact htrip hkind
    · exact h.trips hs g hg hkind

theorem youngest_eq_some {p : TxFrame → Bool} {q : List TxFrame} {f : TxFrame} (h : youngest p q = some f) :
    f ∈ q ∧ p f = true := by
  have hinv : ∀ g, youngest p q = some g → g ∈ q ∧ p g = true := by
    unfold youngest
    refine List.foldlRecOn (motive := fun b => ∀ g, b = some g → g ∈ q ∧ p g = true) q _ (fun g hg => by cases hg) fun best hbest x hx g hg => ?_
    split at hg
    · next hp =>
      split at hg
      · cases hg; exact ⟨hx, hp⟩
      · split at hg
        · cases hg; exact ⟨hx, hp⟩
        · exact hbest g hg
    · exact hbest g hg
  exact hinv f h

theorem ordinaryPlace_room {q : List TxFrame} (h : ordinaryPlace q = true) : q.length < 16 := by
  simp only [ordinaryPlace, Bool.and_eq_true, decide_eq_true_eq] at h
  exact h.2

/-- A change of the call unit that leaves the table and the next id as they are. -/
theorem Kept.updCal (h : Kept s t) {f : Cal → Cal} (htable : (f t.cal).table = t.cal.table := by rfl)
    (hnext : (f t.cal).nextId = t.cal.nextId := by rfl) : Kept s (t.updCal f) := by
  refine ⟨{ h with calls := fun hs => ?_, callNames := fun hs hn => ?_ }, h.count⟩
  · rw [State.updCal_cal, htable]
    exact h.calls hs
  · obtain ⟨hd, hx, hr, hw⟩ := h.callNames hs hn
    constructor <;> rw [State.updCal_cal, htable]
    exacts [hd, hnext ▸ hx, hr, hw]

theorem Kept.pairUndelivered (h : Kept s t) {k : FrameKind} : Kept s (t.pairUndelivered k) := by
  unfold State.pairUndelivered
  split
  · exact .ite h.updCal h
  · exact .ite h.updCal h
  · exact .ite h.updCal h
  · exact h

theorem Kept.queueFull (h : Kept s t) {k : FrameKind} {d : Nat} {c : Option Nat} : Kept s (t.queueFull k d c) := by
  unfold State.queueFull
  split
  · split
    · exact h
    · exact h.completeOrder
  · exact h.pairUndelivered.journal

/-- What a frame without a place can change. -/
theorem queueFull_lnc (s : State) (k : FrameKind) (d : Nat) (c : Option Nat) : (s.queueFull k d c).lnc = s.lnc := by
  unfold State.queueFull
  split
  · split
    · rfl
    · simp
  · simp [(pairUndelivered_changes s k).lnc_eq]

/-- A queued frame gives its place to another one. -/
theorem Kept.swapFrame (h : Kept s t) {f : TxFrame} (hf : f ∈ t.lnc.queue) {kind : FrameKind} {dest : Nat} {p : List Byte}
    {b : Block} {c : Option Nat} (htrip : kind = .trip → dest = 15) :
    Kept s (((t.unqueue f.fid).queueFull f.kind f.dest f.context).enqueue kind dest p b c) := by
  refine h.unqueue.queueFull.enqueue (fun hs => ?_) htrip
  rw [queueFull_lnc]
  have hless : (t.lnc.queue.filter (·.fid ≠ f.fid)).length < t.lnc.queue.length :=
    List.length_filter_lt_length_iff_exists.mpr ⟨f, hf, by simp⟩
  exact hless.trans_le (h.queue hs)

theorem Kept.askFrame (h : Kept s t) {kind : FrameKind} {dest : Nat} {p : List Byte} {b : Block} {c : Option Nat}
    (hkind : kind ≠ .trip := by decide) : Kept s (t.askFrame kind dest p b c) := by
  unfold State.askFrame
  split
  · next hplace => exact h.enqueue (fun _ => ordinaryPlace_room hplace) fun ht => absurd ht hkind
  · split
    · next f hf => exact h.swapFrame (youngest_eq_some hf).1 fun ht => absurd ht hkind
    · exact h.queueFull

theorem Kept.askTrip (h : Kept s t) {code : CauseCode} : Kept s (t.askTrip code) := by
  unfold State.askTrip
  dsimp only
  split
  · exact h
  split
  · next hroom => exact h.enqueue (fun _ => hroom) fun _ => rfl
  · split
    · next f hf => exact h.swapFrame (youngest_eq_some hf).1 fun _ => rfl
    · exact h.queueFull

theorem Kept.askPeriodic (h : Kept s t) {kind : FrameKind} (hkind : kind ≠ .trip := by decide) :
    Kept s (t.askPeriodic kind) := .ite h.markFrames (h.askFrame hkind)

/-! # Call unit -/

/-! ## The table -/

/-- A change of records that keeps ids, and under which a record that waits goes on waiting. -/
theorem Kept.mapCalls (h : Kept s t) {g : CallRec → CallRec} (hid : ∀ r, (g r).id = r.id)
    (hwait : s.cal.table.length ≤ 5 → s.cal.NamesOk → ∀ r ∈ t.cal.table.tail, (g r).state = .waiting) :
    Kept s (t.updCal fun c => { c with table := c.table.map g }) := by
  refine ⟨{ h with calls := fun hs => ?_, callNames := fun hs hn => ?_ }, h.count⟩
  · simpa using h.calls hs
  · obtain ⟨hd, ⟨hx1, hx2, hx3⟩, hr, -⟩ := h.callNames hs hn
    refine ⟨?_, ⟨hx1, hx2, ?_⟩, ?_, ?_⟩
    · have hids : (t.cal.table.map g).map (·.id) = t.cal.table.map (·.id) := by
        rw [List.map_map]; exact List.map_congr_left fun r _ => hid r
      simpa only [State.updCal_cal, hids] using hd
    · rintro _ hm
      obtain ⟨r, hr', rfl⟩ := List.mem_map.mp hm
      rw [hid]; exact hx3 r hr'
    · rintro _ hm
      obtain ⟨r, hr', rfl⟩ := List.mem_map.mp hm
      rw [hid]; exact hr r hr'
    · intro r hm
      simp only [State.updCal_cal, ← List.map_tail, List.mem_map] at hm
      obtain ⟨x, hx, rfl⟩ := hm
      exact hwait hs hn x hx

theorem Kept.markParties (h : Kept s t) : Kept s t.markParties := h.updHeld

theorem Kept.updCall (h : Kept s t) {id : Nat} {f : CallRec → CallRec}
    (hf : ∀ r, (f r).id = r.id ∧ (f r).state = r.state := by exact fun _ => ⟨rfl, rfl⟩) :
    Kept s (t.updCall id f) := by
  refine Kept.markParties (h.mapCalls (fun r => ?_) fun hs hn r hr => ?_)
  · split
    · exact (hf r).1
    · rfl
  · have := (h.callNames hs hn).waiting r hr
    split
    · rw [(hf r).2, this]
    · exact this

/-- In a table in order, a record that does not wait is the first one, so changing it leaves the others alone. -/
theorem Kept.updHolding (h : Kept s t) {id : Nat} {r : CallRec} (hfind : t.cal.find id = some r)
    (hstate : r.state ≠ .waiting) {f : CallRec → CallRec} (hf : ∀ r, (f r).id = r.id := by exact fun _ => rfl) :
    Kept s (t.updCall id f) := by
  refine Kept.markParties (h.mapCalls (fun r => ?_) fun hs hn x hx => ?_)
  · split
    · exact hf r
    · rfl
  · obtain ⟨hd, -, -, hw⟩ := h.callNames hs hn
    rw [if_neg]
    · exact hw x hx
    · intro hid
      have hrid : r.id = id := by simpa using List.find?_some hfind
      have hxr : x = r := List.inj_on_of_nodup_map hd (List.mem_of_mem_tail hx) (List.mem_of_find?_eq_some hfind)
        (hid.trans hrid.symm)
      exact hstate (hxr ▸ hw x hx)

/-- A record leaves the table. -/
theorem Kept.removeCall (h : Kept s t) {id : Nat} :
    Kept s (t.updCal fun c => { c with table := c.table.filter (·.id ≠ id) }) := by
  have hsub : (t.cal.table.filter (·.id ≠ id)).Sublist t.cal.table := List.filter_sublist
  refine ⟨{ h with calls := fun hs => hsub.length_le.trans (h.calls hs), callNames := fun hs hn => ?_ }, h.count⟩
  obtain ⟨hd, ⟨hx1, hx2, hx3⟩, hr, hw⟩ := h.callNames hs hn
  refine ⟨hd.sublist (hsub.map _), ⟨hx1, hx2, fun r hm => hx3 r (hsub.subset hm)⟩, fun r hm => hr r (hsub.subset hm),
    fun r hm => ?_⟩
  have htail : (t.cal.table.filter (·.id ≠ id)).tail.Sublist t.cal.table.tail := by
    cases t.cal.table with
    | nil => exact .refl _
    | cons x xs =>
      rw [List.filter_cons]
      split
      · exact List.filter_sublist
      · exact (List.tail_sublist _).trans List.filter_sublist
  exact hw r (htail.subset hm)

/-- A waiting record goes to the front of a table without a holding call. -/
theorem Kept.frontCall (h : Kept s t) {r g : CallRec} (hr : r ∈ t.cal.table) (hhold : t.cal.holding = none)
    (hid : g.id = r.id) :
    Kept s (t.updCal fun c => { c with table := g :: c.table.filter (·.id ≠ r.id) }) := by
  have hsub : (t.cal.table.filter (·.id ≠ r.id)).Sublist t.cal.table := List.filter_sublist
  refine ⟨{ h with calls := fun hs => ?_, callNames := fun hs hn => ?_ }, h.count⟩
  · have hless : (t.cal.table.filter (·.id ≠ r.id)).length < t.cal.table.length :=
      List.length_filter_lt_length_iff_exists.mpr ⟨r, hr, by simp⟩
    have := h.calls hs
    simp only [State.updCal_cal, List.length_cons]
    omega
  · obtain ⟨hd, ⟨hx1, hx2, hx3⟩, hrange, hw⟩ := h.callNames hs hn
    refine ⟨?_, ⟨hx1, hx2, ?_⟩, ?_, ?_⟩
    · simp only [State.updCal_cal, List.map_cons, List.nodup_cons, hid]
      refine ⟨fun hm => ?_, hd.sublist (hsub.map _)⟩
      obtain ⟨x, hx, hxid⟩ := List.mem_map.mp hm
      simp [hxid] at hx
    · intro x hx
      rcases List.mem_cons.mp hx with rfl | hx
      · exact hid ▸ hx3 r hr
      · exact hx3 x (hsub.subset hx)
    · intro x hx
      rcases List.mem_cons.mp hx with rfl | hx
      · exact hid ▸ hrange r hr
      · exact hrange x (hsub.subset hx)
    · intro x hx
      have hx' : x ∈ t.cal.table := hsub.subset hx
      unfold Cal.holding at hhold
      split at hhold
      · next hnil => simp [hnil] at hx'
      · next y ys hcons =>
        split at hhold
        · next hy =>
          rw [hcons] at hx'
          rcases List.mem_cons.mp hx' with rfl | hx'
          · exact hy
          · exact hw x (by rw [hcons]; exact hx')
        · cases hhold

/-! ## A new record -/

theorem insertCall_perm (r : CallRec) (l : List CallRec) : (insertCall r l).Perm (r :: l) := by
  induction l with
  | nil => exact .refl _
  | cons c rest ih =>
    unfold insertCall
    split
    · exact .refl _
    · exact (ih.cons c).trans (.swap r c rest)

theorem mem_insertCall {r x : CallRec} {l : List CallRec} : x ∈ insertCall r l ↔ x = r ∨ x ∈ l := by
  rw [(insertCall_perm r l).mem_iff, List.mem_cons]

/-- A new record that waits does not come before a call that holds the pair. -/
theorem insertCall_tail {r : CallRec} {l : List CallRec} (hr : r.state = .waiting)
    (hl : ∀ x ∈ l.tail, x.state = .waiting) : ∀ x ∈ (insertCall r l).tail, x.state = .waiting := by
  cases l with
  | nil => simp [insertCall]
  | cons c rest =>
    unfold insertCall
    split
    · next h =>
      intro x hx
      rcases List.mem_cons.mp hx with rfl | hx
      · exact h.2.1
      · exact hl x hx
    · intro x hx
      rcases mem_insertCall.mp hx with rfl | hx
      · exact hr
      · exact hl x hx

/-- The id that follows, from 255 to 1 (R126). -/
def nextCallId (n : Nat) : Nat := if n = 255 then 1 else n + 1

theorem advanceId_succ (table : List CallRec) (fuel n : Nat) :
    advanceId table (fuel + 1) n =
      if table.any (·.id = nextCallId n) then advanceId table fuel (nextCallId n) else nextCallId n := rfl

theorem nextCallId_range {n : Nat} (hn : 1 ≤ n ∧ n ≤ 255) : 1 ≤ nextCallId n ∧ nextCallId n ≤ 255 := by
  unfold nextCallId; split <;> omega

theorem advanceId_range (table : List CallRec) (fuel n : Nat) (hn : 1 ≤ n ∧ n ≤ 255) :
    1 ≤ advanceId table fuel n ∧ advanceId table fuel n ≤ 255 := by
  induction fuel generalizing n with
  | zero => exact hn
  | succ fuel ih =>
    rw [advanceId_succ]
    split
    · exact ih _ (nextCallId_range hn)
    · exact nextCallId_range hn

/-- The id found is free, or every one of the ids tried is in use. -/
theorem advanceId_free (table : List CallRec) (fuel n : Nat) (hfuel : 0 < fuel) :
    table.any (·.id = advanceId table fuel n) = false ∨
      ∀ k, 1 ≤ k → k ≤ fuel → table.any (·.id = nextCallId^[k] n) = true := by
  induction fuel generalizing n with
  | zero => omega
  | succ fuel ih =>
    rw [advanceId_succ]
    split
    · next hused =>
      by_cases hzero : fuel = 0
      · refine .inr fun k h1 h2 => ?_
        obtain rfl : k = 1 := by omega
        exact hused
      · refine (ih _ (by omega)).imp_right fun hall k h1 h2 => ?_
        obtain ⟨k, rfl⟩ : ∃ j, k = j + 1 := ⟨k - 1, by omega⟩
        rw [Function.iterate_succ_apply]
        by_cases hk : k = 0
        · subst hk; exact hused
        · exact hall k (by omega) (by omega)
    · next hfree => exact .inl (by simpa using hfree)

theorem iterate_nextCallId (n : Nat) (hn : 1 ≤ n ∧ n ≤ 255) (k : Nat) (hk : k ≤ 254) :
    nextCallId^[k] n = if n + k ≤ 255 then n + k else n + k - 255 := by
  induction k with
  | zero => simp [hn.2]
  | succ k ih =>
    rw [Function.iterate_succ_apply', ih (by omega)]
    unfold nextCallId
    split_ifs <;> omega

/-- Among more ids than there are records one is free (R126). -/
theorem advanceId_fresh {r : CallRec} {table : List CallRec} (hlength : table.length ≤ 5)
    (hrange : 1 ≤ r.id ∧ r.id ≤ 255) :
    ∀ x ∈ r :: table, x.id ≠ advanceId (r :: table) (table.length + 1) r.id := by
  rcases advanceId_free (r :: table) (table.length + 1) r.id (by omega) with hfree | hused
  · intro x hx heq
    simp only [List.any_eq_false, decide_eq_true_eq] at hfree
    exact hfree x hx heq
  · exfalso
    have hmem : ∀ k, k ≤ table.length + 1 → nextCallId^[k] r.id ∈ (r :: table).map (·.id) := by
      intro k hk
      by_cases hzero : k = 0
      · subst hzero; simp
      · obtain ⟨x, hx, hxid⟩ := List.any_eq_true.mp (hused k (by omega) hk)
        exact List.mem_map.mpr ⟨x, hx, by simpa using hxid⟩
    have hnodup : ((List.range (table.length + 2)).map fun k => nextCallId^[k] r.id).Nodup := by
      refine List.Nodup.map_on (fun i hi j hj heq => ?_) List.nodup_range
      simp only [List.mem_range] at hi hj
      rw [iterate_nextCallId _ hrange i (by omega), iterate_nextCallId _ hrange j (by omega)] at heq
      split_ifs at heq <;> omega
    have hsub : ((List.range (table.length + 2)).map fun k => nextCallId^[k] r.id) ⊆ (r :: table).map (·.id) := by
      intro x hx
      obtain ⟨k, hk, rfl⟩ := List.mem_map.mp hx
      exact hmem k (by have := List.mem_range.mp hk; omega)
    have := (hnodup.subperm hsub).length_le
    simp only [List.length_map, List.length_range, List.length_cons] at this
    omega

/-- A new record takes the next id where the table has room. -/
theorem Kept.addCall (h : Kept s t) {r : CallRec} (hid : r.id = t.cal.nextId) (hstate : r.state = .waiting)
    (hroom : s.cal.table.length ≤ 5 → t.cal.table.length < 5) :
    Kept s (t.updCal fun c =>
      { c with table := insertCall r c.table, nextId := advanceId (r :: c.table) (c.table.length + 1) c.nextId }) := by
  refine ⟨{ h with calls := fun hs => ?_, callNames := fun hs hn => ?_ }, h.count⟩
  · simp only [State.updCal_cal, (insertCall_perm _ _).length_eq, List.length_cons]
    exact hroom hs
  · obtain ⟨hd, ⟨hx1, hx2, hx3⟩, hrange, hw⟩ := h.callNames hs hn
    have hrr : 1 ≤ r.id ∧ r.id ≤ 255 := hid ▸ ⟨hx1, hx2⟩
    have hmem : ∀ x, x ∈ insertCall r t.cal.table ↔ x ∈ r :: t.cal.table := fun x => (insertCall_perm _ _).mem_iff
    refine ⟨?_, ⟨?_, ?_, ?_⟩, ?_, insertCall_tail hstate hw⟩
    · simp only [State.updCal_cal]
      rw [((insertCall_perm r t.cal.table).map (·.id)).nodup_iff, List.map_cons, List.nodup_cons]
      refine ⟨fun hm => ?_, hd⟩
      obtain ⟨x, hx, hxid⟩ := List.mem_map.mp hm
      exact hx3 x hx (hxid.trans hid)
    · exact (advanceId_range _ _ _ ⟨hx1, hx2⟩).1
    · exact (advanceId_range _ _ _ ⟨hx1, hx2⟩).2
    · intro x hx
      have := advanceId_fresh (h.calls hs) hrr x ((hmem x).mp hx)
      rwa [hid] at this
    · intro x hx
      rcases List.mem_cons.mp ((hmem x).mp hx) with rfl | hx
      · exact hrr
      · exact hrange x hx

end

end Sys2Proof.Machine
end

section
/-! PROOF. Calls and causes keep the tables' sizes and names in order (R100, R104, R116, R126, R142 to R147, R160). -/

namespace Sys2Proof.Machine

-- One lemma at a time, as in Laws/State.lean.
set_option Elab.async false

open Sys2Proof

/-! # What pair frames leave of the call unit -/

section
variable (s : State)

/-- Asking for a frame changes the call unit by the re-announce mark at most (R101, R136). -/
theorem queueFull_cal (k : FrameKind) (d : Nat) (c : Option Nat) :
    ∃ x, (s.queueFull k d c).cal = { s.cal with reannounce := x } := by
  have hpair : ∃ x, (s.pairUndelivered k).cal = { s.cal with reannounce := x } := by
    unfold State.pairUndelivered
    split
    case h_4 => exact ⟨_, rfl⟩
    all_goals
      split
      · exact ⟨_, rfl⟩
      · exact ⟨_, rfl⟩
  unfold State.queueFull
  split
  · split
    · exact ⟨_, rfl⟩
    · exact ⟨_, by rw [completeOrder_cal]⟩
  · simpa using hpair

theorem enqueue_cal (k : FrameKind) (d : Nat) (p : List Byte) (b : Block) (c : Option Nat) :
    (s.enqueue k d p b c).cal = s.cal := rfl

theorem unqueue_cal (n : Nat) : (s.unqueue n).cal = s.cal := rfl

theorem askFrame_cal (k : FrameKind) (d : Nat) (p : List Byte) (b : Block) (c : Option Nat) :
    ∃ x, (s.askFrame k d p b c).cal = { s.cal with reannounce := x } := by
  unfold State.askFrame
  split
  · exact ⟨_, enqueue_cal ..⟩
  · split
    · next f hf =>
      obtain ⟨x, hx⟩ := queueFull_cal (s.unqueue f.fid) f.kind f.dest f.context
      exact ⟨x, by rw [enqueue_cal, hx, unqueue_cal]⟩
    · exact queueFull_cal ..

theorem pairFrame_cal (k : FrameKind) (d : Nat) (p : List Byte) :
    ∃ x, (s.pairFrame k d p).cal = { s.cal with reannounce := x } := by
  unfold State.pairFrame
  split
  · exact ⟨_, rfl⟩
  · exact askFrame_cal ..

@[simp] theorem pairFrame_table (k : FrameKind) (d : Nat) (p : List Byte) :
    (s.pairFrame k d p).cal.table = s.cal.table := by
  obtain ⟨x, hx⟩ := pairFrame_cal s k d p
  rw [hx]

end

/-! # Calls -/

section
variable {c : Cal}

theorem mem_of_holding {r : CallRec} (h : c.holding = some r) : r ∈ c.table := by
  unfold Cal.holding at h
  split at h
  · cases h
  · next y ys hcons =>
    split at h
    · cases h
    · cases h
      exact hcons ▸ List.mem_cons_self

theorem mem_of_firstWaiting {r : CallRec} (h : c.firstWaiting = some r) : r ∈ c.table := List.mem_of_find?_eq_some h

theorem mem_of_find {id : Nat} {r : CallRec} (h : c.find id = some r) : r ∈ c.table := List.mem_of_find?_eq_some h

theorem id_of_find {id : Nat} {r : CallRec} (h : c.find id = some r) : r.id = id := by simpa using List.find?_some h

/-- A call that gives its place up to an URGENT request holds the pair or waits in the table. -/
theorem roomCase_room {urgent : Bool} (h : c.roomCase urgent = .room) : c.table.length < 5 := by
  unfold Cal.roomCase at h
  dsimp only at h
  split at h
  · cases h
  split at h
  · assumption
  split at h
  · split at h <;> cases h
  · cases h

theorem roomCase_preempt {urgent : Bool} {r : CallRec} (h : c.roomCase urgent = .preempt r) :
    c.holding = some r ∧ r.urgent = false ∧ urgent = true := by
  unfold Cal.roomCase at h
  dsimp only at h
  split at h
  · next r' hhold =>
    cases h
    split at hhold
    · next x hx =>
      split at hhold
      · cases hhold
      · next hu => cases hhold; exact ⟨hx, by simpa using hu, rfl⟩
    · cases hhold
  split at h
  · cases h
  split at h
  · split at h <;> cases h
  · cases h

theorem roomCase_displace {urgent : Bool} {r : CallRec} (h : c.roomCase urgent = .displace r) :
    c.youngestNormal = some r ∧ urgent = true ∧ 5 ≤ c.table.length := by
  unfold Cal.roomCase at h
  dsimp only at h
  split at h
  · cases h
  split at h
  · cases h
  next hlen =>
  split at h
  · next hu =>
    split at h
    · next x hx => cases h; exact ⟨hx, hu, by omega⟩
    · cases h
  · cases h

theorem mem_of_youngestNormal {r : CallRec} (h : c.youngestNormal = some r) : r ∈ c.table :=
  List.mem_reverse.mp (List.mem_of_find?_eq_some h)

theorem find_isSome_of_mem {r : CallRec} (h : r ∈ c.table) : ∃ x, c.find r.id = some x := by
  refine Option.isSome_iff_exists.mp (List.find?_isSome.mpr ⟨r, h, by simp⟩)

theorem length_filter_lt_of_mem {r : CallRec} {l : List CallRec} (h : r ∈ l) :
    (l.filter (·.id ≠ r.id)).length < l.length :=
  List.length_filter_lt_length_iff_exists.mpr ⟨r, h, by simp⟩

end

section
variable (s : State)

@[simp] theorem updCall_table_length (id : Nat) (f : CallRec → CallRec) :
    (s.updCall id f).cal.table.length = s.cal.table.length := by
  simp [State.updCall, State.markParties]

@[simp] theorem refreshValley_table_length : s.refreshValley.cal.table.length = s.cal.table.length := by
  unfold State.refreshValley State.noteRing
  split
  · rfl
  · split
    · simp
    · rfl

theorem grantCall_table_length {r : CallRec} (hr : r ∈ s.cal.table) :
    (s.grantCall r).cal.table.length ≤ s.cal.table.length := by
  unfold State.grantCall
  dsimp only
  rw [refreshValley_table_length]
  have hless := length_filter_lt_of_mem hr
  split
  · simp only [pairFrame_table, State.updCal_cal, List.length_cons]
    exact hless
  · simp only [completeOrder_cal, pairFrame_table, State.updCal_cal, List.length_cons]
    exact hless

@[simp] theorem dropCall_table (r : CallRec) (e : EndReason) (b : Bool) :
    (s.dropCall r e b).cal.table = s.cal.table.filter (·.id ≠ r.id) := by
  have hdone : ∀ t : State, t.cal.table = s.cal.table.filter (·.id ≠ r.id) → ∀ c d : Prop, [Decidable c] → [Decidable d] →
      ∀ k1 d1 p1 k2 d2 p2, (if c then t.pairFrame k1 d1 p1 else if d then t.pairFrame k2 d2 p2 else t).cal.table =
        s.cal.table.filter (·.id ≠ r.id) := by
    intro t ht
    intros
    rw [← ht]
    split_ifs <;> simp
  unfold State.dropCall
  simp only [journal_cal]
  refine hdone _ ?_ _ _ _ _ _ _ _ _
  split
  · rfl
  · rw [completeOrder_cal]
    rfl

theorem endCall_table_length {id : Nat} {r : CallRec} (h : s.cal.find id = some r) (e : EndReason) (b : Bool) :
    (s.endCall id e b).cal.table.length < s.cal.table.length := by
  unfold State.endCall
  rw [h]
  dsimp only
  rw [refreshValley_table_length]
  have hless := length_filter_lt_of_mem (mem_of_find h)
  split
  · rwa [dropCall_table]
  split
  · next w hw =>
    refine (grantCall_table_length _ (mem_of_firstWaiting hw)).trans_lt ?_
    rwa [dropCall_table]
  split
  · rwa [pairFrame_table, dropCall_table]
  · rwa [dropCall_table]

end

section
variable {s t : State}

theorem Kept.pairFrame (h : Kept s t) {k : FrameKind} {d : Nat} {p : List Byte} (hkind : k ≠ .trip := by decide) :
    Kept s (t.pairFrame k d p) := .ite h (h.askFrame hkind)

theorem Kept.announcePair (h : Kept s t) : Kept s t.announcePair := by
  unfold State.announcePair
  split
  · exact h.pairFrame
  · exact h.pairFrame

theorem Kept.noteRing (h : Kept s t) : Kept s t.noteRing := by
  unfold State.noteRing
  split
  · exact h
  · exact .ite h.updCall.setNews.journal h

theorem Kept.refreshValley (h : Kept s t) : Kept s t.refreshValley := h.updCal.noteRing

theorem Kept.grantCall (h : Kept s t) {r : CallRec} (hr : r ∈ t.cal.table) (hhold : t.cal.holding = none) :
    Kept s (t.grantCall r) := by
  unfold State.grantCall
  extract_lets ring g s1 s2 s3
  have h2 : Kept s s2 := (h.frontCall (g := g) hr hhold rfl).pairFrame
  refine Kept.refreshValley ?_
  unfold s3
  split
  · exact h2
  · exact h2.completeOrder

theorem Kept.grantIfFree (h : Kept s t) : Kept s t.grantIfFree := by
  unfold State.grantIfFree
  split
  · exact h
  · next hhold =>
    split
    · exact h
    · next r hr => exact h.grantCall (mem_of_firstWaiting hr) hhold

theorem Kept.dropCall (h : Kept s t) {r : CallRec} {e : EndReason} {b : Bool} : Kept s (t.dropCall r e b) := by
  unfold State.dropCall
  extract_lets s1 s2 s3
  have h2 : Kept s s2 := by
    unfold s2
    split
    · exact h.removeCall
    · exact h.removeCall.completeOrder
  exact (Kept.ite h2.pairFrame (.ite h2.pairFrame h2)).journal

theorem Kept.endCall (h : Kept s t) {id : Nat} {e : EndReason} {b : Bool} : Kept s (t.endCall id e b) := by
  unfold State.endCall
  split
  · exact h
  · dsimp only
    refine Kept.refreshValley ?_
    split
    · exact h.dropCall
    · next hhold =>
      split
      · next w hw => exact h.dropCall.grantCall (mem_of_firstWaiting hw) hhold
      · exact .ite h.dropCall.pairFrame h.dropCall

theorem Kept.createCall (h : Kept s t) (hroom : s.cal.table.length ≤ 5 → t.cal.table.length < 5) {a b : Nat}
    {u : Bool} {o : CallOrigin} {c : Option Nat} : Kept s (t.createCall a b u o c) := by
  unfold State.createCall
  exact (h.addCall rfl rfl hroom).markParties.grantIfFree.refreshValley

theorem Kept.placeCall (h : Kept s t) {a b : Nat} {u : Bool} {o : CallOrigin} {c : Option Nat} :
    Kept s (t.placeCall a b u o c) := by
  unfold State.placeCall
  split
  · next r hr =>
    refine h.dropCall.refreshValley.createCall fun hs => ?_
    rw [refreshValley_table_length, dropCall_table]
    exact (length_filter_lt_of_mem (mem_of_holding (roomCase_preempt hr).1)).trans_le (h.calls hs)
  · next hr => exact h.createCall fun _ => roomCase_room hr
  · next r hr =>
    obtain ⟨x, hx⟩ := find_isSome_of_mem (mem_of_youngestNormal (roomCase_displace hr).1)
    exact h.endCall.createCall fun hs => (endCall_table_length t hx ..).trans_le (h.calls hs)
  · exact h

theorem Kept.denyRequest (h : Kept s t) {a b : Nat} {u : Bool} {e : EndReason} : Kept s (t.denyRequest a b u e) :=
  h.pairFrame.journal

theorem Kept.pairRequest (h : Kept s t) {a b : Nat} {u : Bool} : Kept s (t.pairRequest a b u) := by
  unfold State.pairRequest
  split
  · exact h
  · exact h.denyRequest
  · exact h.denyRequest
  · exact h.denyRequest
  · exact h
  · split
    · exact h.denyRequest
    · exact h.placeCall

theorem Kept.tripCall (h : Kept s t) {code : CauseCode} {index : Nat} : Kept s (t.tripCall code index) := by
  unfold State.tripCall
  split
  · exact h
  · exact .ite h.placeCall h

theorem Kept.linkLostOne (h : Kept s t) {a id : Nat} : Kept s (t.linkLostOne a id) := by
  unfold State.linkLostOne
  split
  · exact h
  · exact .ite h.endCall (.ite h.endCall (.ite h.updCall.refreshValley h))

theorem Kept.stationUnavailable (h : Kept s t) {a : Nat} : Kept s (t.stationUnavailable a) :=
  h.foldl (fun _ _ hu => hu.linkLostOne) _

/-- Only a call that holds the pair changes its state by a hook, so the calls behind it go on waiting (R131). -/
theorem Kept.hookFrame (h : Kept s t) {a id : Nat} {off : Bool} : Kept s (t.hookFrame a id off) := by
  unfold State.hookFrame
  split
  · exact h
  next r hfind =>
  split
  · exact .ite h.endCall h
  · exact h
  · next hstate => exact .ite (h.updHolding hfind (by simp [hstate])).refreshValley h
  · exact .ite h.endCall h
  · exact .ite h.updCall.refreshValley h
  · exact .ite (.ite h.endCall h) (.ite h.endCall (.ite h.updCall.refreshValley h))

theorem Kept.answerCall (h : Kept s t) {id : Nat} : Kept s (t.answerCall id).1 := by
  unfold State.answerCall
  split
  · exact h
  next r hfind =>
  split
  · exact h
  next hstate =>
  refine .answeredOr h (.answeredOr h ?_)
  exact (h.updHolding hfind hstate (fun r => by split <;> rfl)).refreshValley.pairFrame

theorem Kept.hangUpCall (h : Kept s t) {id : Nat} : Kept s (t.hangUpCall id).1 := by
  unfold State.hangUpCall
  split
  · exact h
  · exact .answeredOr h (.answeredOr h.endCall (.answeredOr h.updCall.refreshValley.pairFrame h.endCall))

/-! # Gate -/

theorem Kept.gateDecide (h : Kept s t) : Kept s t.gateDecide := by
  unfold State.gateDecide
  split
  · split
    · exact h
    · exact .ite (.ite h.updLch h) (.ite (.ite h h.journal.updLch) (.ite h.updLch.journal h))
  · exact h

theorem Kept.proofTimerFollow (h : Kept s t) : Kept s t.proofTimerFollow := h.updLch

theorem Kept.gateEvent (h : Kept s t) : Kept s t.gateEvent := h.gateDecide.proofTimerFollow

/-! # Causes -/

theorem Kept.updMsv (h : Kept s t) {f : Msv → Msv} (hf : t.msv.Keeps (f t.msv)) : Kept s (t.updMsv f) :=
  ⟨{ h with causeList := h.causeList.trans hf }, h.count⟩

end

theorem speedActive_congr {m n : Msv} (ho : n.overspeed = m.overspeed) (hd : n.decelFail = m.decelFail)
    (hr : n.ropeCreep = m.ropeCreep) (code : CauseCode) : n.speedActive code = m.speedActive code := by
  unfold Msv.speedActive
  split
  · exact hr
  · exact hd
  · exact ho
  · rfl

/-- What the supervisor's reaction to its list leaves unchanged is all that is kept in order. -/
theorem Msv.SameList.keeps {m n : Msv} (h : m.SameList n) : m.Keeps n where
  length hl := h.causes ▸ hl
  names hn := ⟨h.causes ▸ hn.identity, fun c hc hsub hspeed => by
    rw [speedActive_congr h.overspeed h.decelFail h.ropeCreep]
    exact hn.speed c (h.causes ▸ hc) hsub hspeed⟩
  remote hr := fun c hc => hr c (h.causes ▸ hc)
  limits hl := fun p hp => hl p (h.limits ▸ hp)

/-- A change of the cause list: each entry afterwards is an entry of before, perhaps in another sub-state, and an active
one was active before or is no speed cause. -/
theorem Msv.Keeps.ofCauses {m : Msv} {l : List Cause} {a : Option Aggregate} (hlength : l.length ≤ max 31 m.causes.length)
    (hids : (m.causes.map fun c => (c.code, c.index)).Nodup → (l.map fun c => (c.code, c.index)).Nodup)
    (hmem : ∀ c ∈ l, ∃ x ∈ m.causes, c.code = x.code ∧ c.index = x.index ∧ c.category = x.category ∧
      (c.sub ≠ .clearedUnacked → x.sub ≠ .clearedUnacked)) :
    m.Keeps { m with causes := l, aggregate := a } where
  length hl := by simp only; omega
  names hn := ⟨hids hn.identity, fun c hc hsub hspeed => by
    obtain ⟨x, hx, hcode, hindex, -, hxsub⟩ := hmem c hc
    have := hn.speed x hx (hxsub hsub) (hcode ▸ hspeed)
    rwa [← hcode, ← hindex] at this⟩
  remote hr := fun c hc hcode => by
    obtain ⟨x, hx, hxcode, hindex, hcategory, -⟩ := hmem c hc
    rw [hcategory, hindex]
    exact hr x hx (hxcode ▸ hcode)
  limits hl := hl

end Sys2Proof.Machine
end

section
/-! PROOF. The cause list keeps its size, its identities and the marks of the speed causes (R116, R142 to R147, R160). -/

namespace Sys2Proof.Machine

-- One lemma at a time, as in Laws/State.lean.
set_option Elab.async false

open Sys2Proof

/-! # The list after a raise and after an end -/

section
variable {l : List Cause} {c : Cause} {code : CauseCode} {index : Nat}

theorem mem_raisedList {x : Cause} (h : x ∈ raisedList l c) : x ∈ l ∨
    (x.code = c.code ∧ x.index = c.index ∧ x.sub = c.sub ∧
      (x.category = c.category ∨ ∃ y ∈ l, y.code = c.code ∧ y.index = c.index ∧ x.category = y.category)) := by
  unfold raisedList at h
  split at h
  · next y hfind =>
    obtain ⟨z, hz, heq⟩ := List.mem_map.mp h
    split at heq
    · obtain ⟨hcode, hindex⟩ := Cause.isOf_iff.mp (by simpa using List.find?_some hfind : y.isOf c.code c.index = true)
      subst heq
      exact .inr ⟨hcode, hindex, rfl, .inr ⟨y, List.mem_of_find?_eq_some hfind, hcode, hindex, rfl⟩⟩
    · exact .inl (heq ▸ hz)
  · split at h
    · rcases List.mem_append.mp h with hx | hx
      · exact .inl hx
      · rw [List.mem_singleton.mp hx]
        exact .inr ⟨rfl, rfl, rfl, .inl rfl⟩
    · exact .inl h

/-- Putting in the place of an identity another entry of it keeps the identities. -/
theorem map_replace_identity {x : Cause} (hcode : x.code = code) (hindex : x.index = index) :
    ((l.map fun y => if y.isOf code index then x else y).map fun c => (c.code, c.index)) =
      l.map fun c => (c.code, c.index) := by
  rw [List.map_map]
  refine List.map_congr_left fun y _ => ?_
  simp only [Function.comp_apply]
  split
  · next hof =>
    obtain ⟨hc, hi⟩ := Cause.isOf_iff.mp hof
    rw [hcode, hindex, hc, hi]
  · rfl

theorem raisedList_identity (h : (l.map fun c => (c.code, c.index)).Nodup) :
    ((raisedList l c).map fun c => (c.code, c.index)).Nodup := by
  unfold raisedList
  split
  · next y hfind =>
    obtain ⟨hcode, hindex⟩ := Cause.isOf_iff.mp (by simpa using List.find?_some hfind : y.isOf c.code c.index = true)
    rwa [map_replace_identity (x := { y with repeats := satInc 255 y.repeats, sub := c.sub }) hcode hindex]
  · next hfind =>
    split
    · rw [List.map_append, List.nodup_append]
      refine ⟨h, by simp, fun a ha b hb hab => ?_⟩
      obtain ⟨y, hy, hya⟩ := List.mem_map.mp ha
      simp only [List.map_cons, List.map_nil, List.mem_singleton] at hb
      have hyof : y.isOf c.code c.index = true := Cause.isOf_iff.mpr (by simpa [hab, hb] using hya)
      exact absurd hyof (List.find?_eq_none.mp hfind y hy)
    · exact h

theorem endedList_identity : ((endedList l code index).map fun c => (c.code, c.index)).Sublist
    (l.map fun c => (c.code, c.index)) := by
  unfold endedList
  split
  · exact .refl _
  next c hfind =>
  obtain ⟨hcode, hindex⟩ := Cause.isOf_iff.mp (by simpa using List.find?_some hfind : c.isOf code index = true)
  split
  · exact List.filter_sublist.map _
  split
  · rw [map_replace_identity (x := { c with sub := .clearedUnacked }) hcode hindex]
  · exact .refl _

theorem mem_endedList {x : Cause} (h : x ∈ endedList l code index) : ∃ y ∈ l, x.code = y.code ∧ x.index = y.index ∧
    x.category = y.category ∧ (x.sub ≠ .clearedUnacked → x = y) := by
  unfold endedList at h
  split at h
  · exact ⟨x, h, rfl, rfl, rfl, fun _ => rfl⟩
  next c hfind =>
  split at h
  · exact ⟨x, List.mem_of_mem_filter h, rfl, rfl, rfl, fun _ => rfl⟩
  split at h
  · obtain ⟨z, hz, heq⟩ := List.mem_map.mp h
    split at heq
    · subst heq
      exact ⟨c, List.mem_of_find?_eq_some hfind, rfl, rfl, rfl, fun hsub => absurd rfl hsub⟩
    · exact ⟨x, heq ▸ hz, rfl, rfl, rfl, fun _ => rfl⟩
  · exact ⟨x, h, rfl, rfl, rfl, fun _ => rfl⟩

end

/-! # What the list keeps -/

/-- A raise that the supervisor's names allow: a speed cause has index 0 and its condition marked (R160), and a
REMOTE_TRIP the category of its index (R116). -/
structure Msv.Admits (m : Msv) (code : CauseCode) (category : Category) (index : Nat) (sub : SubState) : Prop where
  speed : code.isSpeed = true → sub ≠ .clearedUnacked → index = 0 ∧ m.speedActive code = true
  remote : code = .remoteTrip → category = if 16 ≤ index then .fast else .service

/-- The codes whose raises are not tied to an index or to a mark. -/
def CauseCode.isPlain (c : CauseCode) : Bool := !c.isSpeed && decide (c ≠ .remoteTrip)

theorem Msv.Admits.plain {m : Msv} {code : CauseCode} (h : code.isPlain = true) {category : Category} {index : Nat}
    {sub : SubState} : m.Admits code category index sub := by
  simp only [CauseCode.isPlain, Bool.and_eq_true, Bool.not_eq_true', decide_eq_true_eq] at h
  obtain ⟨hspeed, hremote⟩ := h
  exact ⟨fun hs => absurd (hspeed.symm.trans hs) Bool.false_ne_true, fun hr => absurd hr hremote⟩

section
variable {m : Msv} {code : CauseCode} {category : Category} {index : Nat} {sub : SubState}

/-- The cause list with a raise that is admitted. -/
theorem Msv.Admits.keeps (h : m.Admits code category index sub) (time : ClockTime) (a : Option Aggregate) :
    m.Keeps { m with causes := raisedList m.causes ⟨code, category, index, time, 0, sub⟩, aggregate := a } where
  length hl := by
    have := raisedList_length (l := m.causes) (c := ⟨code, category, index, time, 0, sub⟩)
    simp only
    omega
  names hn := ⟨raisedList_identity hn.identity, fun x hx hsub hspeed => by
    obtain hx | ⟨hcode, hindex, hxsub, -⟩ := mem_raisedList hx
    · exact hn.speed x hx hsub hspeed
    · rw [hcode] at hspeed ⊢
      rw [hxsub] at hsub
      rw [hindex]
      exact h.speed hspeed hsub⟩
  remote hr := fun x hx hxcode => by
    obtain hx | ⟨hcode, hindex, -, hcat | ⟨y, hy, hycode, hyindex, hcat⟩⟩ := mem_raisedList hx
    · exact hr x hx hxcode
    · rw [hcat, hindex]
      exact h.remote (hcode.symm.trans hxcode)
    · rw [hcat, hindex, ← hyindex]
      exact hr y hy (hycode.trans (hcode.symm.trans hxcode))
  limits hl := hl

theorem Msv.Keeps.ended : m.Keeps { m with causes := endedList m.causes code index } := by
  refine .ofCauses (a := m.aggregate) ?_ (fun h => h.sublist endedList_identity) fun x hx => ?_
  · exact endedList_length_le.trans (Nat.le_max_right ..)
  · obtain ⟨y, hy, hcode, hindex, hcategory, hsub⟩ := mem_endedList hx
    exact ⟨y, hy, hcode, hindex, hcategory, fun hs => hsub hs ▸ hs⟩

theorem Msv.Keeps.filterCauses (p : Cause → Bool) : m.Keeps { m with causes := m.causes.filter p } := by
  refine .ofCauses (a := m.aggregate) ((List.length_filter_le ..).trans (Nat.le_max_right ..))
    (fun h => h.sublist (List.filter_sublist.map _)) fun x hx => ?_
  exact ⟨x, List.mem_of_mem_filter hx, rfl, rfl, rfl, id⟩

/-- The LIMIT register takes a LIMIT code or loses pairs. -/
theorem Msv.Keeps.setLimits {l : List (CauseCode × Nat)}
    (h : ∀ p ∈ l, p ∈ m.limits ∨ p.1.categories = [.limit]) : m.Keeps { m with limits := l } :=
  ⟨id, fun hn => ⟨hn.identity, hn.speed⟩, id, fun hl p hp => (h p hp).elim (hl p) id⟩

end

/-! # The supervisor -/

section
variable {s t : State} {code : CauseCode} {category : Category} {index : Nat}

/-- A change of the supervisor outside its list. -/
theorem Kept.updReaction (h : Kept s t) {f : Msv → Msv}
    (hf : t.msv.SameList (f t.msv) := by exact ⟨rfl, rfl, rfl, rfl, rfl, rfl, rfl, rfl⟩) : Kept s (t.updMsv f) :=
  h.updMsv hf.keeps

theorem Kept.recomputeSpeedRef (h : Kept s t) : Kept s t.recomputeSpeedRef := h.updReaction

theorem Kept.recomputeCeiling (h : Kept s t) : Kept s t.recomputeCeiling :=
  Kept.recomputeSpeedRef (.ite h.updReaction.updHeld h.updReaction)

theorem Kept.setChain (h : Kept s t) {b : Bool} : Kept s (t.setChain b) := .ite h h.updReaction.setNews

theorem Kept.changeState (h : Kept s t) {new : SupState} {brought : List Byte} : Kept s (t.changeState new brought) :=
  h.updReaction.journal.setChain.recomputeCeiling.gateEvent

theorem Kept.afterListChange (h : Kept s t) : Kept s (t.afterListChange code index) :=
  .ite h.changeState (.ite h.changeState h.recomputeCeiling)

theorem Kept.publishCause (h : Kept s t) {k : JKind} {c : Cause} {n : Nat} : Kept s (t.publishCause k c n) :=
  h.setNews.journalAt

theorem Kept.tellFast (h : Kept s t) : Kept s (t.tellFast code index) := h.askTrip.tripCall

/-- What every change of the list ends with. -/
theorem Kept.listChange (h : Kept s t) {f : Msv → Msv} (hf : t.msv.Keeps (f t.msv)) {k : JKind} {c : Cause} {n : Nat} :
    Kept s (((t.updMsv f).publishCause k c n).afterListChange code index) := (h.updMsv hf).publishCause.afterListChange

theorem Kept.raiseOverflow (h : Kept s t) : Kept s (t.raiseOverflow code category index) := by
  unfold State.raiseOverflow
  refine Kept.when (.when (h.listChange ?_) (·.tellFast)) (·.tellFast)
  exact ⟨id, fun hn => ⟨hn.identity, hn.speed⟩, id, id⟩

theorem Kept.listRaise (h : Kept s t) {sub : SubState} (hadmits : t.msv.Admits code category index sub) :
    Kept s (t.listRaise code category index sub) := by
  have hkeeps := hadmits.keeps t.clockTime t.msv.aggregate
  unfold raisedList at hkeeps
  unfold State.listRaise
  split
  · next c hfind =>
    simp only [hfind] at hkeeps
    exact .when (h.listChange hkeeps) (·.tellFast)
  · next hfind =>
    simp only [hfind] at hkeeps
    split
    · next hroom =>
      simp only [if_pos hroom] at hkeeps
      exact .when (h.listChange hkeeps) (·.tellFast)
    · exact h.raiseOverflow

/-- A raise that the names allow; a LIMIT raise is one of a LIMIT code. -/
theorem Kept.raiseAdmitted (h : Kept s t) (hadmits : t.msv.Admits code category index .activeUnacked)
    (hlimit : category = .limit → code.categories = [.limit]) : Kept s (t.raiseCause code category index) := by
  unfold State.raiseCause
  split
  · next hl =>
    have hkeeps : t.msv.Keeps { t.msv with limits := t.msv.limits ++ [(code, index)] } :=
      .setLimits fun p hp => (List.mem_append.mp hp).imp_right fun hp => by
        rw [List.mem_singleton.mp hp]
        exact hlimit hl.1
    exact (h.updMsv hkeeps).listRaise ⟨hadmits.speed, hadmits.remote⟩
  · exact h.listRaise hadmits

theorem Kept.raiseCause (h : Kept s t) (hplain : code.isPlain = true := by decide)
    (hlimit : category = .limit → code.categories = [.limit] := by decide) :
    Kept s (t.raiseCause code category index) := h.raiseAdmitted (.plain hplain) hlimit

theorem Kept.operatorCause (h : Kept s t) (hplain : code.isPlain = true := by decide) :
    Kept s (t.operatorCause code category) := h.listRaise (.plain hplain)

theorem Kept.removeCause (h : Kept s t) {c : Cause} : Kept s (t.removeCause c) := h.listChange (.filterCauses _)

theorem Kept.listEnd (h : Kept s t) : Kept s (t.listEnd code index) := by
  unfold State.listEnd
  split
  · exact h
  next c hfind =>
  have hkeeps : t.msv.Keeps { t.msv with causes := endedList t.msv.causes code index } := .ended
  unfold endedList at hkeeps
  simp only [hfind] at hkeeps
  split
  · exact h.removeCause
  · next hkept =>
    rw [if_neg hkept] at hkeeps
    split
    · next hsub =>
      rw [if_pos hsub] at hkeeps
      exact h.listChange hkeeps
    · exact h

theorem Kept.endCause (h : Kept s t) : Kept s (t.endCause code index) := by
  refine Kept.listEnd (.ite (Kept.recomputeCeiling (h.updMsv ?_)) h)
  exact .setLimits fun p hp => .inl (List.mem_of_mem_filter hp)

theorem Kept.raiseOnce (h : Kept s t) (hplain : code.isPlain = true := by decide)
    (hlimit : category = .limit → code.categories = [.limit] := by decide) :
    Kept s (t.raiseOnce code category index) := (h.raiseCause hplain hlimit).endCause

/-! ## Acknowledgement (R146) -/

/-- Marking the entry of an identity that is active keeps the names. -/
theorem Msv.NamesOk.marked {m : Msv} (h : m.NamesOk) {c : Cause} (hc : c ∈ m.causes) (hsub : c.sub = .activeUnacked) :
    ({ m with causes := m.causes.map fun x =>
        if x.isOf c.code c.index then { x with sub := .activeAcked } else x } : Msv).NamesOk := by
  constructor
  · rw [List.map_map]
    refine (List.map_congr_left fun x _ => ?_ : _ = m.causes.map fun c => (c.code, c.index)) ▸ h.identity
    simp only [Function.comp_apply]
    split <;> rfl
  · intro x hx hxsub hspeed
    obtain ⟨y, hy, heq⟩ := List.mem_map.mp hx
    split at heq
    · next hof =>
      obtain rfl : y = c := isOf_unique h.identity hy hc hof (Cause.isOf_iff.mpr ⟨rfl, rfl⟩)
      subst heq
      exact h.speed y hy (by rw [hsub]; decide) hspeed
    · exact heq ▸ h.speed y hy (heq ▸ hxsub) (heq ▸ hspeed)

theorem Kept.ackCauseEntry (h : Kept s t) {c : Cause} (hc : s.msv.NamesOk → c ∈ t.msv.causes) :
    Kept s (t.ackCauseEntry c) := by
  unfold State.ackCauseEntry
  split
  · next hsub =>
    suffices hmarked : Kept s (t.updMsv fun m =>
        { m with causes := m.causes.map fun x => if x.isOf c.code c.index then { x with sub := .activeAcked } else x })
      from hmarked.setNews.recomputeCeiling
    refine ⟨{ h with causeList := ?_ }, h.count⟩
    obtain ⟨hlength, hnames, hremote, hlimits⟩ := h.causeList
    refine ⟨fun hs => by simpa using hlength hs, fun hs => (hnames hs).marked (hc hs) hsub, fun hs x hx hcode => ?_,
      hlimits⟩
    obtain ⟨y, hy, rfl⟩ := List.mem_map.mp hx
    have := hremote hs y hy
    split at hcode <;> simp_all
  · exact h.removeCause
  · exact h

theorem Kept.ackAggregate (h : Kept s t) : Kept s t.ackAggregate := by
  unfold State.ackAggregate
  split
  · exact h
  · exact h.listChange ⟨id, fun hn => ⟨hn.identity, hn.speed⟩, id, id⟩

end

/-- The list after the acknowledgement of one entry (R146). -/
def ackedList (l : List Cause) (c : Cause) : List Cause :=
  match c.sub with
  | .activeUnacked => l.map fun x => if x.isOf c.code c.index then { x with sub := .activeAcked } else x
  | .clearedUnacked => l.filter fun x => !x.isOf c.code c.index
  | .activeAcked => l

section
variable {s t : State}

theorem ackCauseEntry_causes (s : State) (c : Cause) :
    (s.ackCauseEntry c).msv.causes = ackedList s.msv.causes c := by
  unfold State.ackCauseEntry ackedList
  cases c.sub with
  | activeUnacked =>
    dsimp only
    rw [(recomputeCeiling_sameList _).causes]
    rfl
  | clearedUnacked =>
    dsimp only
    rw [State.removeCause, (afterListChange_sameList ..).causes, publishCause_msv]
    rfl
  | activeAcked => rfl

/-- Acknowledging an entry leaves the entries of other identities as they are. -/
theorem mem_ackedList_of_ne {l : List Cause} {c x : Cause} (hx : x ∈ l) (hne : x.isOf c.code c.index = false) :
    x ∈ ackedList l c := by
  unfold ackedList
  split
  · exact List.mem_map.mpr ⟨x, hx, by simp [hne]⟩
  · exact List.mem_filter.mpr ⟨hx, by simp [hne]⟩
  · exact hx

/-- Acknowledging entries of distinct identities one after the other. -/
theorem Kept.ackEntries (h : Kept s t) {l : List Cause} (hl : s.msv.NamesOk →
    (∀ c ∈ l, c ∈ t.msv.causes) ∧ (l.map fun c => (c.code, c.index)).Nodup) :
    Kept s (l.foldl (fun u c => u.ackCauseEntry c) t) := by
  induction l generalizing t with
  | nil => exact h
  | cons c cs ih =>
    refine ih (h.ackCauseEntry fun hs => (hl hs).1 c List.mem_cons_self) fun hs => ?_
    obtain ⟨hmem, hdistinct⟩ := hl hs
    rw [List.map_cons, List.nodup_cons] at hdistinct
    refine ⟨fun x hx => ?_, hdistinct.2⟩
    rw [ackCauseEntry_causes]
    refine mem_ackedList_of_ne (hmem x (List.mem_cons_of_mem _ hx)) (Bool.eq_false_iff.mpr fun hof => hdistinct.1 ?_)
    obtain ⟨hcode, hindex⟩ := Cause.isOf_iff.mp hof
    exact List.mem_map.mpr ⟨x, hx, by rw [hcode, hindex]⟩

theorem Kept.ackAll (h : Kept s t) : Kept s t.ackAll :=
  (h.ackEntries fun hs => ⟨fun _ => id, (h.causeList.names hs).identity⟩).ackAggregate

theorem Kept.ackSlot (h : Kept s t) {slot n : Nat} : Kept s (t.ackSlot slot n).1 := by
  refine h.answeredOr ?_
  split
  · exact h.ackAggregate.answeredOr h
  · split
    · exact h
    · next c hc => exact (h.ackCauseEntry fun _ => List.mem_of_getElem? hc).answeredOr h

theorem Kept.ackOrder (h : Kept s t) {slot n : Nat} : Kept s (t.ackOrder slot n).1 := h.ackAll.answeredOr h.ackSlot

/-! ## Orders and the window end -/

theorem Kept.startOrder (h : Kept s t) : Kept s t.startOrder.1 := by
  refine h.answeredOr ?_
  split
  · exact h
  · exact h.changeState

theorem Kept.resumeOrder (h : Kept s t) : Kept s t.resumeOrder.1 := by
  refine h.answeredOr (h.answeredOr ?_)
  split
  · exact h
  · exact h.answeredOr (h.changeState.when (·.raiseCause))

theorem Kept.setOperatorCeiling (h : Kept s t) {v : Nat} : Kept s (t.setOperatorCeiling v) :=
  Kept.recomputeCeiling (h.updMsv ⟨id, fun hn => ⟨hn.identity, hn.speed⟩, id, id⟩)

theorem Kept.setCeiling (h : Kept s t) {v : Nat} : Kept s (t.setCeiling v).1 :=
  h.answeredOr (h.setOperatorCeiling.answeredOr h.setOperatorCeiling)

theorem Kept.chainSenseChange (h : Kept s t) {closed : Bool} : Kept s (t.chainSenseChange closed) :=
  .ite h (.ite h.updPins.setNews.endCause (h.updPins.setNews.when (·.raiseCause)))

theorem isSpeed_speedSituation (s : State) : s.speedSituation.isSpeed = true := by
  unfold State.speedSituation
  split <;> rfl

theorem speedActive_setSpeedActive_same {code : CauseCode} (h : code.isSpeed = true) (m : Msv) (b : Bool) :
    (m.setSpeedActive code b).speedActive code = b := by
  cases code
  case overspeed | decelFail | ropeCreep => rfl
  all_goals cases h

theorem speedActive_setSpeedActive_ne {code other : CauseCode} (h : other ≠ code) (m : Msv) (b : Bool) :
    (m.setSpeedActive code b).speedActive other = m.speedActive other := by
  unfold Msv.setSpeedActive
  split
  case h_4 => rfl
  all_goals
    unfold Msv.speedActive
    cases other
    case overspeed | decelFail | ropeCreep => trivial
    all_goals rfl

theorem setSpeedActive_causes (m : Msv) (code : CauseCode) (b : Bool) :
    (m.setSpeedActive code b).causes = m.causes := by
  unfold Msv.setSpeedActive
  split <;> rfl

theorem setSpeedActive_limits (m : Msv) (code : CauseCode) (b : Bool) :
    (m.setSpeedActive code b).limits = m.limits := by
  unfold Msv.setSpeedActive
  split <;> rfl

theorem Msv.Keeps.setSpeedActive {m : Msv} {code : CauseCode} : m.Keeps (m.setSpeedActive code true) where
  length hl := setSpeedActive_causes m code true ▸ hl
  names hn := ⟨setSpeedActive_causes m code true ▸ hn.identity, fun c hc hsub hspeed => by
    rw [setSpeedActive_causes] at hc
    obtain ⟨hindex, hactive⟩ := hn.speed c hc hsub hspeed
    refine ⟨hindex, ?_⟩
    by_cases heq : c.code = code
    · exact heq ▸ speedActive_setSpeedActive_same hspeed m true
    · rwa [speedActive_setSpeedActive_ne heq]⟩
  remote hr := fun c hc => hr c (setSpeedActive_causes m code true ▸ hc)
  limits hl := fun p hp => hl p (setSpeedActive_limits m code true ▸ hp)

theorem Kept.setExceed (h : Kept s t) {n : Nat} : Kept s (t.updMsv fun m => { m with exceed := n }) :=
  h.updMsv ⟨id, fun hn => ⟨hn.identity, hn.speed⟩, id, id⟩

/-- The mark of a speed cause is cleared with the end of its condition, after which no entry of it is active (R160). -/
theorem Msv.NamesOk.endSpeed {t : State} (hn : t.msv.NamesOk) {code : CauseCode} :
    ((t.updMsv (·.setSpeedActive code false)).endCause code 0).msv.NamesOk := by
  obtain ⟨limits, -, hsame⟩ := endCause_sameList (t.updMsv (·.setSpeedActive code false)) code 0
  have hcauses := hsame.causes
  simp only [State.updMsv_msv, setSpeedActive_causes] at hcauses
  refine ⟨hcauses ▸ hn.identity.sublist endedList_identity, fun c hc hsub hspeed => ?_⟩
  rw [hcauses] at hc
  obtain ⟨y, hy, -, -, -, heq⟩ := mem_endedList hc
  obtain rfl := heq hsub
  obtain ⟨hindex, hactive⟩ := hn.speed c hy hsub hspeed
  have hne : c.code ≠ code := fun hcode =>
    hsub (endedList_cleared hn.identity hc (Cause.isOf_iff.mpr ⟨hcode, hindex⟩))
  rw [speedActive_congr hsame.overspeed hsame.decelFail hsame.ropeCreep]
  exact ⟨hindex, (speedActive_setSpeedActive_ne hne t.msv false).trans hactive⟩

theorem Kept.endSpeed (h : Kept s t) {code : CauseCode} : Kept s (t.endSpeed code) := by
  unfold State.endSpeed
  split
  · have hrun := (Kept.refl (t.updMsv (·.setSpeedActive code false))).endCause (code := code) (index := 0)
    obtain ⟨hlength, hnames, hremote, hlimits⟩ := h.causeList
    obtain ⟨hlength', -, hremote', hlimits'⟩ := hrun.causeList
    simp only [State.updMsv_msv, setSpeedActive_causes, Msv.RemoteOk, Msv.LimitsOk, setSpeedActive_limits]
      at hlength' hremote' hlimits'
    exact ⟨{ track := fun hs => hrun.track (h.track hs), trackNames := fun hs => hrun.trackNames (h.trackNames hs),
             fleet := fun hs => hrun.fleet (h.fleet hs), queue := fun hs => hrun.queue (h.queue hs),
             trips := fun hs => hrun.trips (h.trips hs), calls := fun hs => hrun.calls (h.calls hs),
             callNames := fun hs hn => hrun.callNames (h.calls hs) (h.callNames hs hn),
             causeList := ⟨fun hs => hlength' (hlength hs), fun hs => (hnames hs).endSpeed,
               fun hs => hremote' (hremote hs), fun hs => hlimits' (hlimits hs)⟩,
             contexts := fun hs => hrun.contexts (h.contexts hs), ring := fun hs => hrun.ring (h.ring hs),
             stations := fun hs => hrun.stations (h.stations hs), revisions := fun hs => hrun.revisions (h.revisions hs),
             locks := fun hs => hrun.locks (h.locks hs) }, fun hs => hrun.count (h.count hs)⟩
  · exact h

theorem Kept.speedTest (h : Kept s t) : Kept s t.speedTest := by
  unfold State.speedTest
  extract_lets n s1 code
  split
  · refine .ite (Kept.raiseAdmitted (h.setExceed.updMsv .setSpeedActive) ⟨fun hspeed _ => ⟨rfl, ?_⟩, ?_⟩ ?_) h.setExceed
    · exact speedActive_setSpeedActive_same hspeed ..
    · exact fun hremote => absurd (isSpeed_speedSituation t) (by rw [show t.speedSituation = _ from hremote]; decide)
    · exact fun hlimit => nomatch hlimit
  · exact h.setExceed.endSpeed.endSpeed.endSpeed

theorem Kept.stopEnd (h : Kept s t) : Kept s t.stopEnd := .ite h.changeState h

theorem Kept.watchEnd (h : Kept s t) : Kept s t.watchEnd := by
  unfold State.watchEnd
  split
  · exact h
  · exact h.updReaction

theorem Kept.ramp (h : Kept s t) : Kept s t.ramp := .ite h.updReaction.recomputeSpeedRef h

theorem Kept.supervisorWindow (h : Kept s t) : Kept s t.supervisorWindow := h.speedTest.stopEnd.watchEnd.ramp

end

end Sys2Proof.Machine
end

section
/-! PROOF. Doors, track, launch unit and rope monitor keep the tables' sizes, the names and the Z3 count in order (R2, R3,
R78). -/

namespace Sys2Proof.Machine

-- One lemma at a time, as in Laws/State.lean.
set_option Elab.async false

open Sys2Proof

section
variable {s t : State} {c : Channel}

/-! # Doors -/

theorem Kept.endNotProven (h : Kept s t) : Kept s t.endNotProven := by
  unfold State.endNotProven
  split
  · exact h
  · exact .ite h.endCause h

theorem Kept.writeDoor (h : Kept s t) {uid : Nat} {door : DoorState} : Kept s (t.writeDoor uid door) :=
  .ite (h.updEntry.when (·.updEntry)).endNotProven.gateEvent h.updEntry

theorem Kept.writeDoorOf (h : Kept s t) {uid : Option Nat} {door : DoorState} : Kept s (t.writeDoorOf uid door) := by
  cases uid with
  | none => exact h
  | some u => exact h.writeDoor

theorem Kept.updFleetOf (h : Kept s t) {uid : Option Nat} {f : FleetRec → FleetRec} : Kept s (t.updFleetOf uid f) := by
  cases uid with
  | none => exact h
  | some u => exact h.updFleetRec

theorem Kept.offReleases (h : Kept s t) {m : DriveMode} : Kept s (t.offReleases c m) := .ite h.updChan h

theorem Kept.driveOffFollow (h : Kept s t) {old new : DriveMode} : Kept s (t.driveOffFollow c old new) :=
  .ite (.ite h.raiseCause (.ite h.endCause h)) h

theorem Kept.setMode (h : Kept s t) {mode : DriveMode} {reason : ChangeReason} : Kept s (t.setMode c mode reason) :=
  .ite h h.updChan.offReleases.journal.driveOffFollow

theorem Kept.applyPending (h : Kept s t) : Kept s (t.applyPending c) := by
  unfold State.applyPending
  split
  · exact h
  · exact h.updChan.setMode

theorem Kept.completeStroke (h : Kept s t) {x : Chan} {r : ResultCode} : Kept s (t.completeStroke c x r) := by
  unfold State.completeStroke
  split
  · exact h
  · exact h.completeOrder.updChan

theorem Kept.provenWrites (h : Kept s t) {x : Chan} : Kept s (t.provenWrites c x) := by
  unfold State.provenWrites
  split
  · exact h.writeDoorOf
  · dsimp only
    split
    · exact h.updFleetOf.updEntry.writeDoorOf
    · exact h.updFleetOf.writeDoorOf
  · split
    · exact h
    · exact h.updEntry
  · exact h

theorem Kept.proveStroke (h : Kept s t) : Kept s (t.proveStroke c) :=
  h.updChan.provenWrites.updChan.completeStroke.applyPending

theorem Kept.failWrites (h : Kept s t) {x : Chan} : Kept s (t.failWrites c x) := by
  unfold State.failWrites
  split
  · exact .ite h.updFleetOf.writeDoorOf h
  · exact .ite h h.updFleetOf.writeDoorOf
  · exact h

theorem Kept.failCause (h : Kept s t) {x : Chan} : Kept s (t.failCause c x) :=
  .ite h.raiseOnce (.ite h.raiseCause h.raiseCause)

theorem Kept.failStroke (h : Kept s t) {fault : DoorFault} : Kept s (t.failStroke c fault) :=
  h.updChan.failWrites.updChan.failCause.journal.completeStroke.applyPending

theorem Kept.closeTests {n : Nat} (h : Kept s t) : Kept s (State.closeTests c n t) := by
  induction n generalizing t with
  | zero => exact h
  | succ n ih => exact .ite h.proveStroke (.ite (.ite (.ite (ih h.updChan.updChan) h.updChan.failStroke) h.updChan) h)

theorem Kept.testClose (h : Kept s t) : Kept s (t.testClose c) := h.closeTests

theorem Kept.endReversal (h : Kept s t) : Kept s (t.endReversal c) := .ite h.updChan.testClose h.failStroke

theorem Kept.beginStroke (h : Kept s t) {close : Bool} {o : Origin} : Kept s (t.beginStroke c close o) := by
  unfold State.beginStroke
  exact h.updChan

theorem Kept.startGateClose (h : Kept s t) : Kept s t.startGateClose := h.updChan.beginStroke.testClose

theorem Kept.afterOpen (h : Kept s t) : Kept s (t.afterOpen c) := .ite h.startGateClose h

theorem Kept.testOpen (h : Kept s t) : Kept s (t.testOpen c) := .ite h.proveStroke.afterOpen h

theorem Kept.missEngagement (h : Kept s t) {uid : Nat} : Kept s (t.missEngagement c uid) :=
  (h.when (·.updEntry)).updFleetRec.writeDoor.raiseOnce.journal

theorem Kept.engageOpener (h : Kept s t) {uid : Nat} : Kept s (t.engageOpener uid) :=
  .ite h.updChan.beginStroke.writeDoor.testOpen h.missEngagement

theorem Kept.engageCloser (h : Kept s t) {uid : Nat} : Kept s (t.engageCloser uid) :=
  .ite h.updChan.beginStroke.writeDoor.testClose h.missEngagement

theorem Kept.withhold (h : Kept s t) {n r : Nat} : Kept s (t.withhold n r) := h.journal

theorem Kept.engageGate (h : Kept s t) {e : TrackEntry} : Kept s (t.engageGate e) :=
  .ite (h.withhold.when (·.startGateClose))
    (.ite h.updChan.beginStroke.testOpen (.ite h.updChan.updEntry (.ite h.withhold h.withhold)))

theorem Kept.gateCloseNow (h : Kept s t) : Kept s t.gateCloseNow := by
  unfold State.gateCloseNow
  split
  · exact h.startGateClose
  · exact h.updChan
  · exact h

theorem Kept.closePoint (h : Kept s t) {uid : Nat} : Kept s (t.closePoint uid) := .ite h.gateCloseNow h

theorem Kept.gateLateCheck (h : Kept s t) {e : TrackEntry} : Kept s (t.gateLateCheck e) :=
  .ite h.raiseOnce.journal.gateCloseNow h

theorem Kept.dropChannel (h : Kept s t) : Kept s (t.dropChannel c) := .ite h.updChan.gateCloseNow h.updChan

theorem Kept.dropEngagements (h : Kept s t) {uid : Nat} : Kept s (t.dropEngagements uid) :=
  h.foldl (fun _ _ hu => .ite hu.dropChannel hu) _

theorem Kept.dropAllEngagements (h : Kept s t) : Kept s t.dropAllEngagements :=
  h.foldl (fun _ _ hu => .ite hu.dropChannel hu) _

theorem Kept.gateAtLost (h : Kept s t) : Kept s t.gateAtLost := .ite h.gateCloseNow h

theorem Kept.openLimit (h : Kept s t) : Kept s (t.openLimit c) := by
  unfold State.openLimit
  split
  · exact h.proveStroke.afterOpen
  · exact h.endReversal
  · exact h

theorem Kept.closedLimit (h : Kept s t) : Kept s (t.closedLimit c) := by
  unfold State.closedLimit
  split
  · exact h.proveStroke
  · exact h

theorem Kept.obstructed (h : Kept s t) : Kept s (t.obstructed c) := by
  unfold State.obstructed
  split
  · exact .ite h.updChan.endReversal h.updChan
  · exact h

theorem Kept.strokeTimeout (h : Kept s t) {phase : ChanState} : Kept s (t.strokeTimeout c phase) := by
  unfold State.strokeTimeout
  split
  · split
    · exact h.failStroke
    · exact h.failStroke
    · exact h.endReversal
    · exact h
  · exact h

theorem Kept.setDriveMode (h : Kept s t) {n m : Nat} : Kept s (t.setDriveMode n m).1 := by
  unfold State.setDriveMode
  split
  · dsimp only
    split
    · exact h
    split
    · dsimp only
      exact h.updChan
    · exact Kept.setMode (.ite h.updChan.endCause h.updChan)
  · exact h

theorem Kept.startStrokeOrder (h : Kept s t) {k n d : Nat} : Kept s (t.startStrokeOrder k n d) := by
  unfold State.startStrokeOrder
  split
  · exact h
  · exact .ite h.updChan.beginStroke.testOpen h.updChan.beginStroke.writeDoorOf.testClose

theorem Kept.haltDrive (h : Kept s t) {n : Nat} : Kept s (t.haltDrive n).1 := by
  unfold State.haltDrive
  split
  · exact h
  · dsimp only
    split
    · exact (Kept.ite h.updChan.writeDoorOf h.updChan).completeStroke.applyPending
    · exact h

/-! # What the launch unit does for the track -/

/-- With the count taken anew it is that of the track, whatever it was before (R78). -/
theorem KeptLoose.z3Changed (h : KeptLoose s t) : Kept s t.z3Changed := by
  unfold State.z3Changed
  extract_lets n s1
  split
  · next hn => exact ⟨h, fun _ => hn.symm⟩
  · have h1 : Kept s s1 := ⟨h.updLch, fun _ => rfl⟩
    exact .ite h1.updLch.raiseCause (.ite h1.updLch.endCause h1)

/-- A run that keeps all goes on from one that keeps all but the count. -/
theorem KeptLoose.run {u : State} (h : KeptLoose s t) (hrun : Kept t u) : KeptLoose s u := h.trans hrun.toKeptLoose

theorem Kept.enterHolding (h : Kept s t) {uid : Nat} : Kept s (t.enterHolding uid) :=
  .ite (h.when (·.updEntry)).updLch.updHeld.gateEvent (h.when (·.updEntry))

theorem Kept.gateEmpty (h : Kept s t) : Kept s t.gateEmpty := h.updLch.when (·.endCause)

theorem Kept.clearDivert (h : Kept s t) : Kept s t.clearDivert := h.updLch.gateEvent

theorem Kept.arrivalEndsDivert (h : Kept s t) {n : Nat} : Kept s (t.arrivalEndsDivert n) := by
  unfold State.arrivalEndsDivert
  split
  · exact h
  · exact .ite h.clearDivert h

theorem Kept.departureCheck (h : Kept s t) {dist : DWord} : Kept s (t.departureCheck dist) := by
  unfold State.departureCheck
  dsimp only
  split
  · exact h.updLch
  · exact (Kept.ite h.raiseOnce h).updLch

theorem Kept.dropTestEntry (h : Kept s t) {uid : Nat} : Kept s (t.dropTestEntry uid) := .ite h.updLch h

theorem Kept.flagEvent (h : Kept s t) {n : Nat} {b : Bool} : Kept s (t.flagEvent n b) := .ite h.gateEvent h

theorem Kept.setBarred (h : Kept s t) {n : Nat} {b : Bool} : Kept s (t.setBarred n b) := h.updFleetRec.flagEvent

theorem Kept.setGarage (h : Kept s t) {n : Nat} {b : Bool} : Kept s (t.setGarage n b) := h.updFleetRec.flagEvent

/-! # Track -/

theorem Kept.endOverdue (h : Kept s t) {e : TrackEntry} : Kept s (t.endOverdue e) :=
  .ite (.ite h.endCause (.ite h h.endCause)) h

theorem Kept.endAllOverdue (h : Kept s t) {es : List TrackEntry} : Kept s (t.endAllOverdue es) :=
  h.foldl (fun _ _ hu => .ite hu.endCause hu) _

theorem Kept.enterLost (h : Kept s t) : Kept s t.enterLost :=
  (h.updTrk (by simp [Function.comp_def])).raiseCause.endAllOverdue.journal.gateAtLost

theorem Kept.refusePlacement (h : Kept s t) : Kept s t.refusePlacement := h.raiseOnce.enterLost

theorem insertEntry_perm (e : TrackEntry) (l : List TrackEntry) : (insertEntry e l).Perm (e :: l) := by
  induction l with
  | nil => exact .refl _
  | cons x rest ih =>
    unfold insertEntry
    split
    · exact (ih.cons x).trans (.swap e x rest)
    · exact .refl _

/-- An entry with the next name is placed where the track has room (R3). -/
theorem Kept.place (h : Kept s t) {e : TrackEntry} (hroom : t.trackFull = false) (huid : e.uid = t.trk.nextUid) :
    Kept s (t.place e) := by
  have hperm := insertEntry_perm e t.trk.entries
  simp only [State.trackFull, decide_eq_false_iff_not, not_le] at hroom
  refine KeptLoose.z3Changed { h.toKeptLoose with track := fun _ => ?_, trackNames := fun hs => ?_ }
  · simp only [State.updTrk_trk, hperm.length_eq, List.length_cons]
    exact hroom
  · obtain ⟨hd, hf⟩ := h.trackNames hs
    constructor
    · simp only [State.updTrk_trk]
      rw [(hperm.map _).nodup_iff, List.map_cons, List.nodup_cons]
      refine ⟨fun hm => ?_, hd⟩
      obtain ⟨x, hx, hxe⟩ := List.mem_map.mp hm
      have := hf x hx
      omega
    · intro x hx
      rcases List.mem_cons.mp (hperm.mem_iff.mp hx) with rfl | hx
      · simp [huid]
      · exact (hf x hx).trans (Nat.lt_succ_self _)

theorem Kept.requestPlacement (h : Kept s t) {e : TrackEntry} (huid : e.uid = t.trk.nextUid) :
    Kept s (t.requestPlacement e) := by
  unfold State.requestPlacement
  split
  · exact h.refusePlacement
  · next hroom => exact h.place (by simpa using hroom) huid

theorem Kept.removeEntry (h : Kept s t) {e : TrackEntry} : Kept s (t.removeEntry e) := by
  have hremoved : KeptLoose s (t.updTrk fun k => { k with entries := k.entries.filter (·.uid ≠ e.uid) }) :=
    h.toKeptLoose.updTrk (List.filter_sublist.map _)
  exact (hremoved.run (Kept.refl _).dropEngagements.dropTestEntry.endOverdue).z3Changed

theorem Kept.moveEntry (h : Kept s t) {e : TrackEntry} {zone : Nat} : Kept s (t.moveEntry e zone) := by
  have hmoved : KeptLoose s (t.updEntry e.uid fun x =>
      { x with zone := zone, travel := 0, overdue := false, atGate := false }) := by
    refine h.toKeptLoose.updTrk (Eq.subst (motive := List.Sublist _) ?_ (.refl _))
    rw [List.map_map]
    refine List.map_congr_left fun x _ => ?_
    simp only [Function.comp_apply]
    split <;> rfl
  exact (hmoved.run (Kept.refl _).endOverdue).z3Changed

theorem Kept.unknownArrival (h : Kept s t) : Kept s t.unknownArrival := .ite h.updTrk.raiseCause h.updTrk

theorem Kept.knownArrival (h : Kept s t) : Kept s t.knownArrival := h.updTrk.endCause

theorem Kept.noteArrived (h : Kept s t) {n : Nat} {d : DWord} : Kept s (t.noteArrived n d) := h.journal

theorem Kept.noteMismatch (h : Kept s t) {n : Nat} : Kept s (t.noteMismatch n) := .ite h.journal h

theorem Kept.resolveUnknown (h : Kept s t) {e : TrackEntry} {reason : List Byte} :
    Kept s (t.resolveUnknown e reason) := h.updTrk.journal.noteArrived.unknownArrival

theorem Kept.resolveKnown (h : Kept s t) {e : TrackEntry} {n : Nat} : Kept s (t.resolveKnown e n) :=
  h.updTrk.updEntry.endOverdue.noteMismatch.updFleetRec.arrivalEndsDivert.noteArrived.knownArrival

theorem Kept.resolveDuplicate (h : Kept s t) {e : TrackEntry} {tag : Word} {n : Nat} :
    Kept s (t.resolveDuplicate e tag n) := h.updTrk.journal.noteArrived.knownArrival

theorem Kept.resolveTag (h : Kept s t) {e : TrackEntry} {tag : Word} : Kept s (t.resolveTag e tag) := by
  unfold State.resolveTag
  split
  · exact h.resolveUnknown
  · exact .ite h.resolveDuplicate h.resolveKnown

theorem Kept.closeWindow (h : Kept s t) : Kept s t.closeWindow := by
  unfold State.closeWindow
  split
  · exact h
  · split
    · exact h.updTrk
    · exact h.resolveUnknown

theorem Kept.validFrame (h : Kept s t) {tag : Word} : Kept s (t.validFrame tag) := by
  unfold State.validFrame
  split
  · exact h
  · split
    · exact h
    · exact h.resolveTag

theorem Kept.invalidFrame (h : Kept s t) : Kept s t.invalidFrame := h.updTrk

theorem Kept.tagByte (h : Kept s t) {b : TagByte} : Kept s (t.tagByte b) := by
  unfold State.tagByte
  dsimp only
  split
  · exact h.updTrk.invalidFrame
  split
  · exact h.updTrk
  split
  · exact h.updTrk.validFrame
  · exact h.updTrk.invalidFrame

theorem Kept.tagGap (h : Kept s t) : Kept s t.tagGap := .ite h h.updTrk.invalidFrame

theorem Kept.countEdge (h : Kept s t) {n : Nat} : Kept s (t.countEdge n) := h.updTrk

theorem Kept.standstillChatter (h : Kept s t) {n : Nat} : Kept s (t.standstillChatter n) := h.journal

theorem Kept.arrivalSpacing (h : Kept s t) : Kept s t.arrivalSpacing := by
  unfold State.arrivalSpacing
  dsimp only
  split
  · exact h.updTrk
  · exact (Kept.ite h.raiseOnce h).updTrk

theorem resolveUnknown_entries (s : State) (e : TrackEntry) (reason : List Byte) :
    (s.resolveUnknown e reason).trk.entries = s.trk.entries := by
  unfold State.resolveUnknown State.unknownArrival
  dsimp only
  split <;> simp [State.noteArrived]

/-- Closing the tag window leaves the entries as they are. -/
theorem closeWindow_entries (s : State) : s.closeWindow.trk.entries = s.trk.entries := by
  unfold State.closeWindow
  split
  · rfl
  · split
    · rfl
    · exact resolveUnknown_entries ..

theorem Kept.arrive (h : Kept s t) : Kept s t.arrive := by
  unfold State.arrive
  split
  · exact h.refusePlacement
  · next hroom =>
    refine (Kept.arrivalSpacing (h.closeWindow.place ?_ rfl)).updTrk
    simpa [State.trackFull, closeWindow_entries] using hroom

theorem Kept.edgeB0 (h : Kept s t) : Kept s t.edgeB0 := .ite h.countEdge (.ite h.standstillChatter h.arrive)

theorem Kept.depart (h : Kept s t) {e : TrackEntry} : Kept s (t.depart e) :=
  h.removeEntry.setFleetState.journal.departureCheck

theorem Kept.matchAt (h : Kept s t) {n : Nat} {e : TrackEntry} : Kept s (t.matchAt n e) := by
  have hmoved : Kept s ((t.updEntry e.uid fun x => { x with waiver := false }).moveEntry e n) := h.updEntry.moveEntry
  unfold State.matchAt
  dsimp only
  split
  · exact (Kept.ite hmoved.closeWindow hmoved).engageOpener
  · exact hmoved.engageGate
  · exact hmoved.engageCloser.gateLateCheck
  · exact hmoved

theorem Kept.testEdge (h : Kept s t) {n : Nat} : Kept s (t.testEdge n) := by
  unfold State.testEdge
  split
  · exact h.raiseOnce
  · exact .ite (.ite h.depart h.matchAt) h.journal

theorem Kept.edgeAt (h : Kept s t) {n : Nat} : Kept s (t.edgeAt n) :=
  .ite h.countEdge (.ite h.standstillChatter h.testEdge)

theorem Kept.standAtGate (h : Kept s t) : Kept s t.standAtGate := by
  unfold State.standAtGate
  split
  · exact h.raiseOnce
  · exact .ite h.journal h.updEntry.enterHolding

theorem Kept.edgeB4 (h : Kept s t) : Kept s t.edgeB4 :=
  .ite h.updPins.countEdge (.ite h.updPins.standstillChatter h.updPins.standAtGate)

theorem Kept.overdueCheck (h : Kept s t) {uid : Nat} : Kept s (t.overdueCheck uid) := by
  unfold State.overdueCheck
  split
  · exact h
  · exact .ite h.updEntry.raiseCause h

theorem Kept.closePointCheck (h : Kept s t) : Kept s t.closePointCheck := by
  unfold State.closePointCheck
  split
  · exact h
  · exact .ite h.closePoint h

theorem Kept.trackWindow (h : Kept s t) : Kept s t.trackWindow := by
  refine .ite h (Kept.closePointCheck (Kept.foldl (h.updTrk ?_) (fun _ _ hu => hu.overdueCheck) _))
  rw [List.map_map]
  refine List.map_congr_left fun e _ => ?_
  simp only [Function.comp_apply, State.accrue]
  split <;> rfl

/-! ## Rebuilding -/

theorem length_rebuiltEntries (dist : DWord) (uid : Nat) (pairs : List (Nat × Nat)) :
    (rebuiltEntries dist uid pairs).length = pairs.length := by
  induction pairs generalizing uid with
  | nil => rfl
  | cons p rest ih => simp [rebuiltEntries, ih]

theorem map_uid_rebuiltEntries (dist : DWord) (uid : Nat) (pairs : List (Nat × Nat)) :
    (rebuiltEntries dist uid pairs).map (·.uid) = List.range' uid pairs.length := by
  induction pairs generalizing uid with
  | nil => rfl
  | cons p rest ih => simp [rebuiltEntries, ih, List.range'_succ]

theorem Kept.rebuildFleet (h : Kept s t) {pairs : List (Nat × Nat)} : Kept s (t.rebuildFleet pairs) := by
  refine Kept.updFleet (h.foldl (fun _ _ hu => ?_) _) (List.length_mapIdx ..)
  exact (Kept.ite hu.journal hu).setFleetState

theorem Kept.rebuildAtGate (h : Kept s t) : Kept s t.rebuildAtGate := by
  unfold State.rebuildAtGate
  split
  · split
    · exact h
    · exact h.updEntry
  · exact h

theorem KeptLoose.gateRebuilt (h : KeptLoose s t) : Kept s t.gateRebuilt := by
  unfold State.gateRebuilt
  extract_lets s1 s2
  have h1 : Kept t s1 := (Kept.refl t).updLch.gateEmpty
  have h2 : Kept t s2 := by
    unfold s2
    split
    · exact h1
    · exact h1.enterHolding
  exact (h.run h2).z3Changed

/-- A rebuild of no more than 16 pairs gives its entries the next names (R22). -/
theorem Kept.rebuild (h : Kept s t) {pairs : List (Nat × Nat)} (hroom : pairs.length ≤ 16) :
    Kept s (t.rebuild pairs) := by
  unfold State.rebuild
  extract_lets old s1 s2 s3 s4 s5
  have h1 : Kept s s1 := h.updTrk.dropAllEngagements.endAllOverdue
  have hnew : KeptLoose s (s1.updTrk fun k =>
      { k with entries := rebuiltEntries t.rpm.dist k.nextUid pairs, nextUid := k.nextUid + pairs.length }) := by
    refine { h1.toKeptLoose with track := fun _ => ?_, trackNames := fun _ => ⟨?_, fun e he => ?_⟩ }
    · simpa [length_rebuiltEntries] using hroom
    · simpa [map_uid_rebuiltEntries] using List.nodup_range'
    · have := List.mem_map_of_mem (f := fun e : TrackEntry => e.uid) he
      simp only [State.updTrk_trk, map_uid_rebuiltEntries, List.mem_range'_1] at this
      exact this.2
  have h2 : KeptLoose s s2 := hnew.run (Kept.refl _).rebuildAtGate
  have h4 : Kept s2 s4 := (Kept.refl s2).rebuildFleet.updTrk.endCause.journal
  exact KeptLoose.gateRebuilt (h2.run (.ite h4.journal h4))

/-! # Launch unit -/

theorem Kept.completeLaunch (h : Kept s t) : Kept s t.completeLaunch := by
  unfold State.completeLaunch
  split
  · exact h.moveEntry.gateEmpty
  · exact h.gateEmpty

theorem Kept.completeDivert (h : Kept s t) : Kept s t.completeDivert := by
  unfold State.completeDivert
  split
  · exact h.gateEmpty
  · exact h.updLch.updHeld.removeEntry.gateEmpty

theorem Kept.uncommandedLaunch (h : Kept s t) : Kept s t.uncommandedLaunch := by
  have hraised : Kept s (t.raiseOnce .uncommandedLaunch .fast 0) := h.raiseOnce
  unfold State.uncommandedLaunch
  dsimp only
  split
  · exact hraised.moveEntry.gateEmpty
  · exact hraised.gateEmpty

theorem Kept.b4Falling (h : Kept s t) : Kept s t.b4Falling := by
  unfold State.b4Falling
  dsimp only
  split
  · exact h.updPins.completeLaunch
  · exact h.updPins.completeDivert
  · exact h.updPins.uncommandedLaunch
  · exact h.updPins.uncommandedLaunch

theorem Kept.divertFails (h : Kept s t) : Kept s t.divertFails := by
  unfold State.divertFails
  split
  · exact h
  · exact (Kept.ite (h.raiseOnce.requestPlacement rfl) h.raiseOnce).clearDivert

theorem Kept.startGripTest (h : Kept s t) : Kept s t.startGripTest := by
  unfold State.startGripTest
  exact h.updLch

theorem Kept.b5Rising (h : Kept s t) : Kept s t.b5Rising :=
  .ite h.updPins (.ite h.updPins.divertFails h.updPins.divertFails.startGripTest)

theorem Kept.recordGrip (h : Kept s t) {u : Option Nat} {n f : Nat} {g : Grade} : Kept s (t.recordGrip u n f g) := by
  unfold State.recordGrip
  split
  · split
    · exact h
    · exact .ite h.updEntry h
  · exact .ite h.updFleetRec.setBarred h.updFleetRec

theorem Kept.gripCause (h : Kept s t) {g : Grade} {n : Nat} : Kept s (t.gripCause g n) := by
  cases g with
  | noReading | fail | high => exact h.raiseOnce
  | weak | good => exact h

theorem Kept.endGripTest (h : Kept s t) : Kept s t.endGripTest := .ite h.updLch.recordGrip.gripCause.journal h

theorem Kept.forceSample (h : Kept s t) {n : Nat} : Kept s (t.forceSample n) := .ite h.updLch h

theorem Kept.gIn (h : Kept s t) : Kept s t.gIn := by
  unfold State.gIn
  split
  · exact h.journal
  · exact h.setFleetState.setGarage.journal.clearDivert

theorem Kept.startRelease (h : Kept s t) {k n : Nat} : Kept s (t.startRelease k n) := h.updLch.updHeld

theorem Kept.endInsertion (h : Kept s t) {i : Insertion} {r : OrderResult} : Kept s (t.endInsertion i r) :=
  h.updLch.completeOrder

theorem Kept.gOutUnexpected (h : Kept s t) : Kept s t.gOutUnexpected :=
  (Kept.ite (h.requestPlacement rfl) h).journal

theorem setFleetState_trk (s : State) (n : Nat) (st : FleetState) : (s.setFleetState n st).trk = s.trk :=
  (setFleetState_changes s n st).trk_eq

theorem Kept.gOut (h : Kept s t) : Kept s t.gOut := by
  unfold State.gOut
  split
  · exact h.gOutUnexpected
  split
  · exact h.endInsertion.gOutUnexpected
  split
  · exact h.setFleetState.endInsertion
  split
  · exact h.refusePlacement.setFleetState.endInsertion
  · next hroom =>
    refine Kept.endInsertion (Kept.journal (h.setFleetState.place ?_ ?_))
    · simpa [State.trackFull, setFleetState_trk] using hroom
    · rw [setFleetState_trk]
      rfl

theorem Kept.insertionExpires (h : Kept s t) : Kept s t.insertionExpires := by
  unfold State.insertionExpires
  split
  · exact h
  · exact h.endInsertion

theorem Kept.latchChange (h : Kept s t) {active : Bool} : Kept s (t.latchChange active) := by
  refine .ite h (Kept.gateEvent (Kept.endNotProven (.ite (h.updPins.updTrk ?_) h.updPins)))
  rw [List.map_map]
  refine List.map_congr_left fun e _ => ?_
  simp only [Function.comp_apply]
  split <;> rfl

theorem Kept.proofExpires (h : Kept s t) : Kept s t.proofExpires := .ite h.updLch.raiseCause h

theorem Kept.launchWindow (h : Kept s t) : Kept s t.launchWindow := by
  unfold State.launchWindow
  exact h.updLch.gateEvent.updLch

end

end Sys2Proof.Machine
end

section
/-! PROOF. Rope, stations, line, setup store, orders, resets and every step keep the tables' sizes and the names in order
(R100, R104, R109, R116, R126, R172, R177). -/

namespace Sys2Proof.Machine

-- One lemma at a time, as in Laws/State.lean.
set_option Elab.async false

open Sys2Proof

section
variable {s t : State} {a : Nat}

/-! # Rope -/

theorem Kept.windowTime (h : Kept s t) : Kept s t.windowTime := ⟨{ h with }, h.count⟩

theorem Kept.tachoFollow (h : Kept s t) : Kept s t.tachoFollow :=
  .ite (.ite h.updRpm.endCause h) (.ite h.updRpm.raiseCause h)

theorem Kept.setStandstill (h : Kept s t) {b : Bool} : Kept s (t.setStandstill b) := .ite h h.updRpm.journal

theorem Kept.standstillCount (h : Kept s t) : Kept s t.standstillCount :=
  .ite h.updRpm.setStandstill h.updRpm.setStandstill

theorem Kept.sideFollow (h : Kept s t) {code : CauseCode} {category : Category} {index : Nat} {held outside : Bool}
    (hplain : code.isPlain = true := by decide)
    (hlimit : category = .limit → code.categories = [.limit] := by decide) :
    Kept s (t.sideFollow code category index held outside) :=
  .ite (h.raiseCause hplain hlimit) (.ite h.endCause h)

theorem Kept.thresholds (h : Kept s t) {p : Nat} : Kept s (t.thresholds p) :=
  h.updRpm.sideFollow.sideFollow.sideFollow.sideFollow

theorem Kept.tensionSample (h : Kept s t) {n : Nat} : Kept s (t.tensionSample n) :=
  .ite (h.updRpm.when (·.endCause)).thresholds (h.updRpm.when (·.raiseCause))

theorem Kept.ropeWindow (h : Kept s t) {n : Nat} : Kept s (t.ropeWindow n) :=
  h.windowTime.updRpm.tachoFollow.standstillCount.tensionSample

theorem Kept.pulse (h : Kept s t) {x : Tach} : Kept s (t.pulse x) := by
  unfold State.pulse
  split
  · exact h.updRpm
  · exact h.updRpm

theorem Kept.setLoop (h : Kept s t) {l : RopeLoop} {u : LoopUnit} : Kept s (t.setLoop l u) := h.updRpm

theorem Kept.loopInput (h : Kept s t) {l : RopeLoop} {closed : Bool} : Kept s (t.loopInput l closed) := by
  unfold State.loopInput
  split
  · exact h
  dsimp only
  split
  case h_5 => exact h.updPins
  all_goals exact h.updPins.setLoop

theorem Kept.loopExpiry (h : Kept s t) {l : RopeLoop} : Kept s (t.loopExpiry l) := by
  unfold State.loopExpiry
  split
  · exact h.setLoop.raiseCause
  · exact h.setLoop.endCause
  · exact h

/-! # Stations -/

theorem Kept.tellStation (h : Kept s t) {new : StationState} : Kept s (t.tellStation a new) := by
  cases new with
  | silent | excluded => exact h.stationUnavailable
  | unheard | live => exact h

theorem Kept.silentCause (h : Kept s t) {old new : StationState} : Kept s (t.silentCause a old new) :=
  .ite (.ite h.raiseCause h) (.ite h.endCause h)

theorem Kept.setStation (h : Kept s t) {new : StationState} {e : StationEvent} : Kept s (t.setStation a new e) :=
  h.updStation.journal.tellStation.silentCause

theorem Kept.silenceExpires (h : Kept s t) : Kept s (t.silenceExpires a) := .ite h.setStation h

/-- A change of every station's record that keeps its sheaves. -/
theorem Kept.mapStations (h : Kept s t) {f : StationRec → StationRec}
    (hf : ∀ r, (f r).sheaves = r.sheaves ∧ (f r).sheaveActive = r.sheaveActive := by exact fun _ => ⟨rfl, rfl⟩) :
    Kept s (t.updStn fun k => { k with records := k.records.map f }) := by
  refine ⟨{ h with stations := fun hs => ?_ }, h.count⟩
  obtain ⟨hn, hr⟩ := h.stations hs
  refine ⟨(List.length_map ..).trans hn, fun r hmem => ?_⟩
  obtain ⟨x, hx, rfl⟩ := List.mem_map.mp hmem
  rw [(hf x).1, (hf x).2]
  exact hr x hx

theorem Kept.stationsBreakBegin (h : Kept s t) : Kept s t.stationsBreakBegin := h.mapStations

theorem Kept.stationsBreakEnd (h : Kept s t) : Kept s t.stationsBreakEnd := h.foldl (fun _ _ hu => hu.updStation) _

theorem Kept.hear (h : Kept s t) : Kept s (t.hear a) := h.updStation.updHeld

theorem Kept.noteUnexpected (h : Kept s t) : Kept s (t.noteUnexpected a) := .ite h h.updStation.journal

theorem Kept.frameState (h : Kept s t) {report : Bool} : Kept s (t.frameState a report) := by
  unfold State.frameState
  split
  · exact h.setStation
  · exact h.updStation
  · exact .ite h.setStation h
  · exact h

theorem Kept.stationFrame (h : Kept s t) {report : Bool} : Kept s (t.stationFrame a report) :=
  .ite h.hear.frameState h.hear.noteUnexpected

theorem Kept.sheaveFollow (h : Kept s t) {n : Nat} {r : SheaveState} : Kept s (t.sheaveFollow a n r) := by
  have hset : ∀ b, Kept s (t.updStation a fun r => { r with sheaveActive := r.sheaveActive.set n b }) := fun b =>
    h.updStation fun r hr => ⟨hr.1, (List.length_set ..).trans hr.2⟩
  exact .ite (hset _).raiseCause (.ite (hset _).endCause (hset _))

/-- A REMOTE_TRIP of a station has the category of its index, from 16 up that of FAST (R116). -/
theorem Kept.requestRaise (h : Kept s t) (ha : a < 16) {category : Category} {was wanted : Bool}
    (hcategory : category = .service ∨ category = .fast) : Kept s (t.requestRaise a category was wanted) := by
  refine .ite (h.raiseAdmitted ⟨fun hspeed => absurd hspeed (by decide), fun _ => ?_⟩ ?_) h
  · rcases hcategory with rfl | rfl
    · simp [remoteIndex, ha]
    · simp [remoteIndex]
  · rcases hcategory with rfl | rfl <;> exact fun hlimit => nomatch hlimit

theorem Kept.requestEnd (h : Kept s t) {category : Category} {was wanted : Bool} :
    Kept s (t.requestEnd a category was wanted) := .ite h.endCause h

theorem length_recordSheaves {count : Nat} {old report : List SheaveState} (hold : old.length = 4)
    (hreport : report.length = 4) : (recordSheaves count old report).length = 4 := by
  simp only [recordSheaves, List.length_append, List.length_take, List.length_drop]
  omega

theorem Kept.recordStatus (h : Kept s t) {n : Nat} {b0 b1 : Byte} :
    Kept s (t.updStation a (Machine.recordStatus n b0 b1)) :=
  h.updStation fun _ hr => ⟨length_recordSheaves hr.1 rfl, hr.2⟩

theorem Kept.faultChange (h : Kept s t) {was now : Bool} : Kept s (t.faultChange a was now) := .ite h h.journal

theorem Kept.takeStatus (h : Kept s t) (ha : a < 16) {b0 b1 : Byte} : Kept s (t.takeStatus a b0 b1) := by
  refine .ite h (.ite h.recordStatus (Kept.faultChange (Kept.requestEnd (Kept.requestEnd ?_))))
  exact ((h.recordStatus.foldl (fun _ _ hu => hu.sheaveFollow) _).requestRaise ha (.inl rfl)).requestRaise ha (.inr rfl)

theorem Kept.addRequest (h : Kept s t) (ha : a < 16) {category : Category} : Kept s (t.addRequest a category) :=
  .ite (h.updStation.requestRaise ha (.inr rfl)) (h.updStation.requestRaise ha (.inl rfl))

theorem Kept.takeTrip (h : Kept s t) (ha : a < 16) {b0 b1 : Byte} : Kept s (t.takeTrip a b0 b1) :=
  .ite h (h.when (·.addRequest ha)).journal

theorem Kept.endStationCauses (h : Kept s t) : Kept s (t.endStationCauses a) := by
  unfold State.endStationCauses
  extract_lets s1 s2 s3
  have h1 : Kept s s1 := h.updStation fun _ hr => ⟨hr.1, List.length_replicate⟩
  have h2 : Kept s s2 := h1.endCause
  have h3 : Kept s s3 := h2.foldl (fun _ _ hu => hu.endCause) _
  exact h3.endCause.endCause

theorem Kept.excludeStation (h : Kept s t) : Kept s (t.excludeStation a).1 := by
  refine h.answeredOr (h.answeredOr (h.answeredOr (h.answeredOr ?_)))
  dsimp only
  exact h.setStation.endStationCauses.when (·.raiseCause)

theorem Kept.exclusionFollow (h : Kept s t) : Kept s t.exclusionFollow := .ite h.endCause h

theorem Kept.clearReports (h : Kept s t) : Kept s (t.updStation a Machine.clearReports) :=
  h.updStation fun _ hr => ⟨rfl, hr.2⟩

theorem Kept.includeStation (h : Kept s t) : Kept s (t.includeStation a).1 :=
  h.answeredOr (h.answeredOr (h.answeredOr h.setStation.clearReports.exclusionFollow))

theorem Kept.stationAppears (h : Kept s t) : Kept s (t.stationAppears a) := by
  unfold State.stationAppears
  exact Kept.updHeld (h.updStation fun _ hr => by exact ⟨List.length_replicate, hr.2⟩)

theorem Kept.stationVanishes (h : Kept s t) : Kept s (t.stationVanishes a) :=
  Kept.updStation (Kept.ite h.updStation h.setStation).stationUnavailable.endStationCauses fun _ hr => ⟨rfl, hr.2⟩

theorem Kept.dropSheaves (h : Kept s t) {m n : Nat} : Kept s (t.dropSheaves a m n) :=
  h.foldl (fun _ _ hu => Kept.endCause (hu.updStation fun _ hr =>
    ⟨(List.length_set ..).trans hr.1, (List.length_set ..).trans hr.2⟩)) _

theorem Kept.stationStays (h : Kept s t) {old : LinePlan} : Kept s (t.stationStays old a) :=
  .ite (.ite h.dropSheaves.raiseCause (.ite h.dropSheaves.endCause h.dropSheaves)) h.dropSheaves

theorem Kept.stationPlan (h : Kept s t) {old : LinePlan} : Kept s (t.stationPlan old a) := by
  unfold State.stationPlan
  split
  · exact h.stationAppears
  · exact h.stationVanishes
  · exact h.stationStays
  · exact h

theorem Kept.stationsUpdate (h : Kept s t) {old : LinePlan} : Kept s (t.stationsUpdate old) :=
  (h.foldl (fun _ _ hu => hu.stationPlan) _).when (·.exclusionFollow)

/-! # Line -/

theorem Kept.enterLine (h : Kept s t) {st : LineState} {m n : Nat} : Kept s (t.enterLine st m n) := h.updLnc

theorem Kept.endReception (h : Kept s t) : Kept s t.endReception := .ite h.enterLine h

theorem Kept.periodicEnd (h : Kept s t) {f : TxFrame} : Kept s (t.periodicEnd f) := .ite h.markFrames h.unqueue

theorem Kept.dropUndelivered (h : Kept s t) {f : TxFrame} : Kept s (t.dropUndelivered f) := by
  unfold State.dropUndelivered
  extract_lets s1 s2 s3
  have h3 : Kept s s3 := ((h.unqueue.when (·.updStation)).journal).pairUndelivered
  split
  · exact h3
  · exact h3.completeOrder

theorem Kept.attemptFailed (h : Kept s t) {f : TxFrame} {n : Nat} : Kept s (t.attemptFailed f n) :=
  .ite h.periodicEnd (.ite h.markFrames h.dropUndelivered)

theorem Kept.attemptDelivered (h : Kept s t) {f : TxFrame} : Kept s (t.attemptDelivered f) := by
  unfold State.attemptDelivered
  extract_lets s1 s2
  have h2 : Kept s s2 := .ite h.updLnc.periodicEnd h.updLnc.unqueue
  split
  · exact h2
  · exact h2.completeOrder

theorem Kept.idleGap (h : Kept s t) : Kept s t.idleGap := by
  unfold State.idleGap
  split
  · dsimp only
    split
    · exact h.enterLine.updLnc
    · exact h.enterLine.updLnc.attemptFailed
  · exact h

theorem Kept.startBit (h : Kept s t) {n : Nat} : Kept s (t.startBit n) := by
  unfold State.startBit
  split
  · exact h.updLnc
  · split
    · exact h.updLnc
    · exact h.updLnc
  · exact h

theorem Kept.transmit (h : Kept s t) : Kept s t.transmit := by
  unfold State.transmit
  split
  · split
    · exact h
    · next f rest hqueue =>
      refine h.updLnc (by simp [hqueue]) fun g hg => ?_
      rcases List.mem_cons.mp hg with rfl | hg
      · exact ⟨f, by simp [hqueue], rfl, rfl⟩
      · exact ⟨g, by simp [hqueue, hg], rfl, rfl⟩
  · exact h

theorem Kept.loseArbitration (h : Kept s t) : Kept s t.loseArbitration := .ite h.updLnc h

theorem Kept.bitErrorCut (h : Kept s t) : Kept s t.bitErrorCut := .ite h.updLnc.enterLine h

theorem Kept.ackOutcome (h : Kept s t) {b : Bool} : Kept s (t.ackOutcome b) := by
  unfold State.ackOutcome
  split
  · dsimp only
    split
    · exact h.updLnc.enterLine
    · exact .ite h.updLnc.enterLine.attemptDelivered h.updLnc.enterLine.attemptFailed
  · exact h

theorem Kept.countUnattributed (h : Kept s t) :
    Kept s (t.updLnc fun l => { l with unattributed := l.unattributed + 1 }) := h.updLnc

theorem Kept.countReceiveError (h : Kept s t) {sender : Option Nat} : Kept s (t.countReceiveError sender) := by
  cases sender with
  | none => exact h.countUnattributed
  | some a => exact .ite h.updStation h.countUnattributed

theorem Kept.receiveError (h : Kept s t) {sender : Option Nat} : Kept s (t.receiveError sender) :=
  h.countReceiveError.endReception

theorem addressOk_lt (h : addressOk a = true) : a < 16 := by
  simp only [addressOk, Bool.and_eq_true, decide_eq_true_eq] at h
  omega

/-- What a frame carries is taken from a station address alone. -/
theorem Kept.receive (h : Kept s t) {f : RxFrame} {report : Bool} {contents : State → State}
    (hcontents : f.sender < 16 → ∀ {u : State}, Kept s u → Kept s (contents u)) :
    Kept s (t.receive f report contents) := by
  unfold State.receive
  split
  · exact h.receiveError
  next hok =>
  have ha : f.sender < 16 := addressOk_lt (by simpa using (not_or.mp hok).2)
  exact .ite h.endReception (h.updLnc.stationFrame.when (hcontents ha)).endReception

theorem Kept.receiveStatus (h : Kept s t) {f : RxFrame} : Kept s (t.receiveStatus f) := by
  unfold State.receiveStatus
  split
  · exact h.receive fun ha _ hu => hu.takeStatus ha
  · exact h.receive fun _ _ hu => hu

theorem Kept.receiveTrip (h : Kept s t) {f : RxFrame} : Kept s (t.receiveTrip f) := by
  unfold State.receiveTrip
  split
  · exact h.receive fun ha _ hu => hu.takeTrip ha
  · exact h.receive fun _ _ hu => hu

theorem Kept.receiveNote (h : Kept s t) {f : RxFrame} : Kept s (t.receiveNote f) := by
  unfold State.receiveNote
  split
  · exact h.receive fun _ _ hu => .ite hu.journal hu
  · exact h.receive fun _ _ hu => hu

theorem Kept.receivePairReq (h : Kept s t) {f : RxFrame} : Kept s (t.receivePairReq f) := by
  unfold State.receivePairReq
  split
  · exact h.receive fun _ _ hu => hu.pairRequest
  · exact h.receive fun _ _ hu => hu

theorem Kept.receiveHook (h : Kept s t) {f : RxFrame} : Kept s (t.receiveHook f) := by
  unfold State.receiveHook
  split
  · exact h.receive fun _ _ hu => hu.hookFrame
  · exact h.receive fun _ _ hu => hu

theorem Kept.callsBreakBegin (h : Kept s t) : Kept s t.callsBreakBegin := h.updCal

theorem Kept.callsBreakEnd (h : Kept s t) : Kept s t.callsBreakEnd := h.updCal.announcePair

theorem Kept.beginBreak (h : Kept s t) {sender : Option Nat} : Kept s (t.beginBreak sender) :=
  .ite h (((h.updLnc.enterLine).raiseCause.when (·.countReceiveError)).stationsBreakBegin.callsBreakBegin)

theorem Kept.endBreak (h : Kept s t) : Kept s t.endBreak :=
  .ite h.enterLine.endCause.stationsBreakEnd.callsBreakEnd h

theorem Kept.statusPeriod (h : Kept s t) : Kept s t.statusPeriod := h.updLnc.askPeriodic

theorem Kept.timePeriod (h : Kept s t) : Kept s t.timePeriod := h.updLnc.askPeriodic

theorem Kept.waitExpires (h : Kept s t) {id : Nat} : Kept s (t.waitExpires id) := by
  unfold State.waitExpires
  split
  · exact h
  · exact .ite h.endCall h

theorem Kept.ringExpires (h : Kept s t) {id : Nat} : Kept s (t.ringExpires id) := by
  unfold State.ringExpires
  split
  · exact h
  · exact .ite h.endCall h

theorem Kept.reannounceExpires (h : Kept s t) : Kept s t.reannounceExpires := .ite h.updCal.announcePair h

theorem Kept.callSeconds (h : Kept s t) : Kept s t.callSeconds :=
  h.mapCalls (fun _ => rfl) fun hs hn r hr => (h.callNames hs hn).waiting r hr

/-! # Setup store -/

theorem Kept.usersTake (h : Kept s t) {old : Tables} {k : Nat} : Kept s (t.usersTake old k) := by
  unfold State.usersTake
  split
  · exact h.recomputeCeiling
  · exact h.recomputeCeiling
  · exact h.stationsUpdate
  · exact h

theorem Kept.adoptCopy (h : Kept s t) {k : Nat} {fs : List (Nat × Finding)} {copy : Tables} :
    Kept s (t.adoptCopy k fs copy) :=
  Kept.usersTake (Kept.journal (h.updSst (List.length_modify ..)))

theorem Kept.adopt (h : Kept s t) {k : Nat} : Kept s (t.adopt k).1 := by
  refine h.answeredOr (h.answeredOr (h.answeredOr (h.answeredOr ?_)))
  split
  · exact h
  · exact h
  · exact h.adoptCopy

theorem Kept.changeLock (h : Kept s t) {f : Lock → Except ResultCode Lock} {k : Nat} : Kept s (t.changeLock f k).1 := by
  unfold State.changeLock
  split
  · next l _ =>
    have hset : Kept s (t.updSst fun x => { x with locks := x.locks.set k l }) := h.updSst rfl List.length_set
    exact hset
  · exact h

theorem Kept.changeLocks (h : Kept s t) {f : Lock → Except ResultCode Lock} : Kept s (t.changeLocks f).1 :=
  List.foldlRecOn (motive := fun p : State × OrderResult => Kept s p.1) [0, 1, 2, 3, 4, 5] _ h
    fun _ hp _ _ => hp.changeLock

theorem Kept.unlock (h : Kept s t) {k : Nat} : Kept s (t.unlock k).1 := by
  unfold State.unlock
  split
  · exact h.changeLocks
  · exact h.answeredOr h.changeLock

theorem Kept.lock (h : Kept s t) {k level : Nat} : Kept s (t.lock k level).1 := by
  refine h.answeredOr ?_
  dsimp only
  split
  · exact h.changeLocks
  · exact h.changeLock

theorem Kept.keyChange (h : Kept s t) {active : Bool} : Kept s (t.keyChange active) :=
  .ite h.updPins (h.updPins.updSst rfl (List.length_map ..))

theorem updSet_revisions (t : Sst) (n : Nat) (f : UserSet → UserSet) : (t.updSet n f).revisions = t.revisions := by
  unfold Sst.updSet
  split <;> rfl

theorem updSet_locks (t : Sst) (n : Nat) (f : UserSet → UserSet) : (t.updSet n f).locks = t.locks := by
  unfold Sst.updSet
  split <;> rfl

theorem Kept.startSave (h : Kept s t) {k n : Nat} : Kept s (t.startSave k n) :=
  h.updSst (by rw [updSet_revisions]) (by rw [updSet_locks])

theorem Kept.saveDone (h : Kept s t) : Kept s t.saveDone := by
  unfold State.saveDone
  split
  · exact h
  · exact (h.updSst (by rw [updSet_revisions]) (by rw [updSet_locks])).journal.completeOrder

theorem Kept.loadSet (h : Kept s t) {n : Nat} : Kept s (t.loadSet n).1 := by
  refine h.answeredOr (h.answeredOr (h.answeredOr (h.answeredOr (h.answeredOr (h.answeredOr ?_)))))
  exact (Kept.journal (h.updSst (List.length_map ..))).foldl (fun _ _ hu => hu.usersTake) _

/-! # Order board -/

theorem Kept.barCabin (h : Kept s t) {n : Nat} : Kept s (t.barCabin n).1 := by
  unfold State.barCabin
  split
  · exact h.setBarred
  · exact h

theorem Kept.unbarCabin (h : Kept s t) {n : Nat} : Kept s (t.unbarCabin n).1 := h.answeredOr (h.answeredOr h.setBarred)

theorem Kept.garageCabin (h : Kept s t) {n : Nat} : Kept s (t.garageCabin n).1 := h.answeredOr (h.answeredOr h.setGarage)

/-- A rebuild that is not refused names no more than 16 entries (R21). -/
theorem length_le_of_rebuildRefusal {pairs : List (Nat × Nat)} (h : t.rebuildRefusal pairs = none) :
    pairs.length ≤ 16 := by
  unfold State.rebuildRefusal at h
  split at h
  · cases h
  split at h
  · cases h
  split at h
  · cases h
  · next hok =>
    have hpairs : t.pairsOk pairs = true := by simpa using hok
    simp only [State.pairsOk, Bool.and_eq_true, decide_eq_true_eq] at hpairs
    obtain ⟨⟨⟨⟨hlength, -⟩, -⟩, -⟩, -⟩ := hpairs
    exact hlength

theorem Kept.runShort (h : Kept s t) {o : Order} : Kept s (t.runShort o).1 := by
  cases o with
  | start => exact h.startOrder
  | stop => exact h.operatorCause
  | fastStop => exact h.operatorCause
  | resume => exact h.resumeOrder
  | setCeiling _ => exact h.setCeiling
  | ackCause _ _ => exact h.ackOrder
  | rebuildTrack _ =>
    unfold State.runShort
    dsimp only
    split
    · exact h
    · next hok => exact h.rebuild (length_le_of_rebuildRefusal hok)
  | barCabin _ => exact h.barCabin
  | unbarCabin _ => exact h.unbarCabin
  | garageCabin _ => exact h.garageCabin
  | setDriveMode _ _ => exact h.setDriveMode
  | haltDrive _ => exact h.haltDrive
  | excludeStation _ => exact h.excludeStation
  | includeStation _ => exact h.includeStation
  | answer _ => exact h.answerCall
  | hangUp _ => exact h.hangUpCall
  | adopt _ => exact h.adopt
  | unlock _ => exact h.unlock
  | lock _ _ => exact h.lock
  | loadSet _ => exact h.loadSet
  | setClock _ => exact h.updSst.journal
  | releaseCabin _ | stroke _ _ | sendNote _ _ _ | call _ _ | saveSet _ => exact h

/-- A SEND_NOTE that is not refused finds a place (R105). -/
theorem ordinaryPlace_of_noteRefusal {dest : Nat} {text : List Byte} (h : t.noteRefusal dest text = none) :
    ordinaryPlace t.lnc.queue = true := by
  unfold State.noteRefusal at h
  split at h
  · cases h
  split at h
  · cases h
  split at h
  · cases h
  · next hplace => simpa using hplace

theorem Kept.takeContext (h : Kept s t) {k slip : Nat} {o : Order} : Kept s (t.takeContext k slip o) :=
  Kept.setSlipState (Kept.updHeld (h.updObc (List.length_set ..)))

theorem takeContext_lnc (s : State) (k slip : Nat) (o : Order) : (s.takeContext k slip o).lnc = s.lnc :=
  (takeContext_changes s k slip o).lnc_eq

theorem Kept.startLong (h : Kept s t) {k : Nat} {o : Order}
    (hnote : ∀ dest code text, o = .sendNote dest code text → ordinaryPlace t.lnc.queue = true) :
    Kept s (t.startLong k o) := by
  cases o with
  | releaseCabin n => exact h.startRelease
  | stroke c d => exact h.startStrokeOrder
  | sendNote dest code text =>
    exact h.enqueue (fun _ => ordinaryPlace_room (hnote dest code text rfl)) fun htrip => nomatch htrip
  | call callee kind => exact h.placeCall
  | saveSet n => exact h.startSave
  | _ => exact h

theorem Kept.dispatchLong (h : Kept s t) {slip : Nat} {o : Order} : Kept s (t.dispatchLong slip o) := by
  unfold State.dispatchLong
  split
  · exact h.writeResult
  · split
    · exact h.writeResult
    · next hok =>
      refine h.takeContext.startLong fun dest code text ho => ?_
      subst ho
      rw [takeContext_lnc]
      exact ordinaryPlace_of_noteRefusal hok

theorem Kept.dispatch (h : Kept s t) {slip : Nat} {o : Order} : Kept s (t.dispatch slip o) :=
  .ite h.writeResult (.ite h.dispatchLong h.runShort.writeResult)

theorem Kept.takeSlip (h : Kept s t) {slip : Nat} {others : List Nat} : Kept s (t.takeSlip slip others) := by
  have hrefused : Kept s (others.foldl (fun u k => u.writeResult k (refusal .duplicateTicket)) t) :=
    h.foldl (fun _ _ hu => hu.writeResult) _
  unfold State.takeSlip
  dsimp only
  split
  · exact hrefused.writeResult.updObc
  · exact hrefused.dispatch.updObc

theorem Kept.taking {n : Nat} (h : Kept s t) : Kept s (State.taking n t) := by
  induction n generalizing t with
  | zero => exact h
  | succ n ih =>
    unfold State.taking
    split
    · exact h
    · exact ih h.takeSlip

/-! # Resets -/

/-- The blocks' reset states are in order, whatever the blocks were before. -/
theorem Kept.resetBlocks (h : Kept s t) : Kept s t.resetBlocks := by
  have hnone : ∀ {α : Type} {p : α → Prop}, ∀ x ∈ ([] : List α), p x := fun _ hx => nomatch hx
  refine ⟨{ track := fun _ => Nat.zero_le _, trackNames := fun _ => ⟨List.nodup_nil, hnone⟩, fleet := fun hs => ?_,
            queue := fun _ => Nat.zero_le _, trips := fun _ => hnone, calls := fun _ => Nat.zero_le _,
            callNames := fun _ _ => ⟨List.nodup_nil, ⟨Nat.le_refl 1, Nat.le_add_left 1 254, hnone⟩, hnone, hnone⟩,
            causeList := ⟨fun _ => Nat.zero_le _, fun _ => ⟨List.nodup_nil, hnone⟩, fun _ => hnone, fun _ => hnone⟩,
            contexts := fun _ => rfl, ring := h.ring, stations := fun _ => ?_, revisions := h.revisions,
            locks := fun _ => rfl }, fun _ => rfl⟩
  · exact (List.length_map ..).trans (h.fleet hs)
  · refine ⟨rfl, fun r hr => ?_⟩
    rcases List.mem_cons.mp hr with rfl | hr
    · exact ⟨rfl, rfl⟩
    · rw [List.eq_of_mem_replicate hr]
      exact ⟨rfl, rfl⟩

theorem Kept.resetStations (h : Kept s t) : Kept s t.resetStations :=
  h.updStation.foldl (fun _ _ hu => hu.updStation.when (·.updHeld)) _

theorem Kept.freeSlips (h : Kept s t) : Kept s t.freeSlips := h.foldl (fun _ _ hu => hu.setSlipState) _

theorem Kept.stationEntries (h : Kept s t) {old : Stn} : Kept s (t.stationEntries old) :=
  h.foldl (fun _ _ hu => .ite hu hu.journal) _

theorem Kept.driveOffAtReset (h : Kept s t) {c : Channel} : Kept s (t.driveOffAtReset c) := .ite h.raiseCause h

theorem Kept.resetEntry (h : Kept s t) : Kept s t.resetEntry := h.journal

theorem Kept.resetEvents (h : Kept s t) {b : BeforeReset} {invalid : Option Nat} :
    Kept s (t.resetEvents b invalid) := by
  unfold State.resetEvents
  extract_lets s1 s2 s3 s4 s5 s6 s7 s8
  have h1 : Kept s s1 := h.resetEntry.raiseCause
  have h3 : Kept s s3 := h1.journal.driveOffAtReset.driveOffAtReset
  have h5 : Kept s s5 := (h3.when (·.journal)).stationEntries
  have h7 : Kept s s7 := (h5.when (·.journal)).when (·.setNews)
  have h8 : Kept s s8 := by
    cases invalid with
    | none => exact h7
    | some n => exact h7.journal
  exact h8.setNews.statusPeriod.timePeriod

theorem Kept.warmReset (h : Kept s t) {kind : ResetKind} : Kept s (t.warmReset kind) := by
  unfold State.warmReset
  exact h.updSst.resetBlocks.resetStations.freeSlips.resetEvents

theorem Kept.powerReset (h : Kept s t) {held : Bool} {seconds : DWord} {ms : Nat} :
    Kept s (t.powerReset held seconds ms) := by
  unfold State.powerReset
  have hstore : Kept s { t with
      mem := [], held := {}, fleet := List.replicate 96 {}, obc := {}
      sst := t.sst.afterPower (t.sst.clock.afterPower held seconds ms t.now) } :=
    ⟨{ h with fleet := fun _ => rfl, contexts := fun _ => rfl, ring := fun _ => Nat.zero_le _,
              revisions := fun _ => rfl, locks := h.locks }, h.count⟩
  exact hstore.resetBlocks.resetStations.resetEvents

/-! # Host writes -/

theorem Kept.disarm (h : Kept s t) : Kept s t.disarm := h.updObc

theorem Kept.arm (h : Kept s t) : Kept s t.arm := h.updObc

theorem Kept.clearNews (h : Kept s t) {w : Word} : Kept s (t.clearNews w) := ⟨{ h with }, h.count⟩

theorem Kept.replaceEnable (h : Kept s t) {w : Word} : Kept s (t.replaceEnable w) := ⟨{ h with }, h.count⟩

theorem Kept.controlReset (h : Kept s t) : Kept s t.controlReset := .ite h.warmReset h

theorem Kept.storeWord (h : Kept s t) {n : Nat} {w : Word} : Kept s (t.storeWord n w) := h.updMem

theorem Kept.hostReadCount (h : Kept s t) {w : Word} : Kept s (t.hostReadCount w) := by
  unfold State.hostReadCount
  exact h.disarm.storeWord.updObc

theorem Kept.memoryWrite (h : Kept s t) {n : Nat} {w : Word} : Kept s (t.memoryWrite n w) :=
  .ite h.hostReadCount (.ite h.disarm.storeWord h.disarm)

theorem Kept.controlWrite (h : Kept s t) {w : Word} : Kept s (t.controlWrite w) :=
  .ite h.arm (.ite h.controlReset h.disarm)

/-! # Every step -/

theorem Kept.boundaryEdge (h : Kept s t) {edge : EdgeAt} : Kept s (t.boundaryEdge edge) := by
  cases edge with
  | b5 => exact h.updPins.edgeAt.endGripTest
  | b1 | b2 | b3 | b6 => exact h.edgeAt

/-- An outcome whose next state, if it answers one, keeps the tables in order. -/
def NextKept (s : State) (o : Host.Outcome State Fault Refusal) : Prop := ∀ t, o = .next t → Kept s t

theorem nextKept_next : NextKept s (.next t) ↔ Kept s t := ⟨fun h => h t rfl, fun h _ heq => by cases heq; exact h⟩

theorem Kept.done {u : State} (h : Kept s t) : NextKept s (.next (Machine.finish u t)) := nextKept_next.mpr h.updObc

theorem exec_kept (h : Kept s t) : ∀ i : Instr, NextKept s (exec i t)
  | .start .. | .stop .. | .fastStop .. | .resume .. | .setCeiling .. | .ackCause .. | .rebuildTrack .. | .barCabin ..
  | .unbarCabin .. | .garageCabin .. | .releaseCabin .. | .setDriveMode .. | .haltDrive .. | .stroke .. | .sendNote ..
  | .excludeStation .. | .includeStation .. | .call .. | .answer .. | .hangUp .. | .adopt .. | .unlock .. | .lock ..
  | .loadSet .. | .saveSet .. | .setClock .. => h.dispatch.done
  | .postWrite _ => h.disarm.taking.done
  | .newsWrite _ => h.disarm.clearNews.done
  | .enableWrite _ => h.disarm.replaceEnable.done
  | .resetSequenceArm => h.arm.done
  | .controlReset => h.controlReset.done
  | .hostReadCountWrite _ => h.hostReadCount.done
  | .hostMemoryWrite .control _ => h.controlWrite.done
  | .hostMemoryWrite (.memory _) _ => by
    unfold exec execHostMemoryWrite
    dsimp only
    split
    · exact fun _ heq => nomatch heq
    split
    · exact fun _ heq => nomatch heq
    · exact h.memoryWrite.done
  | .powerUp .. => nextKept_next.mpr h.powerReset
  | .pinReset => h.warmReset.done
  | .arrival => h.edgeB0.done
  | .tagFrame _ => (h.foldl (fun _ _ hu => hu.tagByte) _).done
  | .tagByteGapTimeout => h.tagGap.done
  | .boundaryEdge _ => h.boundaryEdge.done
  | .cabinAtGate => h.edgeB4.done
  | .b4Falling => h.b4Falling.done
  | .b5Rising => h.b5Rising.done
  | .gInRising => h.gIn.done
  | .gOutRising => h.gOut.done
  | .latchChange _ => h.latchChange.done
  | .proofTimerExpiry => h.proofExpires.done
  | .insertionTimeout => h.insertionExpires.done
  | .openLimActive .. => (h.updPins.when (·.openLimit)).done
  | .closedLimActive .. => (h.updPins.when (·.closedLimit)).done
  | .obstrActive .. => (h.updPins.when (·.obstructed)).done
  | .openTimeExpiry _ | .closeTimeExpiry _ | .reverseTimeExpiry _ => h.strokeTimeout.done
  | .tachPulse _ => h.pulse.done
  | .ropeWindowEnd _ => h.ropeWindow.done
  | .trackWindowEnd => h.trackWindow.done
  | .launchWindowEnd => h.launchWindow.done
  | .supervisorWindowEnd => h.supervisorWindow.done
  | .loopInputChange .. => h.loopInput.done
  | .loopTimerExpiry _ => h.loopExpiry.done
  | .chainSenseChange _ => h.chainSenseChange.done
  | .setupKeyChange _ => h.keyChange.done
  | .saveSetDone => h.saveDone.done
  | .clockSecond => (h.updSst : Kept s t.clockSecond).done
  | .idleGapReached => h.idleGap.done
  | .transmitAttempt => h.transmit.done
  | .arbitrationLoss => h.loseArbitration.done
  | .bitError => h.bitErrorCut.done
  | .ackSlotOutcome _ => h.ackOutcome.done
  | .receiveError _ => h.receiveError.done
  | .tripReceived _ => h.receiveTrip.done
  | .statusReceived _ => h.receiveStatus.done
  | .noteReceived _ => h.receiveNote.done
  | .pairReqReceived _ => h.receivePairReq.done
  | .hookReceived _ => h.receiveHook.done
  | .otherFrameReceived .. => (h.receive fun _ _ hu => hu).done
  | .breakBegin _ => h.beginBreak.done
  | .breakEnd => h.endBreak.done
  | .statusTimerExpiry => h.statusPeriod.done
  | .timeTimerExpiry => h.timePeriod.done
  | .silenceTimerExpiry _ => h.silenceExpires.done
  | .waitTimerExpiry _ => h.waitExpires.done
  | .ringTimerExpiry _ => h.ringExpires.done
  | .reannounceTimerExpiry => h.reannounceExpires.done
  | .gripForceSample _ => h.forceSample.done
  | .startBitReceived _ => h.startBit.done
  | .callViewTimerSecond => h.callSeconds.done

/-- A step idles, which moves the time base alone, or runs the command at the front of the queue. -/
theorem step_kept (h : Kept s t) : NextKept s (step t) := by
  unfold step
  split
  · exact Kept.done ⟨{ h with }, h.count⟩
  · next c rest _ =>
    have hrest : Kept s { t with pending := rest } := ⟨{ h with }, h.count⟩
    exact exec_kept hrest c

end

end Sys2Proof.Machine
end

section
/-! PROOF. Every step keeps the tables, the names and terminal memory in order (O58, O59). -/

namespace Sys2Proof.Machine

-- One lemma at a time, as in Laws/State.lean.
set_option Elab.async false

open Sys2Proof

section
variable {s t : State}

theorem Kept.sized (h : Kept s t) (hs : s.Sized) : t.Sized := by
  obtain ⟨htrack, hfleet, hqueue, hcalls, hcauses, hcontexts, hring, hstations, hsheaves, hrevisions, hlocks⟩ := hs
  have hk := h.stations ⟨hstations, hsheaves⟩
  exact ⟨h.track htrack, h.fleet hfleet, h.queue hqueue, h.calls hcalls, h.causeList.length hcauses,
    h.contexts hcontexts, h.ring hring, hk.stations, hk.sheaves, h.revisions hrevisions, h.locks hlocks⟩

/-- The mark of an active speed cause, in the words of `State.Named` (R160). -/
theorem Msv.namesOk_iff {m : Msv} : m.NamesOk ↔ (m.causes.map fun c => (c.code, c.index)).Nodup ∧
    ∀ c ∈ m.causes, c.sub ≠ .clearedUnacked →
      (c.code = .overspeed → c.index = 0 ∧ m.overspeed = true) ∧
      (c.code = .decelFail → c.index = 0 ∧ m.decelFail = true) ∧
      (c.code = .ropeCreep → c.index = 0 ∧ m.ropeCreep = true) := by
  constructor
  · rintro ⟨hidentity, hspeed⟩
    refine ⟨hidentity, fun c hc hsub => ⟨fun hcode => ?_, fun hcode => ?_, fun hcode => ?_⟩⟩
    all_goals simpa [hcode, Msv.speedActive] using hspeed c hc hsub (hcode ▸ rfl)
  · rintro ⟨hidentity, hspeed⟩
    refine ⟨hidentity, fun c hc hsub hcode => ?_⟩
    obtain ⟨hover, hdecel, hcreep⟩ := hspeed c hc hsub
    cases hc' : c.code <;> simp only [hc', CauseCode.isSpeed, Bool.false_eq_true] at hcode
    · exact hover hc'
    · exact hdecel hc'
    · exact hcreep hc'

theorem Kept.named (h : Kept s t) (hsized : s.Sized) (hcauses : s.CausesOk) (hs : s.Named) : t.Named := by
  obtain ⟨hentries, hfresh, hz3, hcalls, hnext, hrange, hwaiting, hspeed⟩ := hs
  have htrack := h.trackNames ⟨hentries, hfresh⟩
  have hcal := h.callNames hsized.calls ⟨hcalls, hnext, hrange, hwaiting⟩
  have hmsv := Msv.namesOk_iff.mp (h.causeList.names (Msv.namesOk_iff.mpr ⟨hcauses.identity, hspeed⟩))
  exact ⟨htrack.distinct, htrack.fresh, h.count hz3, hcal.distinct, hcal.next, hcal.range, hcal.waiting, hmsv.2⟩

theorem Kept.consistent (h : Kept s t) (hs : s.Consistent) : t.Consistent :=
  ⟨h.causeList.remote hs.remote, h.causeList.limits hs.limits, h.trips hs.trips⟩

/-- An idle step leaves terminal memory as it is, and a step with commands waiting runs the front one. -/
theorem step_cases (hstep : step s = .next t) :
    (s.pending = [] ∧ t.mem = s.mem) ∨
      ∃ c rest, s.pending = c :: rest ∧ exec c { s with pending := rest } = .next t := by
  unfold step at hstep
  split at hstep
  · next hnil => cases hstep; exact .inl ⟨hnil, rfl⟩
  · next c rest hcons => exact .inr ⟨c, rest, hcons, hstep⟩

end

/-- Settles O58: sizes by the relation every operation keeps, terminal memory by the frame of the command that ran. -/
theorem stepsKeepTablesAndMemory : Obligations.StepsKeepTablesAndMemory := by
  intro s t hstep
  refine ⟨(step_kept (.refl s) t hstep).sized, ?_⟩
  obtain ⟨hnil, hmem⟩ | ⟨c, rest, hcons, hexec⟩ := step_cases hstep
  · exact ⟨fun hw => hmem ▸ hw, fun _ => (keepsCells_of_mem_eq hmem).boardOnly⟩
  · refine ⟨fun hw => exec_wf (s := { s with pending := rest }) hw hexec, fun hother => ?_⟩
    rw [hcons] at hother
    exact (exec_keepsCells (s := { s with pending := rest }) (by simpa using hother) hexec).boardOnly

/-- Settles O59: names and counts by the relation every operation keeps. -/
theorem stepsKeepNamesInOrder : Obligations.StepsKeepNamesInOrder := by
  intro s t hstep
  have hkept := step_kept (.refl s) t hstep
  exact ⟨hkept.named, hkept.consistent⟩

end Sys2Proof.Machine
end

section
/-! PROOF. Reading rules for fleet records, track entries, orders and the frames of carried-out commands: what the statements
about single commands share. -/

namespace Sys2Proof.Machine

-- One lemma at a time, as in Laws/State.lean.
set_option Elab.async false

open Sys2Proof

/-! ## Frames of commands -/

/-- The bookkeeping at the end of a command stays in every frame. -/
theorem ChangesOnly.finish {s t u : State} {ps : List Part} (h : ChangesOnly s ps t) :
    ChangesOnly s ps (Machine.finish u t) := h.then (finish_changes u t) (List.nil_subset _)

/-- An update that gives a block the value it has changes nothing. -/
theorem State.updTrk_eq_self {s : State} {f : Trk → Trk} (h : f s.trk = s.trk) : s.updTrk f = s := by
  simp only [State.updTrk, h]

theorem State.updLch_eq_self {s : State} {f : Lch → Lch} (h : f s.lch = s.lch) : s.updLch f = s := by
  simp only [State.updLch, h]

theorem State.updTrk_updTrk (s : State) (f g : Trk → Trk) : (s.updTrk f).updTrk g = s.updTrk (g ∘ f) := rfl

/-! ## Fleet records (R23) -/

section
variable (s : State)

theorem fleetRec_congr {s t : State} (h : t.fleet = s.fleet) (n : Nat) : t.fleetRec n = s.fleetRec n := by
  simp only [State.fleetRec, h]

@[simp] theorem updFleetRec_zero (f : FleetRec → FleetRec) : s.updFleetRec 0 f = s := rfl

theorem fleetRec_updFleetRec_same {n : Nat} (f : FleetRec → FleetRec) (h0 : 0 < n) (hn : n ≤ s.fleet.length) :
    (s.updFleetRec n f).fleetRec n = f (s.fleetRec n) := by
  have hne : n ≠ 0 := by omega
  have hlt : n - 1 < s.fleet.length := by omega
  simp [State.updFleetRec, State.fleetRec, hne, hlt]

theorem fleetRec_updFleetRec_ne {k n : Nat} (f : FleetRec → FleetRec) (h : k ≠ n) :
    (s.updFleetRec n f).fleetRec k = s.fleetRec k := by
  unfold State.updFleetRec State.fleetRec
  split_ifs with hk hn
  · rfl
  · rfl
  · have hindex : ¬ n - 1 = k - 1 := by omega
    simp [hindex]

theorem updFleetRec_fleet_length (n : Nat) (f : FleetRec → FleetRec) :
    (s.updFleetRec n f).fleet.length = s.fleet.length := by
  unfold State.updFleetRec
  split
  · rfl
  · exact List.length_modify ..

/-! ## Track entries (R2) -/

theorem entry_congr {s t : State} (h : t.trk.entries = s.trk.entries) (u : Nat) : t.entry u = s.entry u := by
  simp only [State.entry, h]

theorem frontOf_congr {s t : State} (h : t.trk.entries = s.trk.entries) (z : Nat) : t.frontOf z = s.frontOf z := by
  simp only [State.frontOf, h]

theorem mem_of_frontOf {s : State} {z : Nat} {e : TrackEntry} (h : s.frontOf z = some e) : e ∈ s.trk.entries :=
  List.mem_of_find?_eq_some h

theorem zone_of_frontOf {s : State} {z : Nat} {e : TrackEntry} (h : s.frontOf z = some e) : e.zone = z := by
  simpa using List.find?_some h

theorem mem_of_entry {s : State} {u : Nat} {e : TrackEntry} (h : s.entry u = some e) : e ∈ s.trk.entries :=
  List.mem_of_find?_eq_some h

theorem uid_of_entry {s : State} {u : Nat} {e : TrackEntry} (h : s.entry u = some e) : e.uid = u := by
  simpa using List.find?_some h

/-- Names are distinct, so an entry of the track is the entry of its name. -/
theorem entry_of_mem {s : State} (hnodup : (s.trk.entries.map (·.uid)).Nodup) {e : TrackEntry}
    (he : e ∈ s.trk.entries) : s.entry e.uid = some e := by
  unfold State.entry
  cases hfind : s.trk.entries.find? (·.uid = e.uid) with
  | none =>
    have := List.find?_eq_none.mp hfind e he
    simp at this
  | some x =>
    have hx : x.uid = e.uid := by simpa using List.find?_some hfind
    rw [List.inj_on_of_nodup_map hnodup (List.mem_of_find?_eq_some hfind) he hx]

/-- Changing an entry of a name changes what is read under that name, and nothing else. -/
theorem entry_updEntry (u v : Nat) {f : TrackEntry → TrackEntry} (hf : ∀ e, (f e).uid = e.uid) :
    (s.updEntry u f).entry v = if v = u then (s.entry v).map f else s.entry v := by
  have hpred : ((fun x : TrackEntry => decide (x.uid = v)) ∘ fun e => if e.uid = u then f e else e) =
      fun x => decide (x.uid = v) := by
    funext e
    simp only [Function.comp_apply]
    split
    · rw [hf]
    · rfl
  simp only [State.entry, State.updEntry, State.updTrk_trk, List.find?_map, hpred]
  split
  · next h =>
    subst h
    cases hfind : s.trk.entries.find? (·.uid = v) with
    | none => rfl
    | some x =>
      have hx : x.uid = v := by simpa using List.find?_some hfind
      simp [hx]
  · next h =>
    cases hfind : s.trk.entries.find? (·.uid = v) with
    | none => rfl
    | some x =>
      have hx : x.uid = v := by simpa using List.find?_some hfind
      simp [hx, h]

theorem entry_updEntry_same {u : Nat} {f : TrackEntry → TrackEntry} (hf : ∀ e, (f e).uid = e.uid) :
    (s.updEntry u f).entry u = (s.entry u).map f := by
  rw [entry_updEntry s u u hf, if_pos rfl]

/-! ## Short orders (R171) -/

theorem dispatch_short {s : State} {slip : Nat} {o : Order} (hlong : o.isLong = false)
    (hstandby : s.msv.state ≠ .standby ∨ o.takenInStandby = true) :
    s.dispatch slip o = (s.runShort o).1.writeResult slip (s.runShort o).2 := by
  unfold State.dispatch
  rw [if_neg (by rintro ⟨h1, h2⟩; rcases hstandby with h | h <;> contradiction), if_neg (by simp [hlong])]

/-- What a short order leaves in its slip, once its block carried it out. -/
theorem answered_of_writeResult {t u : State} {slip : Nat} {r : OrderResult} (hslip : slip < 32)
    (hdata : r.data.length ≤ 16) (hwf : Memory.wf t.mem = true) :
    (Machine.finish u (t.writeResult slip r)).Answered slip r :=
  (writeResult_answered t slip r hslip hdata hwf).1

end

/-! ## The Z3 count (R78) -/

theorem z3Changed_of_countOk {s : State} (h : s.CountOk) : s.z3Changed = s := if_pos h.symm

/-! ## Small lists of a change of entries -/

theorem countZ3_updTrk (s : State) (f : Trk → Trk) :
    (s.updTrk f).countZ3 = (f s.trk).entries.countP (·.zone = 3) := rfl

end Sys2Proof.Machine
end

section
/-! PROOF. Arrivals, the tag reader and edges taken while LOST (O1 to O4; R7, R9 to R13, R194). -/

namespace Sys2Proof.Machine

-- One lemma at a time, as in Laws/State.lean.
set_option Elab.async false

open Sys2Proof

/-! ## Arrivals (R3, R9, R13) -/

/-- An entry of zone 0 is placed at the back (R3). -/
theorem insertEntry_back {e : TrackEntry} (he : e.zone = 0) (l : List TrackEntry) : insertEntry e l = l ++ [e] := by
  induction l with
  | nil => rfl
  | cons x rest ih => rw [insertEntry, if_pos (he ▸ Nat.zero_le _), ih, List.cons_append]

theorem closeWindow_of_none {s : State} (h : s.trk.window = none) : s.closeWindow = s := by
  simp [State.closeWindow, h]

/-- An arrival that keeps its spacing sets the distance of the last one alone (R13). -/
theorem arrivalSpacing_of_kept {s : State}
    (h : ∀ d, s.trk.lastArrival = some d → s.sst.active.zone.arrivalMin * 10 ≤ (s.rpm.dist - d).toNat) :
    s.arrivalSpacing = s.updTrk fun t => { t with lastArrival := some s.rpm.dist } := by
  unfold State.arrivalSpacing
  cases hlast : s.trk.lastArrival with
  | none => rfl
  | some d =>
    dsimp only
    rw [if_neg (not_lt.mpr (h d hlast))]

/-- A plain arrival (R9): a place is free, no tag window is open and the spacing is kept. -/
theorem arrive_plain {s : State} (hroom : s.trk.entries.length < 16) (hwindow : s.trk.window = none)
    (hcount : s.CountOk)
    (hspacing : ∀ d, s.trk.lastArrival = some d → s.sst.active.zone.arrivalMin * 10 ≤ (s.rpm.dist - d).toNat) :
    s.arrive = s.updTrk fun t =>
      { t with entries := t.entries ++ [s.newEntry 0 0 .latched], window := some ⟨s.trk.nextUid, false⟩
               lastArrival := some s.rpm.dist, nextUid := t.nextUid + 1 } := by
  have hplace : s.place (s.newEntry 0 0 .latched) = s.updTrk fun t =>
      { t with entries := t.entries ++ [s.newEntry 0 0 .latched], nextUid := t.nextUid + 1 } := by
    unfold State.place
    rw [z3Changed_of_countOk]
    · simp only [insertEntry_back (e := s.newEntry 0 0 .latched) rfl]
    · have hzone : (s.newEntry 0 0 .latched).zone = 0 := rfl
      simpa [State.CountOk, State.countZ3, insertEntry_back hzone, hzone] using hcount
  have hfull : s.trackFull = false := by simpa [State.trackFull] using hroom
  unfold State.arrive
  rw [hfull, if_neg (by simp), closeWindow_of_none hwindow]
  dsimp only
  rw [hplace, arrivalSpacing_of_kept (by exact hspacing)]
  rfl

/-- Settles O1: the branches of a plain arrival. -/
theorem arrivalPlacesEntryAtBack : Obligations.ArrivalPlacesEntryAtBack := by
  intro s htracking hmoving hroom hwindow hcount hspacing
  have hedge : s.edgeB0 = s.arrive := by simp [State.edgeB0, htracking, hmoving]
  have harrive := arrive_plain hroom hwindow hcount hspacing
  refine ⟨finish s s.edgeB0, rfl, ?_, ?_⟩
  · rw [finish_trk, hedge, harrive]
    rfl
  · rw [hedge, harrive]
    exact (updTrk_changes s _).finish

/-! ## Edges while LOST (R7) -/

theorem edgeAt_lost {s : State} (h : s.trk.state = .lost) (n : Nat) : s.edgeAt n = s.countEdge n := if_pos h

theorem endGripTest_of_not_sampling {s : State} (h : s.lch.sampling = false) : s.endGripTest = s := by
  simp [State.endGripTest, h]

/-- Settles O2: each edge takes the branch of a LOST track. -/
theorem lostEdgesAreCounted : Obligations.LostEdgesAreCounted := by
  intro s hlost
  refine ⟨⟨finish s s.edgeB0, rfl, ?_, ?_⟩, fun edge hsampling => ?_, ⟨finish s s.edgeB4, rfl, ?_, ?_⟩⟩
  · simp [State.edgeB0, hlost, State.countEdge]
  · rw [State.edgeB0, if_pos hlost]
    exact (countEdge_changes s 0).finish
  · cases edge with
    | b5 =>
      refine ⟨finish s (s.boundaryEdge .b5), rfl, ?_⟩
      have hcount : s.boundaryEdge .b5 = (s.updPins fun p => { p with b5 := false }).countEdge 5 := by
        simp only [State.boundaryEdge]
        rw [edgeAt_lost (by exact hlost), endGripTest_of_not_sampling (by exact hsampling)]
      rw [hcount]
      exact ⟨rfl, (((updPins_changes s _).weaken).then (countEdge_changes _ 5)).finish⟩
    | b1 | b2 | b3 | b6 =>
      refine ⟨_, rfl, ?_⟩
      simp only [State.boundaryEdge, edgeAt_lost hlost]
      exact ⟨rfl, ((countEdge_changes s _).weaken).finish⟩
  · have hcount : s.edgeB4 = (s.updPins fun p => { p with b4 := true }).countEdge 4 := if_pos hlost
    rw [hcount]
    rfl
  · have hcount : s.edgeB4 = (s.updPins fun p => { p with b4 := true }).countEdge 4 := if_pos hlost
    rw [hcount]
    exact (((updPins_changes s _).weaken).then (countEdge_changes _ 4)).finish

/-! ## The tag reader (R10, R194) -/

/-- A byte of a frame that is not complete is held. -/
theorem tagByte_held {s : State} {b : Byte} (h : s.trk.tagBytes.length < 3) :
    s.tagByte ⟨b, true⟩ = s.updTrk fun t => { t with tagBytes := t.tagBytes ++ [b] } := by
  unfold State.tagByte
  simp only [not_true_eq_false, if_false]
  rw [if_pos (by simp; omega)]
  rfl

/-- Three bytes at the start of a frame are held. -/
theorem tagBytes_three {s : State} (h : s.trk.tagBytes = []) (a b c : Byte) :
    ((s.tagByte ⟨a, true⟩).tagByte ⟨b, true⟩).tagByte ⟨c, true⟩ =
      s.updTrk fun t => { t with tagBytes := [a, b, c] } := by
  have hone := tagByte_held (s := s) (b := a) (by simp [h])
  have htwo := tagByte_held (s := s.tagByte ⟨a, true⟩) (b := b) (by simp [hone, h])
  have hthree := tagByte_held (s := (s.tagByte ⟨a, true⟩).tagByte ⟨b, true⟩) (b := c)
    (by rw [htwo, hone]; simp [h])
  rw [hthree, htwo, hone]
  simp only [State.updTrk, h, List.nil_append, List.cons_append]

/-- Setting the bytes held back to none. -/
theorem clearTagBytes {s : State} (h : s.trk.tagBytes = []) {f : Trk → Trk} (hf : ∀ t, ∃ l, f t = { t with tagBytes := l }) :
    ((s.updTrk f).updTrk fun t => { t with tagBytes := [] }) = s := by
  obtain ⟨l, hl⟩ := hf s.trk
  rw [State.updTrk_updTrk]
  refine State.updTrk_eq_self ?_
  simp only [Function.comp_apply, hl, ← h]

/-- A complete frame from four bytes: the bytes held are discarded, and what they spell decides (R194). -/
theorem tagFrame_four {s : State} (h : s.trk.tagBytes = []) (a b c d : Byte) :
    [⟨a, true⟩, ⟨b, true⟩, ⟨c, true⟩, (⟨d, true⟩ : TagByte)].foldl (fun t x => t.tagByte x) s =
      (tagOf [a, b, c, d]).elim s.invalidFrame s.validFrame := by
  simp only [List.foldl_cons, List.foldl_nil]
  rw [tagBytes_three h]
  unfold State.tagByte
  simp only [not_true_eq_false, if_false, State.updTrk_trk, List.cons_append, List.nil_append, List.length_cons,
    List.length_nil, Nat.lt_irrefl]
  rw [clearTagBytes h fun t => ⟨_, rfl⟩]
  cases tagOf [a, b, c, d] <;> rfl

/-- Two bytes, the second with a dominant stop bit: an invalid frame. -/
theorem tagFrame_stop {s : State} (h : s.trk.tagBytes = []) (a b : Byte) :
    [⟨a, true⟩, (⟨b, false⟩ : TagByte)].foldl (fun t x => t.tagByte x) s = s.invalidFrame := by
  simp only [List.foldl_cons, List.foldl_nil]
  rw [tagByte_held (s := s) (by simp [h])]
  unfold State.tagByte
  simp only [Bool.false_eq_true, not_false_eq_true, if_true]
  rw [clearTagBytes h fun t => ⟨_, rfl⟩]

theorem invalidFrame_trk (s : State) : s.invalidFrame.trk =
    { s.trk with window := s.trk.window.map fun w => { w with invalidSeen := true } } := rfl

/-- Settles O4: what the bytes held and the stop bits make of a frame. -/
theorem invalidTagIsRemembered : Obligations.InvalidTagIsRemembered := by
  intro s a b c d hnone hhalves
  have hinvalid : tagOf [a, b, c, d] = none := if_neg hhalves
  refine ⟨⟨finish s _, rfl, ?_⟩, ⟨finish s _, rfl, ?_⟩, ⟨finish s _, rfl, ?_⟩, fun held hheld => ?_,
    ⟨finish s s.tagGap, rfl, ?_⟩⟩
  · simp only [List.foldl_cons, List.foldl_nil, tagBytes_three hnone]
    exact ⟨rfl, (updTrk_changes s _).finish⟩
  · rw [tagFrame_four hnone, hinvalid]
    exact ⟨rfl, (invalidFrame_changes s).finish⟩
  · rw [tagFrame_stop hnone]
    exact ⟨rfl, (invalidFrame_changes s).finish⟩
  · refine ⟨finish _ _, rfl, ?_⟩
    have hgap : State.tagGap { s with trk := { s.trk with tagBytes := held } } = s.invalidFrame := by
      unfold State.tagGap
      rw [if_neg (by simpa using hheld)]
      exact congrArg State.invalidFrame (clearTagBytes (s := s) hnone (f := fun t => { t with tagBytes := held })
        fun t => ⟨_, rfl⟩)
    rw [hgap]
    exact ⟨rfl, (invalidFrame_changes s).finish⟩
  · rw [State.tagGap, if_pos (by simp [hnone])]
    exact (ChangesOnly.refl s _).finish

/-! ## The resolution of the tag window (R11, R12) -/

theorem unknownArrival_trk (s : State) :
    s.unknownArrival.trk = { s.trk with unknownCount := min 3 (s.trk.unknownCount + 1) } := by
  unfold State.unknownArrival
  dsimp only
  split <;> simp [satInc_eq_min]

/-- The count below 3 raises nothing (R12). -/
theorem unknownArrival_low {s : State} (h : s.trk.unknownCount < 2) :
    s.unknownArrival = s.updTrk fun t => { t with unknownCount := satInc 3 s.trk.unknownCount } :=
  if_neg (by rw [satInc_eq_min]; omega)

/-- At 3 TAG_READER is raised (R12). -/
theorem unknownArrival_third {s : State} (h : 2 ≤ s.trk.unknownCount) :
    s.unknownArrival = (s.updTrk fun t => { t with unknownCount := satInc 3 s.trk.unknownCount }).raiseCause
      .tagReader .limit 0 :=
  if_pos (by rw [satInc_eq_min]; omega)

theorem unknownArrival_frame (s : State) : ChangesOnly s (.trk :: Part.ofCause) s.unknownArrival :=
  have hcount := updTrk_changes s fun t => { t with unknownCount := satInc 3 s.trk.unknownCount }
  .ite ((hcount.weaken).then (raiseCause_changes ..)) hcount.weaken

theorem knownArrival_trk (s : State) : s.knownArrival.trk = { s.trk with unknownCount := 0 } := by
  simp [State.knownArrival]

theorem resolveUnknown_trk (s : State) (e : TrackEntry) (reason : List Byte) : (s.resolveUnknown e reason).trk =
    { s.trk with window := none, unknownCount := min 3 (s.trk.unknownCount + 1) } := by
  simp [State.resolveUnknown, State.noteArrived, unknownArrival_trk]

theorem resolveDuplicate_trk (s : State) (e : TrackEntry) (tag : Word) (n : Nat) : (s.resolveDuplicate e tag n).trk =
    { s.trk with window := none, unknownCount := 0 } := by
  simp [State.resolveDuplicate, State.noteArrived, knownArrival_trk]

/-- What follows the entry's new number in the track unit: the end of its OVERDUE and FLEET_MISMATCH. -/
theorem resolveKnown_trk (s : State) (e : TrackEntry) (n : Nat) : (s.resolveKnown e n).trk =
    { s.trk with
      window := none, unknownCount := 0
      entries := s.trk.entries.map fun x => if x.uid = e.uid then { x with cabin := n, overdue := false } else x } := by
  unfold State.resolveKnown State.noteArrived
  dsimp only
  rw [knownArrival_trk, journal_trk, (arrivalEndsDivert_changes ..).trk_eq, (updFleetRec_changes ..).trk_eq,
    (noteMismatch_changes ..).trk_eq, (endOverdue_changes ..).trk_eq]
  rfl

theorem knownArrival_noneActive {s : State} (h : s.CausesOk) : s.knownArrival.NoneActive .tagReader 0 :=
  endCause_noneActive (h.of_msv_eq rfl)

theorem State.NoneActive.finish {s t : State} {code : CauseCode} {index : Nat} (h : t.NoneActive code index) :
    (Machine.finish s t).NoneActive code index := h

theorem State.Lists.finish {s t : State} {code : CauseCode} {index : Nat} {sub : SubState}
    (h : t.Lists code index sub) : (Machine.finish s t).Lists code index sub := h

theorem State.CausesOk.endOverdue {s : State} (h : s.CausesOk) {e : TrackEntry} : (s.endOverdue e).CausesOk := by
  unfold State.endOverdue
  split_ifs
  · exact h.endCause
  · exact h
  · exact h.endCause
  · exact h

theorem validFrame_of_window {s : State} {w : TagWindow} {e : TrackEntry} (hwindow : s.trk.window = some w)
    (hentry : s.entry w.uid = some e) (tag : Word) : s.validFrame tag = s.resolveTag e tag := by
  simp [State.validFrame, hwindow, hentry]

/-- An arrival resolved from a registered tag raises nothing, so line and calls stay. -/
theorem knownArrival_frame (s : State) : ChangesOnly s [.trk, .msv, .lch, .journal, .news] s.knownArrival :=
  ((updTrk_changes s _).weaken).then (endCause_changes ..)

/-- A resolution to a cabin up to the count: the entry's OVERDUE has ended and the cabin's record is written. -/
theorem resolveKnown_noted (s : State) (e : TrackEntry) (n : Nat) :
    ∃ u : State, s.resolveKnown e n = u.knownArrival ∧ (s.CausesOk → u.CausesOk) ∧
      u.fleet = (s.updFleetRec n fun r => { r with state := .inTerminal, lastArrival := some e.arrivalDist }).fleet ∧
      ChangesOnly s [.trk, .fleet, .msv, .lch, .journal, .news] u := by
  unfold State.resolveKnown
  extract_lets s1 s2
  have h1 : ChangesOnly s [.trk] s1 := (updTrk_changes s _).then (updEntry_changes ..)
  have hover : ChangesOnly s [.trk, .msv, .lch, .journal, .news] (s1.endOverdue e) :=
    (h1.weaken).then (endOverdue_changes ..)
  have h2 : ChangesOnly s [.trk, .msv, .lch, .journal, .news] s2 := hover.then (noteMismatch_changes ..)
  have h3 := updFleetRec_changes s2 n fun r => { r with state := .inTerminal, lastArrival := some e.arrivalDist }
  have h4 := (h3.weaken (ps := [.fleet, .lch, .journal, .news])).then (arrivalEndsDivert_changes _ n)
  have h5 : ChangesOnly s2 [.fleet, .lch, .journal, .news] _ := h4.then (journal_changes _ .cabinArrived .trk n (le32 e.arrivalDist.toNat))
  refine ⟨_, rfl, fun hok => ?_, ?_, (h2.weaken).then h5⟩
  · refine State.CausesOk.of_msv_eq ?_ h5.msv_eq
    exact ((hok.of_msv_eq h1.msv_eq).endOverdue).of_msv_eq (noteMismatch_changes ..).msv_eq
  · rw [State.noteArrived, journal_fleet, (arrivalEndsDivert_changes ..).fleet_eq]
    have h2' : s2.fleet = s.fleet := h2.fleet_eq
    simp only [State.updFleetRec]
    split
    · exact h2'
    · simp only [State.updFleet_fleet, h2']

/-- A duplicate's resolution up to the count. -/
theorem resolveDuplicate_noted (s : State) (e : TrackEntry) (tag : Word) (n : Nat) :
    ∃ u : State, s.resolveDuplicate e tag n = u.knownArrival ∧ u.msv = s.msv ∧
      ChangesOnly s [.trk, .journal, .news] u :=
  ⟨_, rfl, by simp [State.noteArrived],
    (((updTrk_changes s _).weaken).then (journal_changes ..)).then (journal_changes ..)⟩

/-- A resolution to cabin 0 up to the unknown-arrival count. -/
theorem resolveUnknown_noted (s : State) (e : TrackEntry) (reason : List Byte) :
    ∃ u : State, s.resolveUnknown e reason = u.unknownArrival ∧ u.trk.unknownCount = s.trk.unknownCount ∧
      u.msv = s.msv ∧ ChangesOnly s [.trk, .journal, .news] u :=
  ⟨_, rfl, by simp [State.noteArrived], by simp [State.noteArrived],
    (((updTrk_changes s _).weaken).then (journal_changes ..)).then (journal_changes ..)⟩

/-- A LIMIT cause is in the LIMIT register after its raise (R147). -/
theorem mem_limits_raiseCause (s : State) (code : CauseCode) (index : Nat) :
    (code, index) ∈ (s.raiseCause code .limit index).msv.limits := by
  rw [(raiseCause_sameList ..).limits]
  dsimp only [State.msvRaised]
  unfold Msv.raised Msv.withLimit
  split
  · simp
  · next h => simpa using h

/-- Settles O3: the three resolutions of a valid frame. -/
theorem validTagResolvesCabin : Obligations.ValidTagResolvesCabin := by
  intro s hi lo w e hbytes hwindow hentry
  have hframe : [⟨hi, true⟩, ⟨lo, true⟩, ⟨~~~hi, true⟩, (⟨~~~lo, true⟩ : TagByte)].foldl (fun t x => t.tagByte x) s =
      s.resolveTag e (hi ++ lo) := by
    rw [tagFrame_four hbytes, show tagOf [hi, lo, ~~~hi, ~~~lo] = some (hi ++ lo) from if_pos ⟨rfl, rfl⟩]
    exact validFrame_of_window hwindow hentry _
  refine ⟨fun n htag hothers hfleet => ⟨finish s _, rfl, ?_⟩, fun n htag hother => ⟨finish s _, rfl, ?_⟩,
    fun htag => ⟨finish s _, rfl, ?_⟩⟩
  · have hknown : s.resolveTag e (hi ++ lo) = s.resolveKnown e n := by
      have hnone : (s.trk.entries.any fun x => decide (x.cabin = n) && decide (x.uid ≠ e.uid)) = false := by
        simpa using fun x hx hcabin => by_contra fun hne => hothers x hx hne hcabin
      simp only [State.resolveTag, htag, hnone, Bool.false_eq_true, if_false]
    have hpos : 0 < n := by
      unfold State.tagCabin at htag
      cases h : tagIndex s.sst.active.registry (hi ++ lo) <;> simp [h] at htag
      omega
    rw [hframe, hknown]
    obtain ⟨u, hu, hok, hfleets, hframe'⟩ := resolveKnown_noted s e n
    have hrec : ∀ k, (finish s (s.resolveKnown e n)).fleetRec k =
        (s.updFleetRec n fun r => { r with state := .inTerminal, lastArrival := some e.arrivalDist }).fleetRec k :=
      fun k => fleetRec_congr (by rw [finish_fleet, hu, (knownArrival_frame u).fleet_eq, hfleets]) k
    refine ⟨(finish_trk ..).trans (resolveKnown_trk s e n), ?_, fun k hk => ?_, fun hs => ?_, ?_⟩
    · rw [hrec, fleetRec_updFleetRec_same s _ hpos hfleet]
    · rw [hrec, fleetRec_updFleetRec_ne s _ hk]
    · rw [hu]
      exact (knownArrival_noneActive (hok hs)).finish
    · rw [hu]
      exact (hframe'.then (knownArrival_frame u)).finish
  · have hduplicate : s.resolveTag e (hi ++ lo) = s.resolveDuplicate e (hi ++ lo) n := by
      have hsome : (s.trk.entries.any fun x => decide (x.cabin = n) && decide (x.uid ≠ e.uid)) = true := by
        obtain ⟨x, hx, hne, hcabin⟩ := hother
        exact List.any_eq_true.mpr ⟨x, hx, by simp [hne, hcabin]⟩
      simp only [State.resolveTag, htag, hsome, if_true]
    rw [hframe, hduplicate]
    obtain ⟨u, hu, hmsv, hframe'⟩ := resolveDuplicate_noted s e (hi ++ lo) n
    refine ⟨(finish_trk ..).trans (resolveDuplicate_trk s e _ n), fun hok => ?_, ?_⟩
    · rw [hu]
      exact (knownArrival_noneActive (hok.of_msv_eq hmsv)).finish
    · rw [hu]
      exact ((hframe'.weaken).then (knownArrival_frame u)).finish
  · have hunknown : ∃ reason, s.resolveTag e (hi ++ lo) = s.resolveUnknown e reason := by
      simp only [State.resolveTag, htag]
      exact ⟨_, rfl⟩
    obtain ⟨reason, hreason⟩ := hunknown
    rw [hframe, hreason]
    obtain ⟨u, hu, hcount, hmsv, hframe'⟩ := resolveUnknown_noted s e reason
    refine ⟨(finish_trk ..).trans (resolveUnknown_trk s e _), fun hlow => ?_, fun hhigh hroom => ?_, ?_⟩
    · rw [hu, unknownArrival_low (hcount ▸ hlow)]
      exact (hframe'.then (updTrk_changes ..)).finish
    · rw [hu, unknownArrival_third (hcount ▸ hhigh)]
      exact ⟨(raiseCause_lists (by simpa [hmsv] using hroom)).finish, mem_limits_raiseCause ..⟩
    · rw [hu]
      exact ((hframe'.weaken).then (unknownArrival_frame u)).finish

end Sys2Proof.Machine
end

section
/-! PROOF. What raising and ending a cause leaves of the gate (R72, R73, R80): the supervisor's own changes lead to stops, in
which nothing is launched and nothing diverted. -/

namespace Sys2Proof.Machine

-- One lemma at a time, as in Laws/State.lean.
set_option Elab.async false

open Sys2Proof

/-- Two values of the launch unit agree but for the barred notice and the proof timer. -/
def Lch.SameGate (l m : Lch) : Prop := m = { l with barredNotice := m.barredNotice, proofTimer := m.proofTimer }

theorem Lch.SameGate.refl (l : Lch) : l.SameGate l := rfl

theorem Lch.SameGate.of_eq {l m : Lch} (h : m = l) : l.SameGate m := by rw [h]; rfl

theorem Lch.SameGate.trans {l m n : Lch} (h1 : l.SameGate m) (h2 : m.SameGate n) : l.SameGate n := by
  unfold Lch.SameGate at *
  rw [h2, h1]

section
variable {l m : Lch} (h : l.SameGate m)
include h

theorem Lch.SameGate.gate : m.gate = l.gate := by rw [h]
theorem Lch.SameGate.gateEntry : m.gateEntry = l.gateEntry := by rw [h]
theorem Lch.SameGate.lastLaunch : m.lastLaunch = l.lastLaunch := by rw [h]
theorem Lch.SameGate.dL : m.dL = l.dL := by rw [h]
theorem Lch.SameGate.estimate : m.estimate = l.estimate := by rw [h]
theorem Lch.SameGate.proofExpired : m.proofExpired = l.proofExpired := by rw [h]
theorem Lch.SameGate.z3Count : m.z3Count = l.z3Count := by rw [h]
theorem Lch.SameGate.queueFull : m.queueFull = l.queueFull := by rw [h]
theorem Lch.SameGate.divert : m.divert = l.divert := by rw [h]
theorem Lch.SameGate.insertion : m.insertion = l.insertion := by rw [h]
theorem Lch.SameGate.sampling : m.sampling = l.sampling := by rw [h]
theorem Lch.SameGate.testEntry : m.testEntry = l.testEntry := by rw [h]
theorem Lch.SameGate.peak : m.peak = l.peak := by rw [h]
theorem Lch.SameGate.lastReading : m.lastReading = l.lastReading := by rw [h]
theorem Lch.SameGate.lastDeparture : m.lastDeparture = l.lastDeparture := by rw [h]
end

section
variable (s : State)

/-! ## Decisions while the line stops -/

/-- While the line stops, the gate entry is neither launched nor diverted (R73, R80). -/
theorem gateDecide_stopping (h : s.msv.state = .stoppingService ∨ s.msv.state = .stoppingFast) :
    s.lch.SameGate s.gateDecide.lch := by
  have hlaunch : ∀ e, s.launchTest e = false := fun e => by
    have : decide (s.msv.state = .run) = false := by rcases h with h | h <;> simp [h]
    simp [State.launchTest, this]
  have hdivert : s.divertTest = false := by rcases h with h | h <;> simp [State.divertTest, h]
  unfold State.gateDecide
  split
  · split
    · rfl
    · simp only [hdivert, hlaunch, Bool.false_eq_true, if_false]
      split
      · rfl
      split
      · unfold State.noteBarred
        split
        · rfl
        · rw [State.updLch_lch, journal_lch]
          rfl
      · rfl
  · rfl

theorem proofTimerFollow_sameGate : s.lch.SameGate s.proofTimerFollow.lch := rfl

theorem gateEvent_stopping (h : s.msv.state = .stoppingService ∨ s.msv.state = .stoppingFast) :
    s.lch.SameGate s.gateEvent.lch :=
  (gateDecide_stopping s h).trans (proofTimerFollow_sameGate _)

theorem recomputeCeiling_lch : s.recomputeCeiling.lch = s.lch := (recomputeCeiling_changes s).lch_eq

theorem changeState_stopping {new : SupState} (brought : List Byte)
    (h : new = .stoppingService ∨ new = .stoppingFast) : s.lch.SameGate (s.changeState new brought).lch := by
  unfold State.changeState
  extract_lets old
  refine Lch.SameGate.trans (.of_eq ?_) (gateEvent_stopping _ ?_)
  · rw [recomputeCeiling_lch, (setChain_changes ..).lch_eq, journal_lch, State.updMsv_lch]
  · simpa [recomputeCeiling_msv, setChain_msv] using h

theorem afterListChange_sameGate (code : CauseCode) (index : Nat) :
    s.lch.SameGate (s.afterListChange code index).lch := by
  unfold State.afterListChange
  split
  · exact changeState_stopping s _ (.inr rfl)
  split
  · exact changeState_stopping s _ (.inl rfl)
  · exact .of_eq (recomputeCeiling_lch s)

/-! ## Raise and end -/

/-- What every change of the list ends with. -/
theorem listChange_sameGate (f : Msv → Msv) (k : JKind) (c : Cause) (n : Nat) (code : CauseCode) (index : Nat) :
    s.lch.SameGate (((s.updMsv f).publishCause k c n).afterListChange code index).lch :=
  (Lch.SameGate.of_eq (publishCause_changes (s.updMsv f) ..).lch_eq).trans (afterListChange_sameGate ..)

theorem when_tellFast_lch (b : Bool) (code : CauseCode) (index : Nat) : (s.when b (·.tellFast code index)).lch = s.lch :=
  (ChangesOnly.when (tellFast_changes s code index)).lch_eq

theorem listRaise_sameGate (code : CauseCode) (category : Category) (index : Nat) (sub : SubState) :
    s.lch.SameGate (s.listRaise code category index sub).lch := by
  unfold State.listRaise
  split
  · exact (listChange_sameGate s ..).trans (.of_eq (when_tellFast_lch ..))
  · split
    · exact (listChange_sameGate s ..).trans (.of_eq (when_tellFast_lch ..))
    · exact ((listChange_sameGate s ..).trans (.of_eq (when_tellFast_lch ..))).trans (.of_eq (when_tellFast_lch ..))

theorem raiseCause_sameGate (code : CauseCode) (category : Category) (index : Nat) :
    s.lch.SameGate (s.raiseCause code category index).lch := by
  rw [raiseCause_eq]
  exact listRaise_sameGate (s.updMsv _) ..

theorem listEnd_sameGate (code : CauseCode) (index : Nat) : s.lch.SameGate (s.listEnd code index).lch := by
  unfold State.listEnd
  split
  · rfl
  split
  · exact listChange_sameGate s ..
  split
  · exact listChange_sameGate s ..
  · rfl

theorem endCause_sameGate (code : CauseCode) (index : Nat) : s.lch.SameGate (s.endCause code index).lch := by
  unfold State.endCause
  split
  · exact (Lch.SameGate.of_eq (recomputeCeiling_lch (s.updMsv _))).trans (listEnd_sameGate ..)
  · exact listEnd_sameGate ..

theorem raiseOnce_sameGate (code : CauseCode) (category : Category) (index : Nat) :
    s.lch.SameGate (s.raiseOnce code category index).lch :=
  (raiseCause_sameGate s ..).trans (endCause_sameGate ..)

end

end Sys2Proof.Machine
end

section
/-! PROOF. What the doors, the launch unit and the causes leave of the places of the track's entries, and of the track
itself (R14, R36, R44). -/

namespace Sys2Proof.Machine

-- One lemma at a time, as in Laws/State.lean.
set_option Elab.async false

open Sys2Proof

/-- Two tracks are in one state and agree in their entries' names, cabins, zones, travel and marks. -/
structure Trk.SamePlaces (k l : Trk) : Prop where
  state : l.state = k.state
  places : l.entries.map (·.place) = k.entries.map (·.place)

theorem Trk.SamePlaces.refl (k : Trk) : k.SamePlaces k := ⟨rfl, rfl⟩

theorem Trk.SamePlaces.trans {k l m : Trk} (h1 : k.SamePlaces l) (h2 : l.SamePlaces m) : k.SamePlaces m :=
  ⟨h2.state.trans h1.state, h2.places.trans h1.places⟩

theorem Trk.SamePlaces.of_eq {k l : Trk} (h : l = k) : k.SamePlaces l := by rw [h]; exact .refl k

/-- A run from `s` to `t` leaves the places of the track as they are. -/
abbrev State.SamePlaces (s t : State) : Prop := s.trk.SamePlaces t.trk

section
variable {s t u : State} {c : Channel}

theorem State.SamePlaces.frame {ps : List Part} (h : s.SamePlaces t) (hc : ChangesOnly t ps u)
    (hp : .trk ∉ ps := by decide) : s.SamePlaces u := h.trans (.of_eq (hc.trk_eq hp))

theorem State.SamePlaces.ite {b : Prop} [Decidable b] (h1 : s.SamePlaces t) (h2 : s.SamePlaces u) :
    s.SamePlaces (if b then t else u) := by
  split <;> assumption

theorem State.SamePlaces.when {b : Bool} {f : State → State} (h : s.SamePlaces t)
    (hf : ∀ {v : State}, s.SamePlaces v → s.SamePlaces (f v)) : s.SamePlaces (t.when b f) := .ite (hf h) h

theorem State.SamePlaces.foldl {α : Type} {f : State → α → State} (h : s.SamePlaces t)
    (hf : ∀ (v : State) x, s.SamePlaces v → s.SamePlaces (f v x)) (xs : List α) : s.SamePlaces (xs.foldl f t) :=
  List.foldlRecOn xs f h fun v hv x _ => hf v x hv

theorem State.SamePlaces.updEntry (h : s.SamePlaces t) {uid : Nat} {f : TrackEntry → TrackEntry}
    (hf : ∀ e, (f e).place = e.place := by exact fun _ => rfl) : s.SamePlaces (t.updEntry uid f) := by
  refine h.trans ⟨rfl, ?_⟩
  simp only [State.updEntry, State.updTrk_trk, List.map_map]
  refine List.map_congr_left fun e _ => ?_
  simp only [Function.comp_apply]
  split
  · exact hf e
  · rfl

/-- A change of the track outside its state and its entries. -/
theorem State.SamePlaces.updTrk (h : s.SamePlaces t) {f : Trk → Trk} (hstate : (f t.trk).state = t.trk.state := by rfl)
    (hentries : (f t.trk).entries = t.trk.entries := by rfl) : s.SamePlaces (t.updTrk f) :=
  h.trans ⟨hstate, congrArg (List.map _) hentries⟩

/-! ## Doors -/

theorem State.SamePlaces.updChan (h : s.SamePlaces t) {f : Chan → Chan} : s.SamePlaces (t.updChan c f) :=
  h.frame (updChan_changes ..)

theorem State.SamePlaces.writeDoor (h : s.SamePlaces t) {uid : Nat} {door : DoorState} :
    s.SamePlaces (t.writeDoor uid door) :=
  .ite (((h.updEntry.when (·.updEntry)).frame (endNotProven_changes _)).frame (gateEvent_changes _)) h.updEntry

theorem State.SamePlaces.writeDoorOf (h : s.SamePlaces t) {uid : Option Nat} {door : DoorState} :
    s.SamePlaces (t.writeDoorOf uid door) := by
  cases uid with
  | none => exact h
  | some u => exact h.writeDoor

theorem State.SamePlaces.applyPending (h : s.SamePlaces t) : s.SamePlaces (t.applyPending c) :=
  h.frame (applyPending_changes ..)

theorem State.SamePlaces.completeStroke (h : s.SamePlaces t) {x : Chan} {r : ResultCode} :
    s.SamePlaces (t.completeStroke c x r) := h.frame (completeStroke_changes ..)

theorem State.SamePlaces.updFleetOf (h : s.SamePlaces t) {uid : Option Nat} {f : FleetRec → FleetRec} :
    s.SamePlaces (t.updFleetOf uid f) := h.frame (updFleetOf_changes ..)

theorem State.SamePlaces.provenWrites (h : s.SamePlaces t) {x : Chan} : s.SamePlaces (t.provenWrites c x) := by
  unfold State.provenWrites
  split
  · exact h.writeDoorOf
  · dsimp only
    split
    · exact h.updFleetOf.updEntry.writeDoorOf
    · exact h.updFleetOf.writeDoorOf
  · split
    · exact h
    · exact h.updEntry
  · exact h

theorem State.SamePlaces.proveStroke (h : s.SamePlaces t) : s.SamePlaces (t.proveStroke c) :=
  h.updChan.provenWrites.updChan.completeStroke.applyPending

theorem State.SamePlaces.failWrites (h : s.SamePlaces t) {x : Chan} : s.SamePlaces (t.failWrites c x) := by
  unfold State.failWrites
  split
  · exact .ite h.updFleetOf.writeDoorOf h
  · exact .ite h h.updFleetOf.writeDoorOf
  · exact h

theorem State.SamePlaces.failStroke (h : s.SamePlaces t) {fault : DoorFault} : s.SamePlaces (t.failStroke c fault) :=
  State.SamePlaces.applyPending (State.SamePlaces.completeStroke
    ((h.updChan.failWrites.updChan.frame (failCause_changes ..)).frame (journal_changes ..)))

theorem State.SamePlaces.closeTests {n : Nat} (h : s.SamePlaces t) : s.SamePlaces (State.closeTests c n t) := by
  induction n generalizing t with
  | zero => exact h
  | succ n ih => exact .ite h.proveStroke (.ite (.ite (.ite (ih h.updChan.updChan) h.updChan.failStroke) h.updChan) h)

theorem State.SamePlaces.testClose (h : s.SamePlaces t) : s.SamePlaces (t.testClose c) := h.closeTests

theorem State.SamePlaces.beginStroke (h : s.SamePlaces t) {close : Bool} {o : Origin} :
    s.SamePlaces (t.beginStroke c close o) := h.frame (beginStroke_changes ..)

theorem State.SamePlaces.startGateClose (h : s.SamePlaces t) : s.SamePlaces t.startGateClose :=
  h.updChan.beginStroke.testClose

theorem State.SamePlaces.afterOpen (h : s.SamePlaces t) : s.SamePlaces (t.afterOpen c) := .ite h.startGateClose h

theorem State.SamePlaces.testOpen (h : s.SamePlaces t) : s.SamePlaces (t.testOpen c) := .ite h.proveStroke.afterOpen h

theorem State.SamePlaces.missEngagement (h : s.SamePlaces t) {uid : Nat} : s.SamePlaces (t.missEngagement c uid) :=
  ((((h.when (·.updEntry)).frame (updFleetRec_changes ..)).writeDoor.frame (raiseOnce_changes ..)).frame
    (journal_changes ..))

theorem State.SamePlaces.engageOpener (h : s.SamePlaces t) {uid : Nat} : s.SamePlaces (t.engageOpener uid) :=
  .ite h.updChan.beginStroke.writeDoor.testOpen h.missEngagement

theorem State.SamePlaces.engageCloser (h : s.SamePlaces t) {uid : Nat} : s.SamePlaces (t.engageCloser uid) :=
  .ite h.updChan.beginStroke.writeDoor.testClose h.missEngagement

theorem State.SamePlaces.withhold (h : s.SamePlaces t) {n r : Nat} : s.SamePlaces (t.withhold n r) :=
  h.frame (journal_changes ..)

theorem State.SamePlaces.engageGate (h : s.SamePlaces t) {e : TrackEntry} : s.SamePlaces (t.engageGate e) :=
  .ite (h.withhold.when (·.startGateClose))
    (.ite h.updChan.beginStroke.testOpen (.ite h.updChan.updEntry (.ite h.withhold h.withhold)))

theorem State.SamePlaces.gateCloseNow (h : s.SamePlaces t) : s.SamePlaces t.gateCloseNow := by
  unfold State.gateCloseNow
  split
  · exact h.startGateClose
  · exact h.updChan
  · exact h

theorem State.SamePlaces.closePoint (h : s.SamePlaces t) {uid : Nat} : s.SamePlaces (t.closePoint uid) :=
  .ite h.gateCloseNow h

theorem State.SamePlaces.gateLateCheck (h : s.SamePlaces t) {e : TrackEntry} : s.SamePlaces (t.gateLateCheck e) :=
  .ite ((h.frame (raiseOnce_changes ..)).frame (journal_changes ..)).gateCloseNow h

theorem State.SamePlaces.closePointCheck (h : s.SamePlaces t) : s.SamePlaces t.closePointCheck := by
  unfold State.closePointCheck
  split
  · exact h
  · exact .ite h.closePoint h

/-! ## The tag window and the grip test -/

theorem resolveUnknown_samePlaces (s : State) (e : TrackEntry) (reason : List Byte) :
    s.SamePlaces (s.resolveUnknown e reason) := by
  rw [State.SamePlaces, resolveUnknown_trk]
  exact ⟨rfl, rfl⟩

theorem State.SamePlaces.closeWindow (h : s.SamePlaces t) : s.SamePlaces t.closeWindow := by
  unfold State.closeWindow
  split
  · exact h
  · split
    · exact h.updTrk
    · exact h.trans (resolveUnknown_samePlaces ..)

theorem State.SamePlaces.recordGrip (h : s.SamePlaces t) {v : Option Nat} {n f : Nat} {g : Grade} :
    s.SamePlaces (t.recordGrip v n f g) := by
  unfold State.recordGrip
  split
  · split
    · exact h
    · exact .ite h.updEntry h
  · exact .ite ((h.frame (updFleetRec_changes ..)).frame (setBarred_changes ..)) (h.frame (updFleetRec_changes ..))

theorem State.SamePlaces.endGripTest (h : s.SamePlaces t) : s.SamePlaces t.endGripTest :=
  .ite ((((h.frame (updLch_changes ..)).recordGrip).frame (gripCause_changes ..)).frame (journal_changes ..)) h

end

end Sys2Proof.Machine
end

section
/-! PROOF. Boundary edges (O5 to O7; R14, R16): what an edge is taken to be, and what a match moves. -/

namespace Sys2Proof.Machine

-- One lemma at a time, as in Laws/State.lean.
set_option Elab.async false

open Sys2Proof

/-! ## Edges as they reach the track unit -/

/-- The pins as an edge leaves them: B5 of BOUNDARY_EDGE falls, and the other edges rise and fall at once. -/
def State.atEdge (s : State) (edge : EdgeAt) : State :=
  s.when (decide (edge = .b5)) (·.updPins fun p => { p with b5 := false })

section
variable {s : State} (edge : EdgeAt)

theorem boundaryEdge_eq : s.boundaryEdge edge =
    ((s.atEdge edge).edgeAt (boundaryOf edge)).when (decide (edge = .b5)) (·.endGripTest) := by
  cases edge <;> rfl

theorem atEdge_of_ne {edge : EdgeAt} (h : edge ≠ .b5) : s.atEdge edge = s := by
  simp [State.atEdge, State.when, h]

theorem atEdge_changes : ChangesOnly s [.pins] (s.atEdge edge) := .when (updPins_changes s _)

@[simp] theorem atEdge_trk : (s.atEdge edge).trk = s.trk := (atEdge_changes edge).trk_eq
@[simp] theorem atEdge_rpm : (s.atEdge edge).rpm = s.rpm := (atEdge_changes edge).rpm_eq
@[simp] theorem atEdge_lch : (s.atEdge edge).lch = s.lch := (atEdge_changes edge).lch_eq
@[simp] theorem atEdge_msv : (s.atEdge edge).msv = s.msv := (atEdge_changes edge).msv_eq
@[simp] theorem atEdge_sst : (s.atEdge edge).sst = s.sst := (atEdge_changes edge).sst_eq

theorem atEdge_frontOf (z : Nat) : (s.atEdge edge).frontOf z = s.frontOf z := frontOf_congr (by simp) z

/-- With no grip test running, an edge is the track unit's part of it alone. -/
theorem boundaryEdge_of_not_sampling {t : State} (h : (s.atEdge edge).edgeAt (boundaryOf edge) = t)
    (hsampling : t.lch.sampling = false) : s.boundaryEdge edge = t := by
  rw [boundaryEdge_eq, h]
  unfold State.when
  split
  · exact endGripTest_of_not_sampling hsampling
  · rfl

/-- An edge leaves the pins as they are, but for B5. -/
theorem boundaryEdge_pins (h : edge ≠ .b5) : (s.boundaryEdge edge).pins = s.pins := by
  have hedge : s.boundaryEdge edge = s.edgeAt (boundaryOf edge) := by
    rw [boundaryEdge_eq, atEdge_of_ne h]
    simp [State.when, h]
  rw [hedge]
  exact (edgeAt_changes s _).pins_eq

end

/-- An edge in TRACKING with the rope moving is tested (R14). -/
theorem edgeAt_moving {s : State} (htracking : s.trk.state = .tracking) (hmoving : s.rpm.standstill = false) (n : Nat) :
    s.edgeAt n = s.testEdge n := by
  simp [State.edgeAt, htracking, hmoving]

/-- An edge at standstill is chatter (R14). -/
theorem edgeAt_standing {s : State} (htracking : s.trk.state = .tracking) (hstands : s.rpm.standstill = true)
    (n : Nat) : s.edgeAt n = s.standstillChatter n := by
  simp [State.edgeAt, htracking, hstands]

/-- The entry behind the boundary is half way, or its first match is waived: the edge is a match (R14). -/
theorem testEdge_match {s : State} {n : Nat} {e : TrackEntry} (hfront : s.frontOf (n - 1) = some e)
    (hhalf : s.zoneLen e.zone * 5000 ≤ e.travel ∨ e.waiver = true) :
    s.testEdge n = if n = 6 then s.depart e else s.matchAt n e := by
  have hway : s.halfWay e = true := by simpa [State.halfWay] using hhalf
  simp [State.testEdge, hfront, hway]

/-! ## O5: matches at B1, B2, B3 and B5 -/

/-- The matched entry in its new zone, before the zone-entry action. -/
def State.matched (s : State) (n : Nat) (e : TrackEntry) : State :=
  (s.updEntry e.uid fun x => { x with waiver := false }).moveEntry e n

theorem moveEntry_trk (s : State) (e : TrackEntry) (n : Nat) : (s.moveEntry e n).trk = (s.updEntry e.uid fun x =>
    { x with zone := n, travel := 0, overdue := false, atGate := false }).trk := by
  unfold State.moveEntry
  rw [(z3Changed_changes _).trk_eq, (endOverdue_changes ..).trk_eq]

theorem matched_entries (s : State) (n : Nat) (e : TrackEntry) : (s.matched n e).trk.entries =
    s.trk.entries.map fun x => if x.uid = e.uid then
      { x with waiver := false, zone := n, travel := 0, overdue := false, atGate := false } else x := by
  rw [State.matched, moveEntry_trk]
  simp only [State.updEntry, State.updTrk_trk, List.map_map]
  refine List.map_congr_left fun x _ => ?_
  simp only [Function.comp_apply]
  split <;> simp_all

theorem matched_state (s : State) (n : Nat) (e : TrackEntry) : (s.matched n e).trk.state = s.trk.state := by
  rw [State.matched, moveEntry_trk]
  rfl

/-- The zone-entry action of a match leaves the places of the track as the move left them (R15, R34, R43, R44). -/
theorem matched_samePlaces (s : State) (n : Nat) (e : TrackEntry) : (s.matched n e).SamePlaces (s.matchAt n e) := by
  have hrefl : (s.matched n e).SamePlaces (s.matched n e) := .refl _
  unfold State.matchAt
  split
  · exact (State.SamePlaces.ite hrefl.closeWindow hrefl).engageOpener
  · exact hrefl.engageGate
  · exact hrefl.engageCloser.gateLateCheck
  · exact hrefl

/-- Settles O5: the move of the match, and zone-entry actions that leave every place as it is. -/
theorem boundaryMatchMovesFrontEntry : Obligations.BoundaryMatchMovesFrontEntry := by
  intro s edge e hedge htracking hmoving hfront hhalf
  have hmatch : (s.atEdge edge).edgeAt (boundaryOf edge) = (s.atEdge edge).matchAt (boundaryOf edge) e := by
    have hsix : boundaryOf edge ≠ 6 := by cases edge <;> simp [boundaryOf] at hedge ⊢
    rw [edgeAt_moving (by simpa using htracking) (by simpa using hmoving),
      testEdge_match (by simpa [atEdge_frontOf] using hfront) (by simpa [State.zoneLen] using hhalf), if_neg hsix]
  have hsame : ((s.atEdge edge).matched (boundaryOf edge) e).SamePlaces (s.boundaryEdge edge) := by
    rw [boundaryEdge_eq, hmatch]
    exact (matched_samePlaces ..).when (·.endGripTest)
  refine ⟨finish s (s.boundaryEdge edge), rfl, ?_, ?_, (boundaryEdge_changes edge).finish, boundaryEdge_pins edge⟩
  · rw [finish_trk, hsame.state, matched_state, atEdge_trk, htracking]
  · rw [finish_trk, hsame.places, matched_entries, atEdge_trk, List.map_map]
    refine List.map_congr_left fun x _ => ?_
    simp only [Function.comp_apply]
    split <;> rfl

/-! ## O6: edges without a match -/

/-- Settles O6: chatter at standstill and before half the zone, PHANTOM with no entry behind the boundary. -/
theorem unmatchedEdgesMoveNothing : Obligations.UnmatchedEdgesMoveNothing := by
  intro s edge htracking hsampling
  have htracking' : (s.atEdge edge).trk.state = .tracking := by simpa using htracking
  have hpins : ChangesOnly s [.pins, .journal, .news] (s.atEdge edge) := (atEdge_changes edge).weaken
  have hchatter : ∀ b e, (s.atEdge edge).edgeAt (boundaryOf edge) = (s.atEdge edge).chatter b e →
      ChangesOnly s [.pins, .journal, .news] (finish s (s.boundaryEdge edge)) := fun b e h => by
    rw [boundaryEdge_of_not_sampling edge h (by simpa [State.chatter] using hsampling)]
    exact (hpins.then (chatter_changes ..)).finish
  refine ⟨fun hstands => ?_, fun e hfront htravel hwaiver => ?_, fun hmoving hfront => ?_⟩
  · exact ⟨_, rfl, fun h => boundaryEdge_pins edge h,
      hchatter _ _ (edgeAt_standing htracking' (by simpa using hstands) _)⟩
  · cases hstands : s.rpm.standstill with
    | true => exact ⟨_, rfl, hchatter _ _ (edgeAt_standing htracking' (by simpa using hstands) _)⟩
    | false =>
      have hway : (s.atEdge edge).halfWay e = false := by
        simpa [State.halfWay, State.zoneLen, hwaiver] using htravel
      refine ⟨_, rfl, hchatter (boundaryOf edge) (some e) ?_⟩
      rw [edgeAt_moving htracking' (by simpa using hstands)]
      simp [State.testEdge, atEdge_frontOf, hfront, hway]
  · have hphantom : s.boundaryEdge edge = (s.atEdge edge).raiseOnce .phantom .service (boundaryOf edge) := by
      refine boundaryEdge_of_not_sampling edge ?_ ?_
      · rw [edgeAt_moving htracking' (by simpa using hmoving)]
        simp [State.testEdge, atEdge_frontOf, hfront]
      · rw [(raiseOnce_sameGate ..).sampling, atEdge_lch, hsampling]
    refine ⟨finish s (s.boundaryEdge edge), rfl, ?_, fun hroom hok => ?_⟩
    · rw [hphantom]
      exact (((atEdge_changes edge).weaken).then (raiseOnce_changes ..)).finish
    · rw [hphantom, finish_msv]
      obtain ⟨c, hc, hof, hsub⟩ := raiseOnce_lists (code := .phantom) (category := .service)
        (index := boundaryOf edge) (hok.of_msv_eq (atEdge_msv edge)) (by simpa using hroom)
      exact ⟨c, hc, (Cause.isOf_iff.mp hof).1, (Cause.isOf_iff.mp hof).2, hsub⟩

/-! ## Strokes of the boarding gate, which write no entry but at a proof of an open stroke -/

/-- What an end of a stroke that writes no entry can change. -/
abbrev strokeParts : List Part := [.ddu, .msv, .lch, .lnc, .cal, .mem, .news, .journal, .contexts]

section
variable (s : State)

/-- A proof that writes no entry (R42). -/
theorem proveStroke_plain {c : Channel} (h : ∀ t : State, t.provenWrites c (s.ddu.get c) = t) :
    ChangesOnly s strokeParts (s.proveStroke c) := by
  unfold State.proveStroke
  dsimp only
  rw [h]
  have h1 := updChan_changes s c fun y => { y with state := .idle, timer := none }
  have h2 := h1.then (updChan_changes _ c fun y =>
    { y with engaged := if keepsEngagement c (s.ddu.get c) then y.engaged else none
             closeDue := keepsEngagement c (s.ddu.get c) && y.closeDue })
  have h3 : ChangesOnly s [.ddu, .mem, .news, .journal, .contexts] _ :=
    (h2.weaken).then (completeStroke_changes _ c (s.ddu.get c) .proven)
  exact (h3.weaken).then (applyPending_changes _ c)

/-- A failure that writes no entry (R42). -/
theorem failStroke_plain {c : Channel} {fault : DoorFault} (h : ∀ t : State, t.failWrites c (s.ddu.get c) = t) :
    ChangesOnly s strokeParts (s.failStroke c fault) := by
  unfold State.failStroke
  dsimp only
  rw [h]
  have h1 := updChan_changes s c fun y => { y with state := failedState c (s.ddu.get c), timer := none }
  have h2 := h1.then (updChan_changes _ c fun y => { y with engaged := none, closeDue := false })
  have h3 : ChangesOnly s strokeParts _ := (h2.weaken).then (failCause_changes _ c (s.ddu.get c))
  have h4 := h3.then (journal_changes _ .doorFault .ddu (s.engagedCabin c)
    [byteOf (channelCode c), byteOf fault.code, byteOf (s.ddu.get c).retry])
  exact (h4.then (completeStroke_changes _ c (s.ddu.get c) .jammed)).then (applyPending_changes _ c)

theorem failStroke_d2_changes (fault : DoorFault) : ChangesOnly s strokeParts (s.failStroke .d2 fault) :=
  failStroke_plain s fun _ => rfl

/-- The tests at a close start of the gate (R37). -/
theorem closeTests_d2_changes {n : Nat} {s : State} (h : (s.ddu.get .d2).state = .strokingClose) :
    ChangesOnly s strokeParts (State.closeTests .d2 n s) := by
  induction n generalizing s with
  | zero => exact .refl _ _
  | succ n ih =>
    have hproof : ∀ t : State, t.provenWrites .d2 (s.ddu.get .d2) = t := fun t => by
      unfold State.provenWrites
      simp [h]
    unfold State.closeTests
    extract_lets pins s1
    have h1 : ChangesOnly s strokeParts s1 := (updChan_changes ..).weaken
    refine .ite (proveStroke_plain s hproof) (.ite (.ite (.ite ?_ (h1.then (failStroke_d2_changes ..))) h1) (.refl _ _))
    exact (h1.then (updChan_changes ..)).then (ih rfl)

theorem startGateClose_plain : ChangesOnly s strokeParts s.startGateClose := by
  unfold State.startGateClose State.testClose
  have h1 := (updChan_changes s .d2 fun x => { x with closeDue := false }).then (beginStroke_changes _ .d2 true .engagement)
  exact (h1.weaken).then (closeTests_d2_changes rfl)

theorem gateCloseNow_plain : ChangesOnly s strokeParts s.gateCloseNow := by
  unfold State.gateCloseNow
  split
  · exact startGateClose_plain s
  · exact (updChan_changes ..).weaken
  · exact .refl _ _

theorem dropChannel_plain (c : Channel) : ChangesOnly s strokeParts (s.dropChannel c) := by
  have h := updChan_changes s c fun x => { x with engaged := none }
  exact .ite ((h.weaken).then (gateCloseNow_plain _)) h.weaken

theorem dropEngagements_plain (u : Nat) : ChangesOnly s strokeParts (s.dropEngagements u) :=
  ChangesOnly.foldl (fun t c => .ite (dropChannel_plain t c) (.refl _ _)) _ s

/-! ## O7: departures -/

theorem removeEntry_trk (e : TrackEntry) : (s.removeEntry e).trk =
    { s.trk with entries := s.trk.entries.filter (·.uid ≠ e.uid) } := by
  unfold State.removeEntry
  rw [(z3Changed_changes _).trk_eq, (endOverdue_changes ..).trk_eq, (dropTestEntry_changes ..).trk_eq,
    (dropEngagements_plain ..).trk_eq]
  rfl

theorem removeEntry_fleet (e : TrackEntry) : (s.removeEntry e).fleet = s.fleet := by
  unfold State.removeEntry
  rw [(z3Changed_changes _).fleet_eq, (endOverdue_changes ..).fleet_eq, (dropTestEntry_changes ..).fleet_eq,
    (dropEngagements_plain ..).fleet_eq]
  rfl

/-- The fleet after a departure: the cabin is IN_LINE (R16). -/
theorem depart_fleetRec (e : TrackEntry) (k : Nat) : (s.depart e).fleetRec k =
    (s.updFleetRec e.cabin fun r => { r with state := .inLine }).fleetRec k := by
  have hfleet : (s.depart e).fleet = ((s.removeEntry e).setFleetState e.cabin .inLine).fleet := by
    unfold State.depart
    rw [(departureCheck_changes ..).fleet_eq, journal_fleet]
  rw [fleetRec_congr hfleet]
  refine fleetRec_congr ?_ k
  simp only [State.setFleetState, State.updFleetRec]
  split
  · exact removeEntry_fleet s e
  · rw [State.updFleet_fleet, State.updFleet_fleet, removeEntry_fleet]

end

/-- Settles O7: the effects of a departure. -/
theorem departureRemovesEntry : Obligations.DepartureRemovesEntry := by
  intro s e htracking hmoving hfront hhalf
  have hedge : s.boundaryEdge .b6 = s.depart e :=
    (edgeAt_moving htracking hmoving 6).trans ((testEdge_match hfront hhalf).trans (if_pos rfl))
  refine ⟨finish s (s.boundaryEdge .b6), rfl, ?_, fun hpos hlen => ?_, fun k hk => ?_, ?_, ?_⟩
  · rw [finish_trk, hedge, State.depart, (departureCheck_changes ..).trk_eq, journal_trk,
      (setFleetState_changes ..).trk_eq, removeEntry_trk]
  · rw [fleetRec_congr (finish_fleet ..), hedge, depart_fleetRec, fleetRec_updFleetRec_same s _ hpos hlen]
  · rw [fleetRec_congr (finish_fleet ..), hedge, depart_fleetRec, fleetRec_updFleetRec_ne s _ hk]
  · rw [finish_lch, hedge]
    rfl
  · rw [hedge]
    exact (depart_changes s e).finish

end Sys2Proof.Machine
end

section
/-! PROOF. The gate's layer: what a decision at the gate leaves of the launch unit, and what the doors leave of it as the
gate D2 closes (R36, R44, R71 to R73, R78). -/

namespace Sys2Proof.Machine

-- One lemma at a time, as in Laws/State.lean.
set_option Elab.async false

open Sys2Proof

/-! ## Runs that leave the gate as it is -/

/-- A run from `s` to `t` leaves the launch unit as it is, but for the barred notice and the proof timer. -/
abbrev State.SameGate (s t : State) : Prop := s.lch.SameGate t.lch

section
variable {s t u : State} {c : Channel}

theorem State.SameGate.frame {ps : List Part} (h : s.SameGate t) (hc : ChangesOnly t ps u)
    (hp : .lch ∉ ps := by decide) : s.SameGate u := h.trans (.of_eq (hc.lch_eq hp))

theorem State.SameGate.ite {b : Prop} [Decidable b] (h1 : s.SameGate t) (h2 : s.SameGate u) :
    s.SameGate (if b then t else u) := by
  split <;> assumption

theorem State.SameGate.foldl {α : Type} {f : State → α → State} (h : s.SameGate t)
    (hf : ∀ (v : State) x, s.SameGate v → s.SameGate (f v x)) (xs : List α) : s.SameGate (xs.foldl f t) :=
  List.foldlRecOn xs f h fun v hv x _ => hf v x hv

theorem State.SameGate.raiseCause (h : s.SameGate t) {code : CauseCode} {category : Category} {index : Nat} :
    s.SameGate (t.raiseCause code category index) := h.trans (raiseCause_sameGate ..)

theorem State.SameGate.endCause (h : s.SameGate t) {code : CauseCode} {index : Nat} :
    s.SameGate (t.endCause code index) := h.trans (endCause_sameGate ..)

theorem State.SameGate.raiseOnce (h : s.SameGate t) {code : CauseCode} {category : Category} {index : Nat} :
    s.SameGate (t.raiseOnce code category index) := h.trans (raiseOnce_sameGate ..)

theorem State.SameGate.updChan (h : s.SameGate t) {f : Chan → Chan} : s.SameGate (t.updChan c f) := h

theorem State.SameGate.driveOffFollow (h : s.SameGate t) {old new : DriveMode} :
    s.SameGate (t.driveOffFollow c old new) := .ite (.ite h.raiseCause (.ite h.endCause h)) h

theorem State.SameGate.setMode (h : s.SameGate t) {mode : DriveMode} {reason : ChangeReason} :
    s.SameGate (t.setMode c mode reason) :=
  .ite h (State.SameGate.driveOffFollow (State.SameGate.frame (State.SameGate.frame h.updChan
    (offReleases_changes ..)) (journal_changes ..)))

theorem State.SameGate.applyPending (h : s.SameGate t) : s.SameGate (t.applyPending c) := by
  unfold State.applyPending
  split
  · exact h
  · exact h.updChan.setMode

theorem State.SameGate.completeStroke (h : s.SameGate t) {x : Chan} {r : ResultCode} :
    s.SameGate (t.completeStroke c x r) := h.frame (completeStroke_changes ..)

theorem State.SameGate.failCause (h : s.SameGate t) {x : Chan} : s.SameGate (t.failCause c x) :=
  .ite h.raiseOnce (.ite h.raiseCause h.raiseCause)

/-- A proof that writes no entry leaves the gate as it is. -/
theorem State.SameGate.proveStroke (h : s.SameGate t) (hplain : ∀ v : State, v.provenWrites c (t.ddu.get c) = v) :
    s.SameGate (t.proveStroke c) := by
  unfold State.proveStroke
  dsimp only
  rw [hplain]
  exact h.updChan.updChan.completeStroke.applyPending

/-- A failure that writes no entry leaves the gate as it is. -/
theorem State.SameGate.failStroke (h : s.SameGate t) {fault : DoorFault}
    (hplain : ∀ v : State, v.failWrites c (t.ddu.get c) = v) : s.SameGate (t.failStroke c fault) := by
  unfold State.failStroke
  dsimp only
  rw [hplain]
  exact ((h.updChan.updChan.failCause.frame (journal_changes ..)).completeStroke).applyPending

/-- A proof writes nothing for the gate's close stroke (R42). -/
theorem provenWrites_d2_close {v : State} {x : Chan} (h : x.state = .strokingClose) : v.provenWrites .d2 x = v := by
  unfold State.provenWrites
  simp [h]

theorem State.SameGate.closeTests {n : Nat} (h : s.SameGate t) (hclose : (t.ddu.get .d2).state = .strokingClose) :
    s.SameGate (State.closeTests .d2 n t) := by
  induction n generalizing t with
  | zero => exact h
  | succ n ih =>
    exact .ite (h.proveStroke fun _ => provenWrites_d2_close hclose)
      (.ite (.ite (.ite (ih h.updChan.updChan rfl) (h.updChan.failStroke fun _ => rfl)) h.updChan) h)

theorem State.SameGate.startGateClose (h : s.SameGate t) : s.SameGate t.startGateClose :=
  State.SameGate.closeTests (h.updChan.frame (beginStroke_changes ..)) rfl

theorem State.SameGate.gateCloseNow (h : s.SameGate t) : s.SameGate t.gateCloseNow := by
  unfold State.gateCloseNow
  split
  · exact h.startGateClose
  · exact h.updChan
  · exact h

theorem State.SameGate.dropChannel (h : s.SameGate t) : s.SameGate (t.dropChannel c) :=
  .ite h.updChan.gateCloseNow h.updChan

theorem State.SameGate.dropEngagements (h : s.SameGate t) {n : Nat} : s.SameGate (t.dropEngagements n) :=
  h.foldl (fun _ _ hv => .ite hv.dropChannel hv) _

theorem State.SameGate.dropAllEngagements (h : s.SameGate t) : s.SameGate t.dropAllEngagements :=
  h.foldl (fun _ _ hv => .ite hv.dropChannel hv) _

theorem State.SameGate.endOverdue (h : s.SameGate t) {e : TrackEntry} : s.SameGate (t.endOverdue e) :=
  .ite (.ite h.endCause (.ite h h.endCause)) h

theorem State.SameGate.endAllOverdue (h : s.SameGate t) {es : List TrackEntry} : s.SameGate (t.endAllOverdue es) :=
  h.foldl (fun _ _ hv => .ite hv.endCause hv) _

/-- The Z3 count and LAUNCH_QUEUE_FULL aside, a new count leaves the gate as it is (R78). -/
theorem z3Changed_sameGate (s : State) :
    ∃ n b, Lch.SameGate { s.lch with z3Count := n, queueFull := b } s.z3Changed.lch := by
  unfold State.z3Changed
  dsimp only
  split_ifs
  · exact ⟨s.lch.z3Count, s.lch.queueFull, rfl⟩
  · exact ⟨s.countZ3, true, raiseCause_sameGate ..⟩
  · exact ⟨s.countZ3, false, endCause_sameGate ..⟩
  · exact ⟨s.countZ3, s.lch.queueFull, rfl⟩

end

/-! ## A decision at the gate (R72, R73, R76, R80) -/

/-- Two values of the launch unit agree but for what a decision changes: the gate, the last launch with D_L, the barred
notice and the proof timer. -/
def Lch.SameStay (l m : Lch) : Prop :=
  m = { l with gate := m.gate, lastLaunch := m.lastLaunch, dL := m.dL, barredNotice := m.barredNotice
               proofTimer := m.proofTimer }

theorem Lch.SameStay.refl (l : Lch) : l.SameStay l := rfl

theorem Lch.SameStay.trans {l m n : Lch} (h1 : l.SameStay m) (h2 : m.SameStay n) : l.SameStay n := by
  unfold Lch.SameStay at *
  rw [h2, h1]

section
variable {l m : Lch} (h : l.SameStay m)
include h

theorem Lch.SameStay.gateEntry : m.gateEntry = l.gateEntry := by rw [h]
theorem Lch.SameStay.divert : m.divert = l.divert := by rw [h]
theorem Lch.SameStay.proofExpired : m.proofExpired = l.proofExpired := by rw [h]
theorem Lch.SameStay.insertion : m.insertion = l.insertion := by rw [h]
theorem Lch.SameStay.sampling : m.sampling = l.sampling := by rw [h]
theorem Lch.SameStay.testEntry : m.testEntry = l.testEntry := by rw [h]
theorem Lch.SameStay.peak : m.peak = l.peak := by rw [h]
theorem Lch.SameStay.lastReading : m.lastReading = l.lastReading := by rw [h]
theorem Lch.SameStay.lastDeparture : m.lastDeparture = l.lastDeparture := by rw [h]
end

section
variable (s : State)

theorem proofTimerFollow_gate : s.proofTimerFollow.lch.gate = s.lch.gate := rfl

/-- The decision of an entry that stands at the gate in HOLDING (R72). -/
theorem gateDecide_holding {e : TrackEntry} (hgate : s.lch.gate = .holding) (hentry : s.gateEntry? = some e) :
    s.gateDecide =
      if s.entryGarage e then (if s.divertTest then s.updLch fun l => { l with gate := .diverting } else s)
      else if s.entryBarred e then s.noteBarred e.cabin
      else if s.launchTest e then s.launch e.cabin
      else s := by
  simp [State.gateDecide, hgate, hentry]

/-- Outside HOLDING nothing is decided. -/
theorem gateDecide_not_holding (h : s.lch.gate ≠ .holding) : s.gateDecide = s := if_neg h

theorem gateDecide_no_entry (h : s.gateEntry? = none) : s.gateDecide = s := by
  unfold State.gateDecide
  simp [h]

theorem noteBarred_sameGate (n : Nat) : s.SameGate (s.noteBarred n) := by
  unfold State.noteBarred
  split
  · rfl
  · rw [State.SameGate, State.updLch_lch, journal_lch]
    rfl

theorem launch_lch (n : Nat) : (s.launch n).lch = { s.lch with gate := .launching, lastLaunch := s.rpm.dist, dL := 0 } := by
  simp [State.launch]

theorem gateDecide_sameStay : s.lch.SameStay s.gateDecide.lch := by
  unfold State.gateDecide
  split
  · split
    · rfl
    · split_ifs
      · rfl
      · rfl
      · rw [Lch.SameStay, noteBarred_sameGate s]
      · rw [launch_lch]
        rfl
      · rfl
  · rfl

theorem gateEvent_sameStay : s.lch.SameStay s.gateEvent.lch := (gateDecide_sameStay s).trans rfl

/-- A decision empties no gate. -/
theorem gateEvent_not_empty (h : s.lch.gate ≠ .empty) : s.gateEvent.lch.gate ≠ .empty := by
  rw [State.gateEvent, proofTimerFollow_gate]
  unfold State.gateDecide
  split
  · split
    · exact h
    · split_ifs
      · exact GateState.noConfusion
      · exact h
      · rw [(noteBarred_sameGate ..).gate]
        exact h
      · rw [launch_lch]
        exact GateState.noConfusion
      · exact h
  · exact h

/-- An entry that is not marked for the garage and is barred or not proven stays held (R73). -/
theorem gateEvent_held {e : TrackEntry} (hentry : s.gateEntry? = some e) (hgarage : s.entryGarage e = false)
    (hproven : s.entryBarred e = true ∨ s.proven e = false) : s.SameGate s.gateEvent := by
  refine Lch.SameGate.trans ?_ (proofTimerFollow_sameGate _)
  by_cases hgate : s.lch.gate = .holding
  · rw [gateDecide_holding s hgate hentry, hgarage, if_neg (by simp)]
    split_ifs with hbarred hlaunch
    · exact noteBarred_sameGate ..
    · rcases hproven with h | h
      · exact absurd h hbarred
      · simp [State.launchTest, h] at hlaunch
    · rfl
  · rw [gateDecide_not_holding s hgate]
    exact .refl _

/-! ## Entering HOLDING (R71) -/

/-- The track with the entry's door state LATCHED while LATCH is active (R4, R75). -/
theorem enterHolding_trk (n : Nat) :
    (s.enterHolding n).trk = (s.when s.pins.latch (·.updEntry n fun e => { e with door := .latched })).trk := by
  unfold State.enterHolding
  dsimp only
  split
  · rw [gateEvent_trk]
    rfl
  · rfl

/-- What a decision finds as an entry comes to an empty gate. -/
def State.comeToGate (s : State) (n : Nat) : State :=
  ((s.when s.pins.latch (·.updEntry n fun e => { e with door := .latched })).updLch fun l =>
    { l with gate := .holding, gateEntry := some n, estimate := 65535 }).updHeld fun h => { h with gate := true }

theorem enterHolding_empty {n : Nat} (h : s.lch.gate = .empty) : s.enterHolding n = (s.comeToGate n).gateEvent :=
  if_pos h

end

end Sys2Proof.Machine
end

section
/-! PROOF. The gate's arrival, window ends, rebuilding and the cabin orders (O8 to O11; R17 to R26). -/

namespace Sys2Proof.Machine

-- One lemma at a time, as in Laws/State.lean.
set_option Elab.async false

open Sys2Proof

/-! ## O8: a cabin comes to the gate -/

/-- Settles O8: AT_GATE, and the hold of the gate with its decision. -/
theorem cabinComesToGate : Obligations.CabinComesToGate := by
  intro s e htracking hmoving hfront hat hempty hnodup
  let u := (s.updPins fun p => { p with b4 := true }).updEntry e.uid fun x => { x with atGate := true }
  have hedge : s.edgeB4 = (u.comeToGate e.uid).gateEvent := by
    have hstand : s.edgeB4 = u.enterHolding e.uid := by
      simp only [State.edgeB4, State.updPins_trk, State.updPins_rpm, htracking, hmoving, reduceCtorEq, if_false,
        Bool.false_eq_true, State.standAtGate]
      rw [show (s.updPins _).frontOf 3 = some e from hfront]
      simp only [hat, Bool.false_eq_true, if_false]
      rfl
    rw [hstand, enterHolding_empty u hempty]
  have hgate := gateEvent_sameStay (u.comeToGate e.uid)
  refine ⟨finish s s.edgeB4, rfl, ?_, ?_, ?_, ?_, fun hlatch hgarage => ?_, ?_⟩
  · rw [finish_pins, hedge, gateEvent_pins]
    unfold State.comeToGate State.when
    split <;> rfl
  · rw [finish_trk, hedge, gateEvent_trk]
    simp only [State.comeToGate, State.when, State.updHeld_trk, State.updLch_trk]
    change (if s.pins.latch = true then _ else _ : State).trk.entries = _
    split
    · next h =>
      simp only [u, State.updEntry, State.updTrk_trk, State.updPins_trk, List.map_map]
      refine List.map_congr_left fun x _ => ?_
      simp only [Function.comp_apply]
      split <;> simp_all
    · next h =>
      simp only [u, State.updEntry, State.updTrk_trk, State.updPins_trk]
  · rw [finish_lch, hedge, hgate.gateEntry]
    rfl
  · rw [finish_lch, hedge]
    exact gateEvent_not_empty _ GateState.noConfusion
  · rw [finish_lch, hedge]
    have hplain : u.comeToGate e.uid = (u.updLch fun l =>
        { l with gate := .holding, gateEntry := some e.uid, estimate := 65535 }).updHeld fun h =>
          { h with gate := true } := by
      unfold State.comeToGate
      rw [show u.pins.latch = false from hlatch]
      rfl
    have hentry : (u.comeToGate e.uid).gateEntry? = some { e with atGate := true } := by
      rw [hplain]
      change u.entry e.uid = _
      have huid : ∀ x : TrackEntry, ({ x with atGate := true } : TrackEntry).uid = x.uid := fun _ => rfl
      refine (entry_updEntry_same (s.updPins fun p => { p with b4 := true }) huid).trans ?_
      rw [show (s.updPins _).entry e.uid = some e from entry_of_mem hnodup (mem_of_frontOf hfront)]
      rfl
    have hheld : (u.comeToGate e.uid).SameGate (u.comeToGate e.uid).gateEvent := by
      refine gateEvent_held _ hentry ?_ (.inr ?_)
      · rw [hplain]
        exact hgarage
      · have hpins : (u.comeToGate e.uid).pins.latch = false := by
          rw [hplain]
          exact hlatch
        simp [State.proven, hpins]
    exact hheld.gate
  · refine ChangesOnly.finish ?_
    rw [hedge]
    have h1 : ChangesOnly s [.pins, .trk] u := ((updPins_changes s _).weaken).then (updEntry_changes ..)
    have h2 : ChangesOnly s [.pins, .trk, .lch] (u.comeToGate e.uid) := by
      unfold State.comeToGate
      exact ((h1.weaken.then (.when (updEntry_changes ..))).then (updLch_changes ..)).then (updHeld_changes ..)
    exact h2.weaken.then (gateEvent_changes _)

/-! ## O9: window ends -/

/-- An entry as the overdue check leaves it, with the zone lengths (R19). -/
def TrackEntry.checked (len : Nat → Nat) (x : TrackEntry) : TrackEntry :=
  { x with overdue := x.overdue || (decide (x.zone ≠ 3) && decide (len x.zone * 12500 < x.travel)) }

theorem checked_checked (len : Nat → Nat) (x : TrackEntry) : (x.checked len).checked len = x.checked len := by
  simp [TrackEntry.checked]

theorem checked_of_not_due {len : Nat → Nat} {x : TrackEntry}
    (h : ¬ (x.zone ≠ 3 ∧ ¬ x.overdue ∧ len x.zone * 12500 < x.travel)) : x.checked len = x := by
  have hmark : (x.overdue || (decide (x.zone ≠ 3) && decide (len x.zone * 12500 < x.travel))) = x.overdue := by
    cases hover : x.overdue with
    | true => rfl
    | false =>
      simp only [hover, Bool.false_eq_true, not_false_eq_true, true_and] at h
      simpa using fun hzone => not_lt.mp fun hlt => h ⟨hzone, hlt⟩
  rw [TrackEntry.checked, hmark]

section
variable {s : State}

/-- The overdue check of one name checks its entry (R19). -/
theorem overdueCheck_entries (hnodup : (s.trk.entries.map (·.uid)).Nodup) (u : Nat) :
    (s.overdueCheck u).trk.entries = s.trk.entries.map fun x => if x.uid = u then x.checked s.zoneLen else x := by
  unfold State.overdueCheck
  split
  · next hnone =>
    have hne : ∀ x ∈ s.trk.entries, ¬ x.uid = u := by simpa [State.entry] using hnone
    rw [List.map_congr_left fun x hx => if_neg (hne x hx), List.map_id']
  · next e he =>
    have hsame : ∀ x ∈ s.trk.entries, x.uid = u → x = e := fun x hx huid => by
      have := entry_of_mem hnodup hx
      rw [huid, he] at this
      exact (Option.some.inj this).symm
    split
    · next hdue =>
      rw [raiseCause_trk]
      refine List.map_congr_left fun x hx => ?_
      split
      · next huid =>
        rw [hsame x hx huid]
        simp [TrackEntry.checked, hdue.1, hdue.2.2]
      · rfl
    · next hnot =>
      refine (List.map_id _).symm.trans (List.map_congr_left fun x hx => ?_)
      split
      · next huid => rw [hsame x hx huid, checked_of_not_due hnot, id]
      · rfl

theorem overdueCheck_zoneLen (u : Nat) : (s.overdueCheck u).zoneLen = s.zoneLen := by
  funext k
  simp only [State.zoneLen, (overdueCheck_changes s u).sst_eq]

theorem overdueChecks_entries (hnodup : (s.trk.entries.map (·.uid)).Nodup) (us : List Nat) :
    (us.foldl (fun t u => t.overdueCheck u) s).trk.entries =
      s.trk.entries.map fun x => if x.uid ∈ us then x.checked s.zoneLen else x := by
  induction us generalizing s with
  | nil => simp
  | cons u us ih =>
    have hentries := overdueCheck_entries hnodup u
    have hnodup' : ((s.overdueCheck u).trk.entries.map (·.uid)).Nodup := by
      rw [hentries, List.map_map, List.map_congr_left (g := fun x : TrackEntry => x.uid) fun x _ => ?_]
      · exact hnodup
      · simp only [Function.comp_apply]
        split <;> rfl
    rw [List.foldl_cons, ih hnodup', hentries, List.map_map, overdueCheck_zoneLen]
    refine List.map_congr_left fun x _ => ?_
    by_cases hu : x.uid = u
    · have hcheck : (x.checked s.zoneLen).uid = x.uid := rfl
      simp only [Function.comp_apply, hcheck, checked_checked, ite_self, List.mem_cons, hu, true_or, if_true]
    · simp only [Function.comp_apply, List.mem_cons, hu, false_or, if_false]

/-- The checks of every entry. -/
theorem overdueChecks_all (hnodup : (s.trk.entries.map (·.uid)).Nodup) :
    ((s.trk.entries.map (·.uid)).foldl (fun t u => t.overdueCheck u) s).trk.entries =
      s.trk.entries.map (·.checked s.zoneLen) := by
  rw [overdueChecks_entries hnodup]
  exact List.map_congr_left fun x hx => if_pos (List.mem_map_of_mem hx)

/-- Zone travel leaves the names (R18). -/
theorem accrue_uid (x : TrackEntry) : (s.accrue x).uid = x.uid := by
  unfold State.accrue
  split <;> rfl

/-- The track with its travel, before the checks (R18). -/
def State.accrued (s : State) : State := s.updTrk fun t => { t with entries := t.entries.map s.accrue }

theorem accrued_nodup (hnodup : (s.trk.entries.map (·.uid)).Nodup) :
    (s.accrued.trk.entries.map (·.uid)).Nodup := by
  have hmap : s.accrued.trk.entries.map (·.uid) = s.trk.entries.map (·.uid) := by
    simp only [State.accrued, State.updTrk_trk, List.map_map]
    exact List.map_congr_left fun x _ => accrue_uid x
  rw [hmap]
  exact hnodup

/-- The window end in TRACKING: travel, the checks, the close point. -/
theorem trackWindow_tracking (h : s.trk.state = .tracking) : s.trackWindow =
    ((s.accrued.trk.entries.map (·.uid)).foldl (fun t u => t.overdueCheck u) s.accrued).closePointCheck :=
  if_neg (by simp [h])

end

/-- Settles O9: travel, then the checks, which the close point leaves. -/
theorem windowEndAccruesTravel : Obligations.WindowEndAccruesTravel := by
  intro s htracking hnodup
  have hsame := (State.SamePlaces.closePointCheck
    (.refl ((s.accrued.trk.entries.map (·.uid)).foldl (fun t u => t.overdueCheck u) s.accrued).trk)).places
  refine ⟨finish s s.trackWindow, rfl, ?_, (trackWindow_changes s).finish⟩
  rw [finish_trk, trackWindow_tracking htracking, hsame, overdueChecks_all (accrued_nodup hnodup)]
  simp only [State.accrued, State.updTrk_trk, List.map_map]
  refine List.map_congr_left fun x _ => ?_
  simp only [Function.comp_apply, State.accrue]
  split
  · next hzone => simp [TrackEntry.checked, TrackEntry.place, hzone]
  · next hzone => simp [TrackEntry.checked, TrackEntry.place, hzone, State.zoneLen]

/-! ## O10: rebuilding -/

/-- An entry without its door state and AT_GATE. -/
def TrackEntry.doorless (x : TrackEntry) : TrackEntry := { x with door := .unknown, atGate := false }

/-- Two tracks agree but for door states and AT_GATE. -/
structure Trk.SameButDoors (k l : Trk) : Prop where
  rest : l = { k with entries := l.entries }
  entries : l.entries.map (·.doorless) = k.entries.map (·.doorless)

theorem Trk.SameButDoors.refl (k : Trk) : k.SameButDoors k := ⟨rfl, rfl⟩

theorem Trk.SameButDoors.of_eq {k l : Trk} (h : l = k) : k.SameButDoors l := by rw [h]; exact .refl k

theorem Trk.SameButDoors.trans {k l m : Trk} (h1 : k.SameButDoors l) (h2 : l.SameButDoors m) : k.SameButDoors m :=
  ⟨by rw [h2.rest, h1.rest], h2.entries.trans h1.entries⟩

/-- What is read of entries without their doors is the same of both. -/
theorem Trk.SameButDoors.map {α : Type} {k l : Trk} (h : k.SameButDoors l) {g : TrackEntry → α}
    (hg : ∀ x, g x = g x.doorless := by exact fun _ => rfl) : l.entries.map g = k.entries.map g := by
  have hcomp : ∀ es : List TrackEntry, es.map g = (es.map (·.doorless)).map g := fun es => by
    rw [List.map_map]
    exact List.map_congr_left fun x _ => hg x
  rw [hcomp, h.entries, ← hcomp]

section
variable (s : State)

theorem updEntry_sameButDoors (u : Nat) {f : TrackEntry → TrackEntry} (hf : ∀ x, (f x).doorless = x.doorless) :
    s.trk.SameButDoors (s.updEntry u f).trk := by
  refine ⟨rfl, ?_⟩
  simp only [State.updEntry, State.updTrk_trk, List.map_map]
  refine List.map_congr_left fun x _ => ?_
  simp only [Function.comp_apply]
  split
  · exact hf x
  · rfl

theorem rebuildAtGate_sameButDoors : s.trk.SameButDoors s.rebuildAtGate.trk := by
  unfold State.rebuildAtGate
  split
  · split
    · exact .refl _
    · exact updEntry_sameButDoors s _ fun _ => rfl
  · exact .refl _

theorem gateRebuilt_sameButDoors : s.trk.SameButDoors s.gateRebuilt.trk := by
  unfold State.gateRebuilt
  extract_lets s1 s2
  have h1 : s1.trk = s.trk := (gateEmpty_changes _).trk_eq
  rw [(z3Changed_changes s2).trk_eq, ← h1]
  simp only [s2]
  split
  · exact .refl _
  · rw [enterHolding_trk]
    unfold State.when
    split
    · exact updEntry_sameButDoors s1 _ fun _ => rfl
    · exact .refl _

/-- The fleet as a rebuild takes it: every engagement dropped, the OVERDUE conditions ended, the new list in place. -/
def State.cleared (s : State) (pairs : List (Nat × Nat)) : State :=
  (((((s.updTrk fun t => { t with window := none }).dropAllEngagements).endAllOverdue s.trk.entries).updTrk fun t =>
    { t with entries := rebuiltEntries s.rpm.dist t.nextUid pairs, nextUid := t.nextUid + pairs.length })).rebuildAtGate

theorem dropAllEngagements_plain : ChangesOnly s strokeParts s.dropAllEngagements :=
  ChangesOnly.foldl (fun t c => .ite (dropChannel_plain t c) (.refl _ _)) _ s

theorem cleared_trk (pairs : List (Nat × Nat)) : Trk.SameButDoors
    { s.trk with window := none, entries := rebuiltEntries s.rpm.dist s.trk.nextUid pairs
                 nextUid := s.trk.nextUid + pairs.length } (s.cleared pairs).trk := by
  refine Trk.SameButDoors.trans (.of_eq ?_) (rebuildAtGate_sameButDoors _)
  rw [State.updTrk_trk, (endAllOverdue_changes ..).trk_eq, (dropAllEngagements_plain _).trk_eq]
  rfl

theorem cleared_fleet (pairs : List (Nat × Nat)) : (s.cleared pairs).fleet = s.fleet := by
  unfold State.cleared
  rw [(rebuildAtGate_changes _).fleet_eq, State.updTrk_fleet, (endAllOverdue_changes ..).fleet_eq,
    (dropAllEngagements_plain _).fleet_eq]
  rfl

theorem cleared_divert (pairs : List (Nat × Nat)) : (s.cleared pairs).lch.divert = s.lch.divert := by
  unfold State.cleared
  rw [(rebuildAtGate_changes _).lch_eq, State.updTrk_lch]
  have h : (s.updTrk fun t => { t with window := none }).SameGate (s.updTrk fun t => { t with window := none }) := .refl _
  exact h.dropAllEngagements.endAllOverdue.divert

/-- What is left of a rebuild once the fleet is done. -/
theorem rebuild_rest (pairs : List (Nat × Nat)) : ∃ u : State,
    s.rebuild pairs = u.gateRebuilt ∧
    u.trk = { ((s.cleared pairs).rebuildFleet pairs).trk with lastArrival := none, state := .tracking } ∧
    u.fleet = ((s.cleared pairs).rebuildFleet pairs).fleet := by
  unfold State.rebuild
  extract_lets old s1 s2 s3 s4 s5
  have h4 : s4.trk = s3.trk ∧ s4.fleet = s3.fleet := by simp [s4]
  refine ⟨s5, rfl, ?_, ?_⟩
  · simp only [s5]
    split
    · rw [journal_trk, h4.1]
      rfl
    · rw [h4.1]
      rfl
  · simp only [s5]
    split
    · rw [journal_fleet, h4.2]
      rfl
    · rw [h4.2]
      rfl

theorem rebuild_trk (pairs : List (Nat × Nat)) : Trk.SameButDoors
    { s.trk with window := none, entries := rebuiltEntries s.rpm.dist s.trk.nextUid pairs
                 nextUid := s.trk.nextUid + pairs.length, lastArrival := none, state := .tracking }
    (s.rebuild pairs).trk := by
  obtain ⟨u, hu, htrk, -⟩ := rebuild_rest s pairs
  rw [hu]
  refine Trk.SameButDoors.trans ?_ (gateRebuilt_sameButDoors u)
  rw [htrk, (rebuildFleet_changes ..).trk_eq]
  have h := cleared_trk s pairs
  exact ⟨by rw [h.rest], h.entries⟩

theorem rebuild_fleet (pairs : List (Nat × Nat)) :
    (s.rebuild pairs).fleet = ((s.cleared pairs).rebuildFleet pairs).fleet := by
  obtain ⟨u, hu, -, hfleet⟩ := rebuild_rest s pairs
  have hframe : ChangesOnly u [.trk, .msv, .lch, .lnc, .cal, .mem, .news, .journal, .contexts] u.gateRebuilt := by
    unfold State.gateRebuilt
    extract_lets s1 s2
    have h1 : ChangesOnly u [.trk, .msv, .lch, .lnc, .cal, .mem, .news, .journal, .contexts] s1 :=
      (updLch_changes u _).weaken.then (gateEmpty_changes _)
    have h2 : ChangesOnly u [.trk, .msv, .lch, .lnc, .cal, .mem, .news, .journal, .contexts] s2 := by
      simp only [s2]
      split
      · exact h1
      · exact h1.then (enterHolding_changes ..)
    exact h2.then (z3Changed_changes _)
  rw [hu, hframe.fleet_eq, hfleet]

/-! The fleet of a rebuild (R22). -/

theorem rebuildNamed_fleet (n : Nat) :
    (s.rebuildNamed n).fleet = (s.updFleetRec n fun r => { r with state := .inTerminal }).fleet := by
  unfold State.rebuildNamed State.setFleetState State.updFleetRec
  split_ifs <;> simp

/-- The named cabins take IN_TERMINAL, and no other record changes. -/
theorem rebuildNamed_foldl (named : List Nat) (k : Nat) :
    (named.foldl (fun t n => t.rebuildNamed n) s).fleet.length = s.fleet.length ∧
    (0 < k → k ≤ s.fleet.length → (k ∈ named ∨ (s.fleetRec k).state = .inTerminal) →
      ((named.foldl (fun t n => t.rebuildNamed n) s).fleetRec k).state = .inTerminal) ∧
    (k ∉ named → (named.foldl (fun t n => t.rebuildNamed n) s).fleetRec k = s.fleetRec k) := by
  induction named generalizing s with
  | nil => simp
  | cons n rest ih =>
    have hlength : (s.rebuildNamed n).fleet.length = s.fleet.length := by
      rw [rebuildNamed_fleet, updFleetRec_fleet_length]
    have hrec : (s.rebuildNamed n).fleetRec k = (s.updFleetRec n fun r => { r with state := .inTerminal }).fleetRec k :=
      fleetRec_congr (rebuildNamed_fleet s n) k
    obtain ⟨ihlength, ihnamed, ihother⟩ := ih (s.rebuildNamed n)
    refine ⟨ihlength.trans hlength, fun hpos hk hor => ?_, fun hnot => ?_⟩
    · refine ihnamed hpos (hk.trans_eq hlength.symm) ?_
      by_cases heq : k = n
      · subst heq
        exact .inr (by rw [hrec, fleetRec_updFleetRec_same s _ hpos hk])
      · rw [hrec, fleetRec_updFleetRec_ne s _ heq]
        simpa [heq] using hor
    · simp only [List.mem_cons, not_or] at hnot
      rw [List.foldl_cons, ihother hnot.2, hrec, fleetRec_updFleetRec_ne s _ hnot.1]

/-- The record of a cabin once those not named are taken out. -/
theorem rebuildFleet_fleetRec (pairs : List (Nat × Nat)) (hdivert : s.lch.divert = none) {k : Nat} (hpos : 0 < k)
    (hk : k ≤ s.fleet.length) :
    let named := (pairs.map (·.1)).filter (· ≠ 0)
    (s.rebuildFleet pairs).fleetRec k =
      unplaceUnnamed named none k ((named.foldl (fun t n => t.rebuildNamed n) s).fleetRec k) := by
  intro named
  have hlength := (rebuildNamed_foldl s named k).1
  have hlt : k - 1 < (named.foldl (fun t n => t.rebuildNamed n) s).fleet.length := by omega
  have hne : k ≠ 0 := by omega
  have hpred : k - 1 + 1 = k := by omega
  have hfleet : (s.rebuildFleet pairs).fleet = (named.foldl (fun t n => t.rebuildNamed n) s).fleet.mapIdx
      fun i r => unplaceUnnamed named none (i + 1) r := by
    simp only [State.rebuildFleet, State.updFleet_fleet, hdivert, Option.map_none, named]
  simp only [State.fleetRec, if_neg hne, hfleet, List.getElem?_mapIdx, List.getElem?_eq_getElem hlt, Option.map_some,
    Option.getD_some, hpred]

/-- A record in use belongs to a cabin of the fleet. -/
theorem fleet_of_inTerminal {k : Nat} (h : (s.fleetRec k).state = .inTerminal) : k ≤ s.fleet.length := by
  by_contra hk
  have hnone : s.fleet[k - 1]? = none := List.getElem?_eq_none (by omega)
  simp [State.fleetRec, hnone] at h

end

theorem map_rebuiltEntries (dist : DWord) (uid : Nat) (pairs : List (Nat × Nat)) :
    (rebuiltEntries dist uid pairs).map (fun x => (x.cabin, x.zone, x.travel, x.arrivalDist, x.overdue, x.waiver)) =
      pairs.map (fun p => (p.1, p.2, 0, dist, false, true)) := by
  induction pairs generalizing uid with
  | nil => rfl
  | cons p rest ih => simp [rebuiltEntries, ih]

/-- What a carried-out short order leaves in its slip and outside it. -/
theorem short_answered {s u : State} {slip : Nat} {o : Order} {r : OrderResult} (hslip : slip < 32)
    (hwf : Memory.wf s.mem = true) {ps : List Part} (hframe : ChangesOnly s ps u)
    (hdata : r.data.length ≤ 16) (hrun : s.dispatch slip o = u.writeResult slip r) (hcells : .cells ∉ ps := by decide) :
    (finish s (s.dispatch slip o)).Answered slip r := by
  rw [hrun]
  exact answered_of_writeResult hslip hdata ((hframe.same .cells hcells).2 hwf)

/-- Settles O10: the list, the fleet and the answer of a rebuild. -/
theorem rebuildReplacesTrack : Obligations.RebuildReplacesTrack := by
  intro s slip pairs hslip hwf hstate hstands hpairs hdivert
  have hrefusal : s.rebuildRefusal pairs = none := by
    simp [State.rebuildRefusal, hstate, hstands, hpairs, hdivert]
  have hrun : s.dispatch slip (.rebuildTrack pairs) = (s.rebuild pairs).writeResult slip resultOk := by
    rw [dispatch_short rfl (.inr rfl)]
    simp [State.runShort, hrefusal]
  have htrk : (finish s (s.dispatch slip (.rebuildTrack pairs))).trk = (s.rebuild pairs).trk := by
    rw [finish_trk, hrun, writeResult_trk]
  have hsame := rebuild_trk s pairs
  have hfleet : ∀ k, (finish s (s.dispatch slip (.rebuildTrack pairs))).fleetRec k =
      ((s.cleared pairs).rebuildFleet pairs).fleetRec k := fun k =>
    fleetRec_congr (by rw [finish_fleet, hrun, writeResult_fleet, rebuild_fleet]) k
  have hdivert' : (s.cleared pairs).lch.divert = none := (cleared_divert s pairs).trans hdivert
  have hlength : (s.cleared pairs).fleet.length = s.fleet.length := by rw [cleared_fleet]
  refine ⟨finish s (s.dispatch slip (.rebuildTrack pairs)), rfl, ?_, ?_, ?_, ?_, ?_, fun p hp hpos hlen => ?_,
    fun k hin hnamed hpos => ?_, ?_, ?_⟩
  · rw [htrk, hsame.rest]
  · rw [htrk, hsame.rest]
  · rw [htrk, hsame.rest]
  · rw [htrk, hsame.map, map_rebuiltEntries]
  · rw [htrk, hsame.rest]
  · have hmem : p.1 ∈ (pairs.map (·.1)).filter (· ≠ 0) :=
      List.mem_filter.mpr ⟨List.mem_map_of_mem hp, by simpa using Nat.pos_iff_ne_zero.mp hpos⟩
    rw [hfleet, rebuildFleet_fleetRec _ pairs hdivert' hpos (hlen.trans_eq hlength.symm)]
    have hstate' := (rebuildNamed_foldl (s.cleared pairs) ((pairs.map (·.1)).filter (· ≠ 0)) p.1).2.1 hpos
      (hlen.trans_eq hlength.symm) (.inl hmem)
    rw [unplaceUnnamed, if_neg (fun h => h.2.1 (by simpa using hmem))]
    exact hstate'
  · have hk := fleet_of_inTerminal s hin
    have hnot : k ∉ (pairs.map (·.1)).filter (· ≠ 0) := fun h => by
      obtain ⟨p, hp, heq⟩ := List.mem_map.mp (List.mem_filter.mp h).1
      exact hnamed p hp heq
    rw [hfleet, rebuildFleet_fleetRec _ pairs hdivert' hpos (hk.trans_eq hlength.symm),
      (rebuildNamed_foldl (s.cleared pairs) ((pairs.map (·.1)).filter (· ≠ 0)) k).2.2 hnot,
      fleetRec_congr (cleared_fleet s pairs), unplaceUnnamed, if_pos ⟨hin, by simpa using hnot, by simp⟩]
  · exact short_answered hslip hwf (rebuild_changes s pairs) (by decide) hrun
  · rw [hrun]
    exact ((rebuild_changes s pairs).then (writeResult_changes _ ..)).finish

/-! ## O11: cabin orders -/

section
variable {s : State} {slip n : Nat}

/-- What an order that writes one fleet record does, once its block has accepted it. -/
theorem flagOrder_effect {o : Order} {u : State} {f : FleetRec → FleetRec} (hslip : slip < 32)
    (hwf : Memory.wf s.mem = true) (hn : 1 ≤ n ∧ n ≤ s.fleet.length)
    (hrun : s.dispatch slip o = u.writeResult slip resultOk) (hfleet : u.fleet = (s.updFleetRec n f).fleet)
    (hframe : ChangesOnly s [.fleet, .lch, .journal, .news] u) :
    let t := finish s (s.dispatch slip o)
    t.fleetRec n = f (s.fleetRec n) ∧ (∀ k, k ≠ n → t.fleetRec k = s.fleetRec k) ∧ t.Answered slip resultOk ∧
      SlipOnly slip s t ∧ ChangesOnly s [.fleet, .lch, .journal, .news, .mem] t := by
  intro t
  have hrec : ∀ k, t.fleetRec k = (s.updFleetRec n f).fleetRec k := fun k =>
    fleetRec_congr (by rw [finish_fleet, hrun, writeResult_fleet, hfleet]) k
  refine ⟨?_, fun k hk => ?_, short_answered hslip hwf hframe (by decide) hrun, fun a ha => ?_, ?_⟩
  · rw [hrec, fleetRec_updFleetRec_same s f (by omega) hn.2]
  · rw [hrec, fleetRec_updFleetRec_ne s f hk]
  · rw [finish_mem, hrun, ← hframe.mem_eq]
    exact writeResult_slipOnly u slip resultOk a ha
  · simp only [t]
    rw [hrun]
    exact (hframe.weaken.then (writeResult_changes _ ..)).finish

theorem setBarred_fleet (b : Bool) :
    (s.setBarred n b).fleet = (s.updFleetRec n fun r => { r with barred := b }).fleet := (flagEvent_changes ..).fleet_eq

theorem setGarage_fleet (b : Bool) :
    (s.setGarage n b).fleet = (s.updFleetRec n fun r => { r with garagePending := b }).fleet :=
  (flagEvent_changes ..).fleet_eq

end

/-- Settles O11: each cabin order writes its flag. -/
theorem cabinOrdersSetTheirFlag : Obligations.CabinOrdersSetTheirFlag := by
  intro s slip n hslip hwf hstandby hlow hhigh hfleet
  have hok : cabinOk n = true := by simp [cabinOk, hlow, hhigh]
  have hn : 1 ≤ n ∧ n ≤ s.fleet.length := ⟨hlow, by omega⟩
  refine ⟨⟨finish s (s.dispatch slip (.barCabin n)), rfl, ?_⟩,
    fun hweak => ⟨finish s (s.dispatch slip (.unbarCabin n)), rfl, ?_⟩,
    fun hreg hnot => ⟨finish s (s.dispatch slip (.garageCabin n)), rfl, ?_⟩⟩
  · refine flagOrder_effect hslip hwf hn ?_ (setBarred_fleet true) (setBarred_changes ..)
    rw [dispatch_short rfl (.inl hstandby)]
    simp [State.runShort, State.barCabin, hok]
  · refine flagOrder_effect hslip hwf hn ?_ (setBarred_fleet false) (setBarred_changes ..)
    rw [dispatch_short rfl (.inl hstandby)]
    simp [State.runShort, State.unbarCabin, hok, Nat.not_le.mpr hweak]
  · refine flagOrder_effect hslip hwf hn ?_ (setGarage_fleet true) (setGarage_changes ..)
    rw [dispatch_short rfl (.inl hstandby)]
    simp [State.runShort, State.garageCabin, hok, hreg, hnot]

end Sys2Proof.Machine
end

section
/-! PROOF. The channels' layer: what each operation of the door drive unit leaves in `ddu`, channel by channel (R28 to R46). -/

namespace Sys2Proof.Machine

-- One lemma at a time, as in Laws/State.lean.
set_option Elab.async false

open Sys2Proof

/-! ## Values per channel -/

@[simp] theorem PerChannel.get_set_same {α : Type} (p : PerChannel α) (c : Channel) (x : α) : (p.set c x).get c = x := by
  cases c <;> rfl

theorem PerChannel.get_set_ne {α : Type} (p : PerChannel α) {c d : Channel} (h : d ≠ c) (x : α) :
    (p.set c x).get d = p.get d := by
  cases c <;> cases d <;> simp [PerChannel.get, PerChannel.set] at h ⊢

@[simp] theorem PerChannel.set_set {α : Type} (p : PerChannel α) (c : Channel) (x y : α) :
    (p.set c x).set c y = p.set c y := by
  cases c <;> rfl

@[simp] theorem PerChannel.set_get {α : Type} (p : PerChannel α) (c : Channel) : p.set c (p.get c) = p := by
  cases c <;> rfl

/-! ## What an operation makes of its channel -/

/-- A mode in effect (R31, R45): OFF on D2 releases its engagement. -/
def Chan.withMode (c : Channel) (x : Chan) (m : DriveMode) : Chan :=
  if x.mode = m then x
  else if c = .d2 ∧ m = .off then { x with mode := m, engaged := none, closeDue := false }
  else { x with mode := m }

/-- The pending mode in effect (R31). -/
def Chan.pendingApplied (c : Channel) (x : Chan) : Chan :=
  x.pendingMode.elim x fun m => Chan.withMode c { x with pendingMode := none } m

/-- The STROKE order is answered (R46). -/
def Chan.completed (x : Chan) : Origin → Chan
  | .engagement => x
  | .order _ => { x with origin := .engagement }

/-- A proven stroke (R38, R39). -/
def Chan.proved (c : Channel) (x : Chan) : Chan :=
  Chan.pendingApplied c (Chan.completed
    { x with state := .idle, timer := none, engaged := if keepsEngagement c x then x.engaged else none
             closeDue := keepsEngagement c x && x.closeDue } x.origin)

/-- A failed stroke (R41). -/
def Chan.failed (c : Channel) (x : Chan) : Chan :=
  Chan.pendingApplied c (Chan.completed
    { x with state := failedState c x, timer := none, engaged := none, closeDue := false } x.origin)

section
variable (c : Channel) (x : Chan)

@[simp] theorem withMode_mode (m : DriveMode) : (x.withMode c m).mode = m := by
  unfold Chan.withMode
  split_ifs with h <;> simp [h]

@[simp] theorem withMode_state (m : DriveMode) : (x.withMode c m).state = x.state := by
  unfold Chan.withMode
  split_ifs <;> rfl

@[simp] theorem withMode_timer (m : DriveMode) : (x.withMode c m).timer = x.timer := by
  unfold Chan.withMode
  split_ifs <;> rfl

@[simp] theorem withMode_pendingMode (m : DriveMode) : (x.withMode c m).pendingMode = x.pendingMode := by
  unfold Chan.withMode
  split_ifs <;> rfl

theorem withMode_engaged {x : Chan} (h : x.engaged = none) (m : DriveMode) : (x.withMode c m).engaged = none := by
  unfold Chan.withMode
  split_ifs <;> simp [h]

theorem withMode_closeDue {x : Chan} (h : x.closeDue = false) (m : DriveMode) : (x.withMode c m).closeDue = false := by
  unfold Chan.withMode
  split_ifs <;> simp [h]

@[simp] theorem pendingApplied_state : (x.pendingApplied c).state = x.state := by
  unfold Chan.pendingApplied
  cases x.pendingMode <;> simp

@[simp] theorem pendingApplied_timer : (x.pendingApplied c).timer = x.timer := by
  unfold Chan.pendingApplied
  cases x.pendingMode <;> simp

@[simp] theorem pendingApplied_pendingMode : (x.pendingApplied c).pendingMode = none := by
  unfold Chan.pendingApplied
  cases h : x.pendingMode <;> simp [h]

@[simp] theorem pendingApplied_mode : (x.pendingApplied c).mode = x.pendingMode.getD x.mode := by
  unfold Chan.pendingApplied
  cases x.pendingMode <;> simp

theorem pendingApplied_engaged {x : Chan} (h : x.engaged = none) : (x.pendingApplied c).engaged = none := by
  unfold Chan.pendingApplied
  cases x.pendingMode
  · exact h
  · exact withMode_engaged (x := { x with pendingMode := none }) c h _

theorem pendingApplied_closeDue {x : Chan} (h : x.closeDue = false) : (x.pendingApplied c).closeDue = false := by
  unfold Chan.pendingApplied
  cases x.pendingMode
  · exact h
  · exact withMode_closeDue (x := { x with pendingMode := none }) c h _

variable (o : Origin)

@[simp] theorem completed_state : (x.completed o).state = x.state := by cases o <;> rfl
@[simp] theorem completed_timer : (x.completed o).timer = x.timer := by cases o <;> rfl
@[simp] theorem completed_engaged : (x.completed o).engaged = x.engaged := by cases o <;> rfl
@[simp] theorem completed_closeDue : (x.completed o).closeDue = x.closeDue := by cases o <;> rfl
@[simp] theorem completed_pendingMode : (x.completed o).pendingMode = x.pendingMode := by cases o <;> rfl
@[simp] theorem completed_mode : (x.completed o).mode = x.mode := by cases o <;> rfl

@[simp] theorem proved_state : (x.proved c).state = .idle := by simp [Chan.proved]
@[simp] theorem proved_timer : (x.proved c).timer = none := by simp [Chan.proved]

theorem proved_engaged (h : keepsEngagement c x = false) : (x.proved c).engaged = none :=
  pendingApplied_engaged c (by simp [h])

@[simp] theorem failed_state : (x.failed c).state = failedState c x := by simp [Chan.failed]
@[simp] theorem failed_timer : (x.failed c).timer = none := by simp [Chan.failed]

@[simp] theorem failed_engaged : (x.failed c).engaged = none := pendingApplied_engaged c (by simp)

end

/-! ## The operations -/

section
variable (s : State) (c : Channel)

@[simp] theorem updChan_ddu (f : Chan → Chan) : (s.updChan c f).ddu = s.ddu.set c (f (s.ddu.get c)) := rfl

theorem driveOffFollow_ddu (old new : DriveMode) : (s.driveOffFollow c old new).ddu = s.ddu :=
  (driveOffFollow_changes ..).ddu_eq

/-- A mode that takes effect changes its channel alone (R31, R45). -/
theorem setMode_ddu (m : DriveMode) (r : ChangeReason) :
    (s.setMode c m r).ddu = s.ddu.set c ((s.ddu.get c).withMode c m) := by
  unfold State.setMode Chan.withMode
  dsimp only
  split_ifs with hsame hoff
  · simp
  · rw [driveOffFollow_ddu, journal_ddu, State.offReleases, if_pos hoff]
    simp
  · rw [driveOffFollow_ddu, journal_ddu, State.offReleases, if_neg hoff]
    simp

/-- The pending mode changes its channel alone (R31). -/
theorem applyPending_ddu : (s.applyPending c).ddu = s.ddu.set c ((s.ddu.get c).pendingApplied c) := by
  unfold State.applyPending Chan.pendingApplied
  cases h : (s.ddu.get c).pendingMode with
  | none => simp
  | some m => simp [setMode_ddu]

theorem applyPending_of_none {s : State} {c : Channel} (h : (s.ddu.get c).pendingMode = none) :
    s.applyPending c = s := by
  simp [State.applyPending, h]

theorem completeStroke_ddu (x : Chan) (r : ResultCode) :
    (s.completeStroke c x r).ddu = s.ddu.set c ((s.ddu.get c).completed x.origin) := by
  unfold State.completeStroke Chan.completed
  split <;> simp_all

/-- A proven stroke changes its channel alone (R38, R39). -/
theorem proveStroke_ddu : (s.proveStroke c).ddu = s.ddu.set c ((s.ddu.get c).proved c) := by
  unfold State.proveStroke
  simp [applyPending_ddu, completeStroke_ddu, (provenWrites_changes _ c _).ddu_eq, Chan.proved]

theorem failCause_ddu (x : Chan) : (s.failCause c x).ddu = s.ddu := (failCause_changes ..).ddu_eq

/-- A failed stroke changes its channel alone (R41). -/
theorem failStroke_ddu (fault : DoorFault) :
    (s.failStroke c fault).ddu = s.ddu.set c ((s.ddu.get c).failed c) := by
  unfold State.failStroke
  simp [applyPending_ddu, completeStroke_ddu, failCause_ddu, (failWrites_changes _ c _).ddu_eq, Chan.failed]

/-- The tests at a close start find neither limit nor obstruction (R37). -/
theorem testClose_clear {s : State} {c : Channel} (hclosed : (s.inputs c).closedLim = false)
    (hobstr : (s.inputs c).obstr = false) : s.testClose c = s := by
  unfold State.testClose State.retriesLeft State.closeTests
  simp [hclosed, hobstr]

/-- The test at an open start finds no limit (R37). -/
theorem testOpen_clear {s : State} {c : Channel} (h : (s.inputs c).openLim = false) : s.testOpen c = s := by
  simp [State.testOpen, h]

/-- A stroke begins: its channel alone changes (R37). -/
theorem beginStroke_ddu (close : Bool) (o : Origin) : (s.beginStroke c close o).ddu =
    s.ddu.set c ((s.ddu.get c).begun (s.channelPlan c) s.now close o) := rfl

/-- The tests at a close start change their channel alone. -/
theorem closeTests_others {d : Channel} (hd : d ≠ c) (n : Nat) : (State.closeTests c n s).ddu.get d = s.ddu.get d := by
  induction n generalizing s with
  | zero => rfl
  | succ n ih =>
    unfold State.closeTests
    dsimp only
    split_ifs
    · rw [proveStroke_ddu, PerChannel.get_set_ne _ hd]
    · rw [ih]
      simp [PerChannel.get_set_ne _ hd]
    · rw [failStroke_ddu, PerChannel.get_set_ne _ hd]
      simp [PerChannel.get_set_ne _ hd]
    · simp [PerChannel.get_set_ne _ hd]
    · rfl

theorem writeDoor_ddu (u : Nat) (d : DoorState) : (s.writeDoor u d).ddu = s.ddu := (writeDoor_changes ..).ddu_eq

theorem writeDoorOf_ddu (u : Option Nat) (d : DoorState) : (s.writeDoorOf u d).ddu = s.ddu := by
  cases u
  · rfl
  · exact writeDoor_ddu ..

theorem missEngagement_ddu (u : Nat) : (s.missEngagement c u).ddu = s.ddu := by
  unfold State.missEngagement
  rw [journal_ddu, raiseOnce_ddu, writeDoor_ddu, (updFleetRec_changes ..).ddu_eq]
  unfold State.when
  split <;> rfl

/-- The gate that stands open starts to close, with neither limit nor obstruction active (R44). -/
theorem startGateClose_clear (hclosed : s.pins.channels.d2.closedLim = false)
    (hobstr : s.pins.channels.d2.obstr = false) :
    s.startGateClose = (s.updChan .d2 fun x => { x with closeDue := false }).beginStroke .d2 true .engagement :=
  testClose_clear (s := (s.updChan .d2 fun x => { x with closeDue := false }).beginStroke .d2 true .engagement)
    hclosed hobstr

end

/-! ## The door of an entry -/

/-- A door state written into an entry that is not the gate entry (R42). -/
theorem writeDoor_away {s : State} {u : Nat} (h : s.lch.gateEntry ≠ some u) (d : DoorState) :
    s.writeDoor u d = s.updEntry u fun e => { e with door := d } := if_neg h

/-- The STROKE order of a channel is answered in its slip (R46, R173). -/
theorem completeOrder_answered {s : State} {k : Nat} {x : OrderCtx} (hcontext : s.context k = some x)
    (hwf : Memory.wf s.mem = true) (hslip : x.slip < 32) (htaken : s.slipState x.slip = 2)
    (hticket : s.slipTicket x.slip = x.ticket) {r : OrderResult} (hdata : r.data.length ≤ 16) :
    (s.completeOrder k r).Answered x.slip r := by
  unfold State.completeOrder
  simp only [hcontext, htaken, hticket, and_self, if_true]
  exact (writeResult_answered s x.slip r hslip hdata hwf).1

theorem State.Answered.of_mem {s t : State} {slip : Nat} {r : OrderResult} (h : s.Answered slip r)
    (hmem : t.mem = s.mem) : t.Answered slip r := by
  unfold State.Answered State.slipState at *
  rwa [hmem]

end Sys2Proof.Machine
end

section
/-! PROOF. Ends of strokes, modes and the drive orders (O15 to O20; R37 to R48). -/

namespace Sys2Proof.Machine

-- One lemma at a time, as in Laws/State.lean.
set_option Elab.async false

open Sys2Proof

/-! ## Ends of strokes -/

section
variable {s : State} {c : Channel}

theorem proved_closeDue {x : Chan} (h : x.closeDue = false) : (x.proved c).closeDue = false :=
  pendingApplied_closeDue c (by simp [h])

/-- With no close due, nothing follows the proof of an open stroke (R43). -/
theorem afterOpen_of_not_due (h : (s.ddu.get c).closeDue = false) : s.afterOpen c = s := by
  refine if_neg ?_
  rintro ⟨rfl, hdue, -⟩
  rw [h] at hdue
  exact Bool.false_ne_true hdue

/-- A proof answers the STROKE order of its stroke (R46). -/
theorem proveStroke_answered {k : Nat} {x : OrderCtx} (horigin : (s.ddu.get c).origin = .order k)
    (hcontext : s.context k = some x) (hwf : Memory.wf s.mem = true) (hslip : x.slip < 32)
    (htaken : s.slipState x.slip = 2) (hticket : s.slipTicket x.slip = x.ticket)
    (hpending : (s.ddu.get c).pendingMode = none) :
    (s.proveStroke c).Answered x.slip ⟨true, .proven,
      [byteOf (channelCode c), byteOf (s.ddu.get c).state.direction, byteOf (s.ddu.get c).retry]⟩ := by
  let v : State := ((s.updChan c fun y => { y with state := .idle, timer := none }).provenWrites c (s.ddu.get c)).updChan c
    fun y => { y with engaged := if keepsEngagement c (s.ddu.get c) then y.engaged else none
                      closeDue := keepsEngagement c (s.ddu.get c) && y.closeDue }
  have hframe : ChangesOnly s [.trk, .fleet, .ddu, .msv, .lch, .journal, .news] v :=
    ((updChan_changes s ..).weaken.then (provenWrites_changes ..)).then (updChan_changes ..)
  have hpend : (v.ddu.get c).pendingMode = none := by
    have hddu : v.ddu.get c = _ := PerChannel.get_set_same ..
    rw [hddu, (provenWrites_changes ..).ddu_eq]
    simpa using hpending
  have hrun : s.proveStroke c = v.completeStroke c (s.ddu.get c) .proven := by
    refine applyPending_of_none ?_
    rw [completeStroke_ddu, PerChannel.get_set_same, completed_pendingMode, hpend]
  rw [hrun, State.completeStroke]
  simp only [horigin]
  refine (completeOrder_answered (s := v) ?_ ?_ hslip ?_ ?_ (by simp)).of_mem rfl
  · rw [← hcontext]
    simp only [State.context, hframe.contexts_eq]
  · rw [hframe.mem_eq]
    exact hwf
  · rw [← htaken]
    simp only [State.slipState, hframe.mem_eq]
  · rw [← hticket]
    simp only [State.slipTicket, hframe.mem_eq]

end

theorem setInput_mem (s : State) (c : Channel) (f : ChannelPins → ChannelPins) : (s.setInput c f).mem = s.mem := rfl

/-- Settles O15: what a limit finds its channel in decides. -/
theorem limitProvesStroke : Obligations.LimitProvesStroke := by
  intro s c
  refine ⟨fun hstate hdue => ?_, fun hstate => ?_, ?_, ?_, fun hstate => ?_⟩
  · let u := s.setInput c fun p => { p with openLim := true }
    have hrun : u.openLimit c = u.proveStroke c := by
      unfold State.openLimit
      rw [show (u.ddu.get c).state = .strokingOpen from hstate]
      refine afterOpen_of_not_due ?_
      rw [proveStroke_ddu, PerChannel.get_set_same]
      exact proved_closeDue hdue
    have hddu : (finish s (u.openLimit c)).ddu = s.ddu.set c ((s.ddu.get c).proved c) := by
      rw [finish_ddu, hrun]
      exact proveStroke_ddu u c
    refine ⟨finish s (u.openLimit c), rfl, ?_, ?_, fun d hd => ?_,
      fun k hk x hx hwf hslip htaken hticket hpending => ?_, (openLimActive_changes c true).finish⟩
    · rw [hddu]
      simp
    · rw [hddu]
      simp
    · rw [hddu, PerChannel.get_set_ne _ hd]
    · rw [hrun]
      have h := proveStroke_answered (s := u) (c := c) hk hx hwf hslip htaken hticket hpending
      rw [show (u.ddu.get c).state = .strokingOpen from hstate] at h
      exact h.of_mem (finish_mem ..)
  · let u := s.setInput c fun p => { p with closedLim := true }
    have hrun : u.closedLimit c = u.proveStroke c := by
      unfold State.closedLimit
      rw [show (u.ddu.get c).state = .strokingClose from hstate]
    have hddu : (finish s (u.closedLimit c)).ddu = s.ddu.set c ((s.ddu.get c).proved c) := by
      rw [finish_ddu, hrun]
      exact proveStroke_ddu u c
    refine ⟨finish s (u.closedLimit c), rfl, ?_, ?_, ?_, fun d hd => ?_,
      fun k hk x hx hwf hslip htaken hticket hpending => ?_, (closedLimActive_changes c true).finish⟩
    · rw [hddu]
      simp
    · rw [hddu]
      simp
    · rw [hddu, PerChannel.get_set_same]
      exact proved_engaged c _ (by simp [keepsEngagement, hstate])
    · rw [hddu, PerChannel.get_set_ne _ hd]
    · rw [hrun]
      have h := proveStroke_answered (s := u) (c := c) hk hx hwf hslip htaken hticket hpending
      rw [show (u.ddu.get c).state = .strokingClose from hstate] at h
      exact h.of_mem (finish_mem ..)
  · exact ⟨finish s (s.setInput c fun p => { p with openLim := false }), rfl, (setInput_changes ..).finish⟩
  · exact ⟨finish s (s.setInput c fun p => { p with closedLim := false }), rfl, (setInput_changes ..).finish⟩
  · refine ⟨finish s ((s.setInput c fun p => { p with closedLim := true }).closedLimit c), rfl, ?_⟩
    have hrun : (s.setInput c fun p => { p with closedLim := true }).closedLimit c =
        s.setInput c fun p => { p with closedLim := true } := by
      unfold State.closedLimit
      split
      · next h => exact absurd h hstate
      · rfl
    rw [hrun]
    exact (setInput_changes ..).finish

/-! ## O16: reversals -/

section
variable {s : State} {c : Channel}

/-- Another close attempt at the end of a reversal, with neither limit nor obstruction active (R40). -/
theorem endReversal_again (hretry : (s.ddu.get c).retry < (s.ddu.get c).params.recloseLimit)
    (hclosed : (s.inputs c).closedLim = false) (hobstr : (s.inputs c).obstr = false) :
    s.endReversal c = s.updChan c fun x =>
      { x with retry := x.retry + 1, state := .strokingClose, timer := some (s.now + x.params.closeTime) } :=
  (if_pos hretry).trans (testClose_clear (s := s.updChan c fun x =>
    { x with retry := x.retry + 1, state := .strokingClose, timer := some (s.now + x.params.closeTime) }) hclosed hobstr)

theorem inputs_setInput (s : State) (c : Channel) (f : ChannelPins → ChannelPins) :
    (s.setInput c f).inputs c = f (s.inputs c) := PerChannel.get_set_same ..

end

/-- Settles O16: the reversal and the attempt that follows it. -/
theorem obstructionReversesAndRetries : Obligations.ObstructionReversesAndRetries := by
  intro s c
  refine ⟨fun hstate hopen => ?_, fun hstate hretry hclosed hobstr => ⟨fun htimer => ?_, ?_⟩⟩
  · let u := s.setInput c fun p => { p with obstr := true }
    refine ⟨finish s (u.obstructed c), rfl, ?_⟩
    have hrun : u.obstructed c = u.updChan c fun x =>
        { x with state := .reversing, timer := some (s.now + x.params.reverseTime) } := by
      unfold State.obstructed
      rw [show (u.ddu.get c).state = .strokingClose from hstate]
      refine if_neg ?_
      rw [inputs_setInput]
      simp [hopen]
    rw [hrun]
    exact ⟨rfl, ((setInput_changes ..).weaken.then (updChan_changes ..)).finish⟩
  · refine ⟨finish s (s.strokeTimeout c .reversing), rfl, ?_⟩
    have hrun : s.strokeTimeout c .reversing = _ :=
      (if_pos ⟨hstate, Option.isSome_iff_ne_none.mpr htimer⟩).trans (endReversal_again hretry hclosed hobstr)
    rw [hrun]
    exact ⟨rfl, (updChan_changes ..).finish⟩
  · let u := s.setInput c fun p => { p with openLim := true }
    refine ⟨finish s (u.openLimit c), rfl, ?_⟩
    have hrun : u.openLimit c = u.updChan c fun x =>
        { x with retry := x.retry + 1, state := .strokingClose, timer := some (u.now + x.params.closeTime) } := by
      unfold State.openLimit
      rw [show (u.ddu.get c).state = .reversing from hstate]
      exact endReversal_again (s := u) hretry (by rw [inputs_setInput]; exact hclosed)
        (by rw [inputs_setInput]; exact hobstr)
    rw [hrun]
    exact ⟨rfl, ((setInput_changes ..).weaken.then (updChan_changes ..)).finish⟩

/-! ## O17: failures -/

/-- A failure, as every form of it leaves the channels. -/
theorem failStroke_effect (s : State) (c : Channel) (fault : DoorFault) :
    let t := finish s (s.failStroke c fault)
    (t.ddu.get c).state = failedState c (s.ddu.get c) ∧ (t.ddu.get c).timer = none ∧ (t.ddu.get c).engaged = none ∧
      (∀ d, d ≠ c → t.ddu.get d = s.ddu.get d) ∧ ChangesOnly s Part.ofTrack t := by
  intro t
  have hddu : t.ddu = s.ddu.set c ((s.ddu.get c).failed c) := (finish_ddu ..).trans (failStroke_ddu ..)
  refine ⟨?_, ?_, ?_, fun d hd => ?_, (failStroke_changes s ..).finish⟩
  · rw [hddu]
    simp
  · rw [hddu]
    simp
  · rw [hddu]
    simp
  · rw [hddu, PerChannel.get_set_ne _ hd]

/-- Settles O17: each of the three failures. -/
theorem strokeFailuresJam : Obligations.StrokeFailuresJam := by
  intro s c htimer
  have hsome : (s.ddu.get c).timer.isSome = true := Option.isSome_iff_ne_none.mpr htimer
  refine ⟨fun hstate => ⟨finish s (s.strokeTimeout c .strokingOpen), rfl, ?_⟩,
    fun hstate => ⟨finish s (s.strokeTimeout c .strokingClose), rfl, ?_⟩,
    fun hstate hretry => ⟨finish s (s.strokeTimeout c .reversing), rfl, ?_⟩⟩
  · have hrun : s.strokeTimeout c .strokingOpen = s.failStroke c .openFailed := if_pos ⟨hstate, hsome⟩
    rw [hrun]
    have h := failStroke_effect s c .openFailed
    simpa [failedState, hstate] using h
  · have hrun : s.strokeTimeout c .strokingClose = s.failStroke c .closeTimeout := if_pos ⟨hstate, hsome⟩
    rw [hrun]
    have h := failStroke_effect s c .closeTimeout
    simpa [failedState, hstate] using h
  · have hrun : s.strokeTimeout c .reversing = s.failStroke c .obstructed :=
      (if_pos ⟨hstate, hsome⟩).trans (if_neg (not_lt.mpr hretry))
    rw [hrun]
    have h := failStroke_effect s c .obstructed
    simpa [failedState, hstate] using h

/-! ## O18: SET_DRIVE_MODE -/

@[simp] theorem channelOf_channelCode (c : Channel) : channelOf (channelCode c) = some c := by cases c <;> rfl

theorem driveModeOf_number {p : Nat × DriveMode} (h : p ∈ modeNumbers) : driveModeOf p.1 = some p.2 := by
  simp only [modeNumbers, List.mem_cons, List.not_mem_nil, or_false] at h
  rcases h with rfl | rfl | rfl | rfl <;> rfl

section
variable {s : State} {c : Channel} {m : DriveMode} {n : Nat}

/-- SET_DRIVE_MODE on a stroking channel: the mode is pending (R45). -/
theorem setDriveMode_stroking (hmode : driveModeOf n = some m)
    (hoff : m = .off → isDoor c = true → s.msv.state = .standby ∨ s.msv.state = .held)
    (hstroking : (s.ddu.get c).state.stroking = true) : s.setDriveMode (channelCode c) n =
      (s.updChan c fun y => { y with pendingMode := some m }, resultOk) := by
  have hallowed : ¬ (m = .off ∧ isDoor c = true ∧ ¬ (s.msv.state = .standby ∨ s.msv.state = .held)) :=
    fun ⟨h1, h2, h3⟩ => h3 (hoff h1 h2)
  simp only [State.setDriveMode, channelOf_channelCode, hmode, if_neg hallowed, hstroking, if_true]

/-- The channel at rest, with the cause of its jam ended (R33). -/
def State.rested (s : State) (c : Channel) : State :=
  let s1 := s.updChan c fun y => { y with state := .idle, timer := none }
  if (s.ddu.get c).state = .jammed then s1.endCause (if isDoor c then .doorJam else .gateJam) (channelCode c) else s1

/-- SET_DRIVE_MODE on a channel with no stroke: the mode takes effect (R45). -/
theorem setDriveMode_resting (hmode : driveModeOf n = some m)
    (hoff : m = .off → isDoor c = true → s.msv.state = .standby ∨ s.msv.state = .held)
    (hresting : (s.ddu.get c).state.stroking = false) : s.setDriveMode (channelCode c) n =
      ((s.rested c).setMode c m .atOnce, resultOk) := by
  have hallowed : ¬ (m = .off ∧ isDoor c = true ∧ ¬ (s.msv.state = .standby ∨ s.msv.state = .held)) :=
    fun ⟨h1, h2, h3⟩ => h3 (hoff h1 h2)
  simp only [State.setDriveMode, channelOf_channelCode, hmode, if_neg hallowed, hresting, Bool.false_eq_true, if_false,
    State.rested]

theorem rested_changes : ChangesOnly s (.ddu :: Part.ofCause) (s.rested c) := by
  unfold State.rested
  exact .ite ((updChan_changes s ..).weaken.then (endCause_changes ..)) (updChan_changes s ..).weaken

theorem rested_ddu : (s.rested c).ddu = s.ddu.set c { s.ddu.get c with state := .idle, timer := none } := by
  unfold State.rested
  dsimp only
  split <;> simp

end

/-- Settles O18: the pending mode of a stroke, and the mode in effect. -/
theorem setDriveModeSetsOrHolds : Obligations.SetDriveModeSetsOrHolds := by
  intro s slip c p hp hslip hwf hoff
  have hmode := driveModeOf_number hp
  have hdispatch : s.dispatch slip (.setDriveMode (channelCode c) p.1) =
      (s.setDriveMode (channelCode c) p.1).1.writeResult slip (s.setDriveMode (channelCode c) p.1).2 :=
    dispatch_short rfl (.inr rfl)
  refine ⟨finish s (s.dispatch slip (.setDriveMode (channelCode c) p.1)), rfl, ?_⟩
  cases hstroking : (s.ddu.get c).state.stroking with
  | true =>
    have hrun : s.dispatch slip (.setDriveMode (channelCode c) p.1) =
        (s.updChan c fun y => { y with pendingMode := some p.2 }).writeResult slip resultOk := by
      rw [hdispatch, setDriveMode_stroking hmode hoff hstroking]
    have hddu : (finish s (s.dispatch slip (.setDriveMode (channelCode c) p.1))).ddu =
        s.ddu.set c { s.ddu.get c with pendingMode := some p.2 } := by
      rw [finish_ddu, hrun, writeResult_ddu, updChan_ddu]
    refine ⟨short_answered hslip hwf (updChan_changes s ..) (by decide) hrun, fun d hd => ?_, fun _ => ⟨?_, ?_, ?_⟩,
      fun h => absurd h Bool.noConfusion⟩
    · rw [hddu, PerChannel.get_set_ne _ hd]
    · rw [hddu, PerChannel.get_set_same]
    · rw [hrun]
      exact fun a ha => writeResult_slipOnly (s.updChan c fun y => { y with pendingMode := some p.2 }) slip resultOk a ha
    · rw [hrun]
      exact ((updChan_changes s ..).weaken.then (writeResult_changes _ ..)).finish
  | false =>
    have hrun : s.dispatch slip (.setDriveMode (channelCode c) p.1) =
        ((s.rested c).setMode c p.2 .atOnce).writeResult slip resultOk := by
      rw [hdispatch, setDriveMode_resting hmode hoff hstroking]
    have hframe : ChangesOnly s (.ddu :: Part.ofCause) ((s.rested c).setMode c p.2 .atOnce) :=
      rested_changes.then (setMode_changes ..)
    have hddu : (finish s (s.dispatch slip (.setDriveMode (channelCode c) p.1))).ddu =
        s.ddu.set c (Chan.withMode c { s.ddu.get c with state := .idle, timer := none } p.2) := by
      rw [finish_ddu, hrun, writeResult_ddu, setMode_ddu, rested_ddu, PerChannel.get_set_same, PerChannel.set_set]
    refine ⟨short_answered hslip hwf hframe (by decide) hrun, fun d hd => ?_, fun h => absurd h Bool.noConfusion,
      fun _ => ⟨?_, ?_, ?_, ?_⟩⟩
    · rw [hddu, PerChannel.get_set_ne _ hd]
    · rw [hddu]
      simp
    · rw [hddu]
      simp
    · rw [hddu]
      simp
    · rw [hrun]
      exact (hframe.then (writeResult_changes _ ..)).finish

/-! ## O19: HALT_DRIVE -/

/-- A halted channel (R48). -/
def Chan.halted (c : Channel) (x : Chan) : Chan :=
  Chan.pendingApplied c (Chan.completed
    { x with state := .halted, timer := none, engaged := none, closeDue := false } x.origin)

section
variable {s : State} {c : Channel}

/-- HALT_DRIVE of a running stroke changes its channel alone (R48). -/
theorem haltDrive_stroking (h : (s.ddu.get c).state.stroking = true) :
    (s.haltDrive (channelCode c)).2 = resultOk ∧
    (s.haltDrive (channelCode c)).1.ddu = s.ddu.set c ((s.ddu.get c).halted c) := by
  simp only [State.haltDrive, channelOf_channelCode, h, if_true, true_and]
  rw [applyPending_ddu, completeStroke_ddu]
  split <;> simp [writeDoorOf_ddu, Chan.halted]

end

/-- Settles O19: the halted channel, its pending mode and the answer. -/
theorem haltDriveStopsStroke : Obligations.HaltDriveStopsStroke := by
  intro s slip c hslip hwf hstroking
  obtain ⟨hok, hchan⟩ := haltDrive_stroking hstroking
  have hrun : s.dispatch slip (.haltDrive (channelCode c)) =
      (s.haltDrive (channelCode c)).1.writeResult slip resultOk := by
    rw [dispatch_short rfl (.inr rfl), ← hok]
    rfl
  have hddu : (finish s (s.dispatch slip (.haltDrive (channelCode c)))).ddu =
      s.ddu.set c ((s.ddu.get c).halted c) := by
    rw [finish_ddu, hrun, writeResult_ddu, hchan]
  have hframe := haltDrive_changes s (channelCode c)
  refine ⟨finish s (s.dispatch slip (.haltDrive (channelCode c))), rfl,
    short_answered hslip hwf hframe (by decide) hrun, ?_, ?_, ?_, ?_, ?_, ?_, fun d hd => ?_, ?_⟩
  · rw [hddu]
    simp [Chan.halted]
  · rw [hddu]
    simp [Chan.halted]
  · rw [hddu, PerChannel.get_set_same]
    exact pendingApplied_engaged c (by simp)
  · rw [hddu, PerChannel.get_set_same]
    exact pendingApplied_closeDue c (by simp)
  · rw [hddu]
    simp [Chan.halted]
  · rw [hddu]
    simp [Chan.halted]
  · rw [hddu, PerChannel.get_set_ne _ hd]
  · rw [hrun]
    exact (hframe.then (writeResult_changes _ ..)).finish

end Sys2Proof.Machine
end

section
/-! PROOF. Long orders as they are dispatched: the context they take and the slip they leave TAKEN (R171, R172); and the
STROKE order (O20). -/

namespace Sys2Proof.Machine

-- One lemma at a time, as in Laws/State.lean.
set_option Elab.async false

open Sys2Proof

section
variable {s : State} {slip k : Nat} {o : Order}

/-- An accepted long order takes the lowest free context and starts (R171). -/
theorem dispatch_long (hlong : o.isLong = true) (hstandby : s.msv.state ≠ .standby ∨ o.takenInStandby = true)
    (hfree : s.freeContext? = some k) (haccepted : s.longRefusal o = none) :
    s.dispatch slip o = (s.takeContext k slip o).startLong k o := by
  unfold State.dispatch
  rw [if_neg (by rintro ⟨h1, h2⟩; rcases hstandby with h | h <;> contradiction), if_pos hlong]
  simp [State.dispatchLong, hfree, haccepted]

/-- A long order that its block refuses takes no context (R171). -/
theorem dispatch_long_refused {c : ResultCode} (hlong : o.isLong = true)
    (hstandby : s.msv.state ≠ .standby ∨ o.takenInStandby = true)
    (hfree : s.freeContext? = some k) (hrefused : s.longRefusal o = some c) :
    s.dispatch slip o = s.writeResult slip (refusal c) := by
  unfold State.dispatch
  rw [if_neg (by rintro ⟨h1, h2⟩; rcases hstandby with h | h <;> contradiction), if_pos hlong]
  simp [State.dispatchLong, hfree, hrefused]

/-- A long order finds every context in use (R172). -/
theorem dispatch_long_full (hlong : o.isLong = true) (hstandby : s.msv.state ≠ .standby ∨ o.takenInStandby = true)
    (hfull : s.freeContext? = none) : s.dispatch slip o = s.writeResult slip (refusal .full) := by
  unfold State.dispatch
  rw [if_neg (by rintro ⟨h1, h2⟩; rcases hstandby with h | h <;> contradiction), if_pos hlong]
  simp [State.dispatchLong, hfull]

theorem slipState_congr {s t : State} (h : t.mem = s.mem) (slip : Nat) : t.slipState slip = s.slipState slip := by
  simp only [State.slipState, h]

theorem slipTicket_congr {s t : State} (h : t.mem = s.mem) (slip : Nat) : t.slipTicket slip = s.slipTicket slip := by
  simp only [State.slipTicket, h]

theorem context_congr {s t : State} (h : t.obc.contexts = s.obc.contexts) (k : Nat) : t.context k = s.context k := by
  simp only [State.context, h]

theorem takeContext_mem (hslip : slip < 32) :
    (s.takeContext k slip o).mem = memWrite s.mem (slipBase slip + 2) (byteOf 2) := by
  rw [State.takeContext, State.setSlipState, if_pos hslip]
  rfl

theorem takeContext_slipOnly : SlipOnly slip s (s.takeContext k slip o) := by
  intro a ha
  by_cases hslip : slip < 32
  · rw [takeContext_mem hslip, memRead_memWrite_ne fun h => ha (.inl h)]
  · rw [State.takeContext, State.setSlipState, if_neg hslip]
    rfl

theorem takeContext_slipState (hslip : slip < 32) (hwf : Memory.wf s.mem = true) :
    (s.takeContext k slip o).slipState slip = 2 := by
  rw [State.slipState, takeContext_mem hslip, memRead_memWrite_same hwf]
  rfl

theorem takeContext_slipTicket (n : Nat) : (s.takeContext k slip o).slipTicket n = s.slipTicket n := by
  have hread : ∀ a, a ≠ slipBase slip + 2 → memRead (s.takeContext k slip o).mem a = memRead s.mem a := fun a ha => by
    by_cases hslip : slip < 32
    · rw [takeContext_mem hslip, memRead_memWrite_ne ha]
    · rw [State.takeContext, State.setSlipState, if_neg hslip]
      rfl
  have hlow := hread (slipBase n) (by unfold slipBase; omega)
  have hhigh := hread (slipBase n + 1) (by unfold slipBase; omega)
  simp only [State.slipTicket, memRead16, hlow, hhigh]

/-- A free context is one of the eight, and free. -/
theorem getElem?_of_freeContext? (h : s.freeContext? = some k) : s.obc.contexts[k]? = some none := by
  obtain ⟨hlt, hnone, -⟩ := List.findIdx?_eq_some_iff_getElem.mp h
  rw [List.getElem?_eq_getElem hlt, Option.isNone_iff_eq_none.mp hnone]

/-- The context that is taken (R172). -/
theorem takeContext_context (h : s.freeContext? = some k) :
    (s.takeContext k slip o).context k = some ⟨s.slipTicket slip, slip, o, s.clockTime⟩ := by
  obtain ⟨hlt, -⟩ := List.getElem?_eq_some_iff.mp (getElem?_of_freeContext? h)
  rw [State.takeContext, context_congr (setSlipState_contexts ..)]
  simp only [State.context, State.updHeld_obc, State.updObc_obc, List.getElem?_set_self hlt, Option.join_some]

end

/-! ## O20: STROKE -/

section
variable {s : State} {c : Channel} {k direction : Nat}

/-- A STROKE of an idle channel in MANUAL is accepted (R46). -/
theorem strokeRefusal_none (hdir : direction ≤ 1) (hmode : (s.ddu.get c).mode = .manual)
    (hidle : (s.ddu.get c).state = .idle) (hgate : c = .d2 → s.ddu.d2.engaged = none) :
    s.strokeRefusal (channelCode c) direction = none := by
  have hfree : ¬ (c = .d2 ∧ (s.ddu.get c).engaged.isSome = true) := by
    rintro ⟨rfl, h⟩
    have hnone := hgate rfl
    simp [PerChannel.get, hnone] at h
  simp only [State.strokeRefusal, channelOf_channelCode, hmode, hidle, ChanState.stroking, if_neg hfree,
    if_neg (Nat.not_lt.mpr hdir)]
  simp

/-- The engagement and the stroke of a STROKE order, before the door state and the tests (R46, R47). -/
def State.orderedStroke (s : State) (c : Channel) (k direction : Nat) : State :=
  (s.updChan c fun x => { x with engaged := if c = .d1 ∧ direction = 1 then s.strokeEntry else none }).beginStroke c
    (decide (direction = 1)) (.order k)

theorem orderedStroke_changes : ChangesOnly s [.ddu] (s.orderedStroke c k direction) :=
  (updChan_changes ..).then (beginStroke_changes ..)

theorem orderedStroke_ddu : (s.orderedStroke c k direction).ddu = s.ddu.set c (Chan.begun
    { s.ddu.get c with engaged := if c = .d1 ∧ direction = 1 then s.strokeEntry else none }
    (s.channelPlan c) s.now (decide (direction = 1)) (.order k)) := by
  unfold State.orderedStroke
  rw [beginStroke_ddu, updChan_ddu, PerChannel.get_set_same, PerChannel.set_set]
  rfl

/-- An accepted STROKE begins its stroke; CLOSE on D1 writes its entry's door state (R46, R47). -/
theorem startStrokeOrder_begins (hdir : direction ≤ 1) (hopen : direction = 0 → (s.inputs c).openLim = false)
    (hclose : direction = 1 → (s.inputs c).closedLim = false ∧ (s.inputs c).obstr = false) :
    s.startStrokeOrder k (channelCode c) direction =
      if c = .d1 ∧ direction = 1 then (s.orderedStroke c k direction).writeDoorOf s.strokeEntry .closing
      else s.orderedStroke c k direction := by
  unfold State.startStrokeOrder
  simp only [channelOf_channelCode]
  obtain rfl | rfl : direction = 0 ∨ direction = 1 := by omega
  · simp only [if_true, Nat.zero_ne_one, and_false, if_false]
    rw [testOpen_clear (by exact hopen rfl)]
    simp [State.orderedStroke]
  · obtain ⟨hclosed, hobstr⟩ := hclose rfl
    simp only [Nat.one_ne_zero, if_false, and_true]
    have hinputs : ∀ (t : State) (u : Option Nat), t.pins = s.pins → (t.writeDoorOf u .closing).inputs c = s.inputs c :=
      fun t u h => by rw [State.inputs, (writeDoorOf_changes ..).pins_eq, h, State.inputs]
    rw [testClose_clear (by rw [hinputs _ _ (by rfl)]; exact hclosed) (by rw [hinputs _ _ (by rfl)]; exact hobstr)]
    split
    · next h => simp [State.orderedStroke, h]
    · next h => simp [State.orderedStroke, h, State.writeDoorOf]

end

/-- Settles O20: the context, the slip and the stroke. -/
theorem strokeOrderStartsStroke : Obligations.StrokeOrderStartsStroke := by
  intro s slip k direction c hslip hwf hfree hdir hmode hidle hgate hopen hclose
  let o : Order := .stroke (channelCode c) direction
  let u := s.takeContext k slip o
  let v := u.orderedStroke c k direction
  have hu : ChangesOnly s [.contexts, .mem] u := takeContext_changes ..
  have huinputs : u.inputs c = s.inputs c := by rw [State.inputs, hu.pins_eq, State.inputs]
  have hentry : u.strokeEntry = s.strokeEntry := by simp only [State.strokeEntry, hu.trk_eq]
  have hplan : u.channelPlan c = s.channelPlan c := by simp only [State.channelPlan, hu.sst_eq]
  have hrun : s.dispatch slip o = if c = .d1 ∧ direction = 1 then v.writeDoorOf u.strokeEntry .closing else v := by
    rw [dispatch_long (o := o) rfl (.inr rfl) hfree (strokeRefusal_none hdir hmode hidle hgate)]
    exact startStrokeOrder_begins hdir (by rw [huinputs]; exact hopen) (by rw [huinputs]; exact hclose)
  have hv : ChangesOnly u [.trk, .msv, .lch, .journal, .news, .ddu] (s.dispatch slip o) := by
    rw [hrun]
    exact .ite (orderedStroke_changes.weaken.then (writeDoorOf_changes ..)) orderedStroke_changes.weaken
  have hddu : (finish s (s.dispatch slip o)).ddu = s.ddu.set c (Chan.begun
      { s.ddu.get c with engaged := if c = .d1 ∧ direction = 1 then s.strokeEntry else none }
      (s.channelPlan c) s.now (decide (direction = 1)) (.order k)) := by
    have hsame : (s.dispatch slip o).ddu = v.ddu := by
      rw [hrun]
      split
      · exact writeDoorOf_ddu ..
      · rfl
    rw [finish_ddu, hsame, orderedStroke_ddu, hu.ddu_eq, hentry, hplan, hu.now_eq]
  refine ⟨finish s (s.dispatch slip o), rfl, ?_, ?_, ?_, fun d hd => ?_, fun a ha => ?_, fun hplain => ?_⟩
  · rw [slipState_congr (finish_mem ..), slipState_congr hv.mem_eq, takeContext_slipState hslip hwf]
  · rw [context_congr (finish_obc_contexts ..), context_congr hv.contexts_eq, takeContext_context hfree]
  · rw [hddu, PerChannel.get_set_same]
  · rw [hddu, PerChannel.get_set_ne _ hd]
  · rw [finish_mem, hv.mem_eq]
    exact takeContext_slipOnly a ha
  · rw [hrun, if_neg hplain]
    exact (hu.weaken.then orderedStroke_changes).finish

end Sys2Proof.Machine
end

section
/-! PROOF. Engagements at the matches of B1, B2 and B3, and the close of the boarding gate (O12 to O14; R34, R35, R43, R44). -/

namespace Sys2Proof.Machine

-- One lemma at a time, as in Laws/State.lean.
set_option Elab.async false

open Sys2Proof

theorem finish_entry (s t : State) (u : Nat) : (finish s t).entry u = t.entry u := 
  entry_congr (congrArg Trk.entries (finish_trk ..)) u

/-- A stroke that begins leaves the entries. -/
theorem begunStroke_entry (s : State) (c : Channel) (f : Chan → Chan) (close : Bool) (o : Origin) (u : Nat) :
    ((s.updChan c f).beginStroke c close o).entry u = s.entry u := rfl

/-! ## The matched entry -/

section
variable (s : State) (n : Nat) (e : TrackEntry)

theorem moveEntry_gateEntry : (s.moveEntry e n).lch.gateEntry = s.lch.gateEntry := by
  obtain ⟨k, b, h⟩ := z3Changed_sameGate ((s.updEntry e.uid fun x =>
    { x with zone := n, travel := 0, overdue := false, atGate := false }).endOverdue e)
  have hmoved : s.SameGate (s.updEntry e.uid fun x =>
    { x with zone := n, travel := 0, overdue := false, atGate := false }) := .refl s.lch
  exact h.gateEntry.trans (hmoved.endOverdue (e := e)).gateEntry

theorem matched_gateEntry : (s.matched n e).lch.gateEntry = s.lch.gateEntry := moveEntry_gateEntry ..

/-- A move raises and ends causes, and changes the track. -/
theorem moveEntry_frame : ChangesOnly s (.trk :: Part.ofCause) (s.moveEntry e n) :=
  ((updEntry_changes s ..).weaken.then (endOverdue_changes ..)).then (z3Changed_changes _)

theorem matched_changes : ChangesOnly s (.trk :: Part.ofCause) (s.matched n e) :=
  (updEntry_changes s ..).weaken.then (moveEntry_frame ..)

/-- A matched entry as its new zone holds it. -/
def TrackEntry.moved (e : TrackEntry) (n : Nat) : TrackEntry :=
  { e with waiver := false, zone := n, travel := 0, overdue := false, atGate := false }

theorem closeWindow_sameGate : s.SameGate s.closeWindow := by
  unfold State.closeWindow
  split
  · exact .refl _
  · split
    · exact .refl _
    · next e _ =>
      obtain ⟨u, hu, -, -, hframe⟩ := resolveUnknown_noted s e [_]
      rw [hu]
      have h : s.SameGate u := .of_eq hframe.lch_eq
      unfold State.unknownArrival
      dsimp only
      split
      · exact h.trans (raiseCause_sameGate (u.updTrk _) ..)
      · exact h

/-- The window's close raises at most TAG_READER. -/
theorem closeWindow_frame : ChangesOnly s (.trk :: Part.ofCause) s.closeWindow := by
  unfold State.closeWindow
  split
  · exact .refl _ _
  · split
    · exact (updTrk_changes s _).weaken
    · next e _ =>
      obtain ⟨u, hu, -, -, hframe⟩ := resolveUnknown_noted s e [_]
      rw [hu]
      exact hframe.weaken.then (unknownArrival_frame u)

/-- The tag window is closed as its entry passes B1 (R15). -/
def State.passedWindow (s : State) (e : TrackEntry) : State :=
  if s.trk.window.any (·.uid = e.uid) then s.closeWindow else s

theorem passedWindow_changes : ChangesOnly s (.trk :: Part.ofCause) (s.passedWindow e) :=
  .ite (closeWindow_frame s) (.refl _ _)

theorem passedWindow_entry (u : Nat) : (s.passedWindow e).entry u = s.entry u := by
  refine entry_congr ?_ u
  unfold State.passedWindow
  split
  · exact closeWindow_entries s
  · rfl

theorem passedWindow_gateEntry : (s.passedWindow e).lch.gateEntry = s.lch.gateEntry := by
  unfold State.passedWindow
  split
  · exact (closeWindow_sameGate s).gateEntry
  · rfl

variable {s n e}

/-- The matched entry is read back as moved. -/
theorem matched_entry (hnodup : (s.trk.entries.map (·.uid)).Nodup) (he : e ∈ s.trk.entries) :
    (s.matched n e).entry e.uid = some (e.moved n) := by
  have hentries := matched_entries s n e
  have hnodup' : ((s.matched n e).trk.entries.map (·.uid)).Nodup := by
    rw [hentries, List.map_map, List.map_congr_left (g := fun x : TrackEntry => x.uid) fun x _ => ?_]
    · exact hnodup
    · simp only [Function.comp_apply]
      split <;> rfl
  refine entry_of_mem (e := e.moved n) hnodup' ?_
  rw [hentries]
  exact List.mem_map.mpr ⟨e, he, if_pos rfl⟩

theorem refresh_matched (hnodup : (s.trk.entries.map (·.uid)).Nodup) (he : e ∈ s.trk.entries) :
    (s.matched n e).refresh e = e.moved n := by
  rw [State.refresh, matched_entry hnodup he, Option.getD_some]

/-- An edge other than B5 leaves the pins. -/
theorem boundaryEdge_frame {edge : EdgeAt} (h : edge ≠ .b5) : ChangesOnly s Part.ofTrack (s.boundaryEdge edge) := by
  rw [boundaryEdge_eq, atEdge_of_ne h, decide_eq_false h]
  exact edgeAt_changes s _

/-- A match at B1, B2 or B3, as the event carries it out. -/
theorem boundaryEdge_match {edge : EdgeAt} (h5 : edge ≠ .b5) (h6 : edge ≠ .b6) (htracking : s.trk.state = .tracking)
    (hmoving : s.rpm.standstill = false) (hfront : s.frontOf (boundaryOf edge - 1) = some e)
    (hhalf : s.zoneLen e.zone * 5000 ≤ e.travel ∨ e.waiver = true) :
    s.boundaryEdge edge = s.matchAt (boundaryOf edge) e := by
  have hsix : boundaryOf edge ≠ 6 := by cases edge <;> simp [boundaryOf] at h6 ⊢
  rw [boundaryEdge_eq, atEdge_of_ne h5, edgeAt_moving htracking hmoving, testEdge_match hfront hhalf, if_neg hsix]
  simp [State.when, h5]

theorem matchAt_one : s.matchAt 1 e = ((s.matched 1 e).passedWindow e).engageOpener e.uid := rfl

theorem matchAt_two : s.matchAt 2 e = (s.matched 2 e).engageGate ((s.matched 2 e).refresh e) := rfl

theorem matchAt_three : s.matchAt 3 e =
    ((s.matched 3 e).engageCloser e.uid).gateLateCheck (((s.matched 3 e).engageCloser e.uid).refresh e) := rfl

theorem refresh_uid : (s.refresh e).uid = e.uid := by
  unfold State.refresh
  cases h : s.entry e.uid with
  | none => rfl
  | some x => exact uid_of_entry h

/-- The gate is not engaged with the entry: nothing is late (R44). -/
theorem gateLateCheck_of_ne (h : s.ddu.d2.engaged ≠ some e.uid) : s.gateLateCheck e = s := if_neg h

end

/-! ## Doors that serve, and doors that do not (R34, R35) -/

section
variable {s : State} {u : Nat}

/-- The opener serves an entry that is not the gate entry, its open limit inactive. -/
theorem engageOpener_serves (hserves : s.ddu.d0.serves = true) (hopen : s.pins.channels.d0.openLim = false)
    (hgate : s.lch.gateEntry ≠ some u) : s.engageOpener u =
      ((s.updChan .d0 (·.accept u)).beginStroke .d0 false .engagement).updEntry u fun e => { e with door := .opening } := by
  refine (if_pos hserves).trans ?_
  rw [writeDoor_away (by exact hgate)]
  exact testOpen_clear hopen

/-- The closer serves an entry that is not the gate entry, its closed limit and its obstruction inactive. -/
theorem engageCloser_serves (hserves : s.ddu.d1.serves = true) (hclosed : s.pins.channels.d1.closedLim = false)
    (hobstr : s.pins.channels.d1.obstr = false) (hgate : s.lch.gateEntry ≠ some u) : s.engageCloser u =
      ((s.updChan .d1 (·.accept u)).beginStroke .d1 true .engagement).updEntry u fun e => { e with door := .closing } := by
  refine (if_pos hserves).trans ?_
  rw [writeDoor_away (by exact hgate)]
  exact testClose_clear hclosed hobstr

theorem engageOpener_missed (h : s.ddu.d0.serves = false) : s.engageOpener u = s.missEngagement .d0 u :=
  if_neg (by simp [PerChannel.get, h])

theorem engageCloser_missed (h : s.ddu.d1.serves = false) : s.engageCloser u = s.missEngagement .d1 u :=
  if_neg (by simp [PerChannel.get, h])

/-- An engagement missed: its entry's door state, and the closer's mark (R35). -/
theorem missEngagement_entry (c : Channel) (hgate : s.lch.gateEntry ≠ some u) :
    (s.missEngagement c u).entry u = (s.entry u).map fun e =>
      { e with door := .missed, missedByCloser := if c = .d1 then true else e.missedByCloser } := by
  have huid : ∀ e : TrackEntry, ({ e with door := .missed } : TrackEntry).uid = e.uid := fun _ => rfl
  have hmark : ∀ e : TrackEntry, ({ e with missedByCloser := true } : TrackEntry).uid = e.uid := fun _ => rfl
  let v : State := s.when (decide (c = .d1)) (·.updEntry u fun e => { e with missedByCloser := true })
  let w : State := v.updFleetRec (s.entryCabin u) fun r => { r with lastDoorFault := .missed }
  have hlch : w.lch = s.lch := (updFleetRec_changes ..).lch_eq.trans (ChangesOnly.when (updEntry_changes s ..)).lch_eq
  have hrun : (s.missEngagement c u).trk.entries = (w.updEntry u fun e => { e with door := .missed }).trk.entries := by
    have hwrite : w.writeDoor u .missed = w.updEntry u fun e => { e with door := .missed } :=
      writeDoor_away (by rw [hlch]; exact hgate) _
    rw [State.missEngagement, journal_trk, raiseOnce_trk, ← hwrite]
  rw [entry_congr hrun, entry_updEntry_same _ huid, entry_congr (s := v) (by rw [(updFleetRec_changes ..).trk_eq])]
  by_cases h : c = .d1
  · rw [show v = _ from if_pos (decide_eq_true h), entry_updEntry_same _ hmark, Option.map_map]
    simp [h, Function.comp_def]
  · rw [show v = s from if_neg (by simpa using h)]
    simp [h]

end

/-- Settles O12: the opener and the closer serve the matched entry. -/
theorem matchEngagesDoorChannel : Obligations.MatchEngagesDoorChannel := by
  intro s e htracking hmoving hnodup hgate hhalf
  refine ⟨fun hfront hserves hopen => ?_, fun hfront hserves hclosed hobstr hnot => ?_⟩
  · have hedge : s.boundaryEdge .b1 = ((s.matched 1 e).passedWindow e).engageOpener e.uid :=
      (boundaryEdge_match (edge := .b1) (by decide) (by decide) htracking hmoving hfront hhalf).trans matchAt_one
    have hframe : ChangesOnly s (.trk :: Part.ofCause) ((s.matched 1 e).passedWindow e) :=
      (matched_changes ..).then (passedWindow_changes ..)
    rw [engageOpener_serves (by rw [hframe.ddu_eq]; exact hserves) (by rw [hframe.pins_eq]; exact hopen)
      (by rw [passedWindow_gateEntry, matched_gateEntry]; exact hgate)] at hedge
    refine ⟨finish s (s.boundaryEdge .b1), rfl, ?_, ?_, (boundaryEdge_frame (by decide)).finish⟩
    · rw [finish_ddu, hedge, (updEntry_changes ..).ddu_eq, beginStroke_ddu, updChan_ddu, PerChannel.get_set_same,
        PerChannel.set_set, State.channelPlan, State.updChan, State.updDdu_sst, State.updDdu_now, hframe.ddu_eq,
        hframe.sst_eq, hframe.now_eq]
      rfl
    · have huid : ∀ x : TrackEntry, ({ x with door := .opening } : TrackEntry).uid = x.uid := fun _ => rfl
      rw [finish_entry, hedge, entry_updEntry_same _ huid,
        begunStroke_entry, passedWindow_entry,
        matched_entry hnodup (mem_of_frontOf hfront)]
      rfl
  · have hframe : ChangesOnly s (.trk :: Part.ofCause) (s.matched 3 e) := matched_changes ..
    have hcloser := engageCloser_serves (s := s.matched 3 e) (u := e.uid) (by rw [hframe.ddu_eq]; exact hserves)
      (by rw [hframe.pins_eq]; exact hclosed) (by rw [hframe.pins_eq]; exact hobstr)
      (by rw [matched_gateEntry]; exact hgate)
    have hddu : ((s.matched 3 e).engageCloser e.uid).ddu = { s.ddu with
        d1 := (s.ddu.d1.accept e.uid).begun s.sst.active.door.channels.d1 s.now true .engagement } := by
      rw [hcloser, (updEntry_changes ..).ddu_eq, beginStroke_ddu, updChan_ddu, PerChannel.get_set_same,
        PerChannel.set_set, State.channelPlan, State.updChan, State.updDdu_sst, State.updDdu_now, hframe.ddu_eq,
        hframe.sst_eq, hframe.now_eq]
      rfl
    have hedge : s.boundaryEdge .b3 = (s.matched 3 e).engageCloser e.uid := by
      rw [boundaryEdge_match (edge := .b3) (by decide) (by decide) htracking hmoving hfront hhalf]
      refine matchAt_three.trans (gateLateCheck_of_ne ?_)
      rw [hddu, refresh_uid]
      exact hnot
    refine ⟨finish s (s.boundaryEdge .b3), rfl, ?_, ?_, (boundaryEdge_frame (by decide)).finish⟩
    · rw [finish_ddu, hedge, hddu]
    · have huid : ∀ x : TrackEntry, ({ x with door := .closing } : TrackEntry).uid = x.uid := fun _ => rfl
      rw [finish_entry, hedge, hcloser, entry_updEntry_same _ huid,
        begunStroke_entry, matched_entry hnodup (mem_of_frontOf hfront)]
      rfl

/-- Settles O13: the opener and the closer miss the matched entry. -/
theorem unservedEngagementIsMissed : Obligations.UnservedEngagementIsMissed := by
  intro s e htracking hmoving hnodup hgate hhalf
  refine ⟨fun hfront hserves => ?_, fun hfront hserves hnot => ?_⟩
  · have hframe : ChangesOnly s (.trk :: Part.ofCause) ((s.matched 1 e).passedWindow e) :=
      (matched_changes ..).then (passedWindow_changes ..)
    have hedge : s.boundaryEdge .b1 = ((s.matched 1 e).passedWindow e).missEngagement .d0 e.uid :=
      (boundaryEdge_match (edge := .b1) (by decide) (by decide) htracking hmoving hfront hhalf).trans
        (matchAt_one.trans (engageOpener_missed (by rw [hframe.ddu_eq]; exact hserves)))
    refine ⟨finish s (s.boundaryEdge .b1), rfl, ?_, ?_, (boundaryEdge_frame (by decide)).finish⟩
    · rw [finish_ddu, hedge, missEngagement_ddu, hframe.ddu_eq]
    · rw [finish_entry, hedge, missEngagement_entry _
        (by rw [passedWindow_gateEntry, matched_gateEntry]; exact hgate), passedWindow_entry,
        matched_entry hnodup (mem_of_frontOf hfront)]
      rfl
  · have hframe : ChangesOnly s (.trk :: Part.ofCause) (s.matched 3 e) := matched_changes ..
    have hmissed : (s.matched 3 e).engageCloser e.uid = (s.matched 3 e).missEngagement .d1 e.uid :=
      engageCloser_missed (by rw [hframe.ddu_eq]; exact hserves)
    have hddu : ((s.matched 3 e).missEngagement .d1 e.uid).ddu = s.ddu := by rw [missEngagement_ddu, hframe.ddu_eq]
    have hedge : s.boundaryEdge .b3 = (s.matched 3 e).missEngagement .d1 e.uid := by
      rw [boundaryEdge_match (edge := .b3) (by decide) (by decide) htracking hmoving hfront hhalf]
      refine matchAt_three.trans ?_
      rw [hmissed]
      refine gateLateCheck_of_ne ?_
      rw [hddu, refresh_uid]
      exact hnot
    refine ⟨finish s (s.boundaryEdge .b3), rfl, ?_, ?_, (boundaryEdge_frame (by decide)).finish⟩
    · rw [finish_ddu, hedge, hddu]
    · rw [finish_entry, hedge, missEngagement_entry _ (by rw [matched_gateEntry]; exact hgate),
        matched_entry hnodup (mem_of_frontOf hfront)]
      rfl

end Sys2Proof.Machine
end

section
/-! PROOF. The boarding gate (O14; R43, R44), and how many causes a run can raise. -/

namespace Sys2Proof.Machine

-- One lemma at a time, as in Laws/State.lean.
set_option Elab.async false

open Sys2Proof

/-! ## Runs that raise at most so many causes -/

/-- A run from `s` to `t` keeps the cause list in order and appends at most `n` entries. -/
structure State.Raises (s t : State) (n : Nat) : Prop where
  ok : s.CausesOk → t.CausesOk
  length : t.msv.causes.length ≤ s.msv.causes.length + n

/-- A pending mode may raise DRIVE_OFF as it is applied (R32). -/
def Chan.pendingCount (x : Chan) : Nat := if x.pendingMode = none then 0 else 1

section
variable {s t u : State} {c : Channel} {n m : Nat}

theorem State.Raises.of_msv (h : t.msv = s.msv) : s.Raises t n :=
  ⟨fun hok => hok.of_msv_eq h, by rw [h]; exact Nat.le_add_right ..⟩

theorem State.Raises.frame {ps : List Part} (h : s.Raises t n) (hc : ChangesOnly t ps u)
    (hp : .msv ∉ ps := by decide) : s.Raises u n :=
  ⟨fun hok => (h.ok hok).of_msv_eq (hc.msv_eq hp), by rw [hc.msv_eq hp]; exact h.length⟩

theorem State.Raises.ite {b : Prop} [Decidable b] (h1 : s.Raises t n) (h2 : s.Raises u n) :
    s.Raises (if b then t else u) n := by
  split <;> assumption

theorem State.Raises.mono (h : s.Raises t n) (hle : n ≤ m) : s.Raises t m := ⟨h.ok, by have := h.length; omega⟩

theorem State.Raises.trans (h1 : s.Raises t n) (h2 : t.Raises u m) : s.Raises u (n + m) :=
  ⟨h2.ok ∘ h1.ok, by have := h1.length; have := h2.length; omega⟩

theorem State.Raises.refl (s : State) : s.Raises s n := .of_msv rfl

theorem State.Raises.endCause (h : s.Raises t n) {code : CauseCode} {index : Nat} : s.Raises (t.endCause code index) n :=
  ⟨fun hok => (h.ok hok).endCause, endCause_causes_length_le.trans h.length⟩

theorem State.Raises.raiseCause (h : s.Raises t n) {code : CauseCode} {category : Category} {index : Nat}
    (hcategory : category ∈ code.categories := by decide) : s.Raises (t.raiseCause code category index) (n + 1) :=
  ⟨fun hok => (h.ok hok).raiseCause hcategory, by
    have := raiseCause_causes_length_le (s := t) (code := code) (category := category) (index := index)
    have := h.length
    omega⟩

theorem State.Raises.raiseOnce (h : s.Raises t n) {code : CauseCode} {category : Category} {index : Nat}
    (hcategory : category ∈ code.categories := by decide) : s.Raises (t.raiseOnce code category index) (n + 1) :=
  (h.raiseCause hcategory).endCause

theorem State.Raises.endNotProven (h : s.Raises t n) : s.Raises t.endNotProven n := by
  unfold State.endNotProven
  split
  · exact h
  · exact .ite h.endCause h

theorem State.Raises.writeDoor (h : s.Raises t n) {v : Nat} {d : DoorState} : s.Raises (t.writeDoor v d) n := by
  have hentry := h.frame (updEntry_changes t v fun e => { e with door := d })
  exact .ite ((State.Raises.endNotProven (hentry.frame (.when (updEntry_changes ..)))).frame (gateEvent_changes _)) hentry

theorem State.Raises.writeDoorOf (h : s.Raises t n) {v : Option Nat} {d : DoorState} :
    s.Raises (t.writeDoorOf v d) n := by
  cases v
  · exact h
  · exact h.writeDoor

theorem State.Raises.endOverdue (h : s.Raises t n) {e : TrackEntry} : s.Raises (t.endOverdue e) n :=
  .ite (.ite h.endCause (.ite h h.endCause)) h

theorem State.Raises.z3Changed (h : s.Raises t n) : s.Raises t.z3Changed (n + 1) := by
  unfold State.z3Changed
  dsimp only
  split_ifs
  · exact h.mono (Nat.le_succ n)
  · exact (h.frame ((updLch_changes t _).then (updLch_changes _ _))).raiseCause
  · exact ((h.frame ((updLch_changes t _).then (updLch_changes _ _))).endCause).mono (Nat.le_succ n)
  · exact (h.frame (updLch_changes t _)).mono (Nat.le_succ n)

theorem State.Raises.matched (h : s.Raises t n) {z : Nat} {e : TrackEntry} : s.Raises (t.matched z e) (n + 1) :=
  State.Raises.z3Changed (State.Raises.endOverdue ((h.frame (updEntry_changes ..)).frame (updEntry_changes ..)))

theorem State.Raises.driveOffFollow (h : s.Raises t n) {old new : DriveMode} :
    s.Raises (t.driveOffFollow c old new) (n + 1) :=
  have h' := h.mono (Nat.le_succ n)
  .ite (.ite h.raiseCause (.ite h'.endCause h')) h'

theorem State.Raises.applyPending (h : s.Raises t n) : s.Raises (t.applyPending c) (n + (t.ddu.get c).pendingCount) := by
  unfold State.applyPending Chan.pendingCount
  cases hpending : (t.ddu.get c).pendingMode with
  | none => exact h
  | some m =>
    have h' := h.frame (updChan_changes t c fun x => { x with pendingMode := none })
    exact .ite (h'.mono (Nat.le_succ n)) (State.Raises.driveOffFollow
      (((h'.frame (updChan_changes ..)).frame (offReleases_changes ..)).frame (journal_changes ..)))

theorem State.Raises.updFleetOf (h : s.Raises t n) {v : Option Nat} {f : FleetRec → FleetRec} :
    s.Raises (t.updFleetOf v f) n := h.frame (updFleetOf_changes ..)

theorem State.Raises.provenWrites (h : s.Raises t n) {x : Chan} : s.Raises (t.provenWrites c x) n := by
  unfold State.provenWrites
  split
  · exact h.writeDoorOf
  · dsimp only
    split
    · exact (h.updFleetOf.frame (updEntry_changes ..)).writeDoorOf
    · exact h.updFleetOf.writeDoorOf
  · split
    · exact h
    · exact h.frame (updEntry_changes ..)
  · exact h

theorem State.Raises.failWrites (h : s.Raises t n) {x : Chan} : s.Raises (t.failWrites c x) n := by
  unfold State.failWrites
  split
  · exact .ite h.updFleetOf.writeDoorOf h
  · exact .ite h h.updFleetOf.writeDoorOf
  · exact h

theorem State.Raises.failCause (h : s.Raises t n) {x : Chan} : s.Raises (t.failCause c x) (n + 1) :=
  .ite h.raiseOnce (.ite h.raiseCause h.raiseCause)

theorem pendingCount_of_pendingMode {x y : Chan} (h : y.pendingMode = x.pendingMode) :
    y.pendingCount = x.pendingCount := by
  simp only [Chan.pendingCount, h]

theorem State.Raises.proveStroke (h : s.Raises t n) :
    s.Raises (t.proveStroke c) (n + (t.ddu.get c).pendingCount) := by
  unfold State.proveStroke
  extract_lets x
  have h1 := (((h.frame (updChan_changes t c fun y => { y with state := .idle, timer := none })).provenWrites (c := c)
    (x := x)).frame (updChan_changes _ c fun y =>
      { y with engaged := if keepsEngagement c x then y.engaged else none, closeDue := keepsEngagement c x && y.closeDue }))
  have h2 := (h1.frame (completeStroke_changes _ c x .proven)).applyPending (c := c)
  rw [pendingCount_of_pendingMode (x := t.ddu.get c)] at h2
  · exact h2
  · rw [completeStroke_ddu, PerChannel.get_set_same, completed_pendingMode, updChan_ddu, PerChannel.get_set_same]
    simp [(provenWrites_changes _ c x).ddu_eq]

theorem State.Raises.failStroke (h : s.Raises t n) {fault : DoorFault} :
    s.Raises (t.failStroke c fault) (n + 1 + (t.ddu.get c).pendingCount) := by
  unfold State.failStroke
  extract_lets x cabin
  have h1 := ((((h.frame (updChan_changes t c fun y => { y with state := failedState c x, timer := none })).failWrites
    (c := c) (x := x)).frame (updChan_changes _ c fun y => { y with engaged := none, closeDue := false })).failCause
      (c := c) (x := x)).frame (journal_changes _ .doorFault .ddu cabin
        [byteOf (channelCode c), byteOf fault.code, byteOf x.retry])
  have h2 := (h1.frame (completeStroke_changes _ c x .jammed)).applyPending (c := c)
  rw [pendingCount_of_pendingMode (x := t.ddu.get c)] at h2
  · exact h2
  · rw [completeStroke_ddu, PerChannel.get_set_same, completed_pendingMode, journal_ddu, failCause_ddu, updChan_ddu,
      PerChannel.get_set_same]
    simp [(failWrites_changes _ c x).ddu_eq]

theorem State.Raises.closeTests (h : s.Raises t n) {k : Nat} :
    s.Raises (State.closeTests c k t) (n + 1 + (t.ddu.get c).pendingCount) := by
  induction k generalizing t with
  | zero => exact h.mono (by omega)
  | succ k ih =>
    unfold State.closeTests
    extract_lets pins s1
    have h1 : s.Raises s1 n := h.frame (updChan_changes ..)
    have hcount : (s1.ddu.get c).pendingCount = (t.ddu.get c).pendingCount :=
      pendingCount_of_pendingMode (by simp [s1])
    refine .ite (h.proveStroke.mono (by omega)) (.ite (.ite (.ite ?_ ?_) (h1.mono (by omega))) (h.mono (by omega)))
    · have h2 := ih (h1.frame (updChan_changes s1 c fun x =>
        { x with retry := x.retry + 1, state := .strokingClose, timer := some (t.now + x.params.closeTime) }))
      rwa [pendingCount_of_pendingMode (x := t.ddu.get c) (by simp [s1])] at h2
    · have h2 := h1.failStroke (c := c) (fault := .obstructed)
      rwa [hcount] at h2

theorem State.Raises.missEngagement (h : s.Raises t n) {v : Nat} : s.Raises (t.missEngagement c v) (n + 1) :=
  (State.Raises.raiseOnce (State.Raises.writeDoor ((h.frame (.when (updEntry_changes ..))).frame
    (updFleetRec_changes ..)))).frame (journal_changes ..)

theorem State.Raises.engageCloser (h : s.Raises t n) {v : Nat} :
    s.Raises (t.engageCloser v) (n + 1 + (t.ddu.get .d1).pendingCount) := by
  refine .ite ?_ (h.missEngagement.mono (Nat.le_add_right ..))
  have h1 := ((h.frame (updChan_changes t .d1 (·.accept v))).frame (beginStroke_changes _ .d1 true .engagement)).writeDoor
    (v := v) (d := .closing)
  have h2 := h1.closeTests (c := .d1) (k := State.retriesLeft (State.writeDoor (State.beginStroke
    (t.updChan .d1 (·.accept v)) .d1 true .engagement) v .closing) .d1)
  rwa [pendingCount_of_pendingMode (x := t.ddu.get .d1) (by rw [writeDoor_ddu]; rfl)] at h2

end

/-! ## The gate closes (R44) -/

section
variable {s : State}

/-- The gate's channel as it is told to close. -/
def State.gateClosed (s : State) : Chan :=
  match s.ddu.d2.state with
  | .idle => Chan.begun { s.ddu.d2 with closeDue := false } s.sst.active.door.channels.d2 s.now true .engagement
  | .strokingOpen => { s.ddu.d2 with closeDue := true }
  | _ => s.ddu.d2

theorem updChan_d2 (s : State) (x : Chan) : (s.updChan .d2 fun _ => x).ddu.d2 = x := rfl

/-- With its close inputs inactive, the gate that is told to close changes its channel alone. -/
theorem gateCloseNow_clear (hclear : s.ddu.d2.state = .idle →
    s.pins.channels.d2.closedLim = false ∧ s.pins.channels.d2.obstr = false) :
    s.gateCloseNow = s.updChan .d2 fun _ => s.gateClosed := by
  unfold State.gateCloseNow State.gateClosed
  split
  · next h =>
    obtain ⟨hclosed, hobstr⟩ := hclear h
    rw [startGateClose_clear s hclosed hobstr, show s.ddu.d2.state = .idle from h]
    rfl
  · next h =>
    rw [show s.ddu.d2.state = .strokingOpen from h]
    rfl
  · next h1 h2 =>
    have hsame : (s.updChan .d2 fun _ => s.ddu.d2) = s := rfl
    split
    · next h => exact absurd h h1
    · next h => exact absurd h h2
    · exact hsame.symm

theorem gateClosed_congr {s t : State} (hddu : t.ddu.d2 = s.ddu.d2) (hsst : t.sst = s.sst) (hnow : t.now = s.now) :
    t.gateClosed = s.gateClosed := by
  simp only [State.gateClosed, hddu, hsst, hnow]

/-! ## Matches at B2 (R43) -/

variable {e : TrackEntry}

/-- An entry whose door is not OPEN is withheld from a gate that holds no engagement. -/
theorem engageGate_withheld (hdoor : e.door ≠ .opened) (hfree : s.ddu.d2.engaged = none) :
    s.engageGate e = s.withhold e.cabin 0 := by
  have hwaits : (s.ddu.get .d2).waitsToClose = false := by simp [Chan.waitsToClose, PerChannel.get, hfree]
  rw [State.engageGate, if_pos hdoor, hwaits]
  rfl

/-- An idle gate opens for an entry whose door is OPEN. -/
theorem engageGate_opens (hdoor : e.door = .opened) (hserves : s.ddu.d2.serves = true)
    (hopen : s.pins.channels.d2.openLim = false) : s.engageGate e =
      (s.updChan .d2 (·.accept e.uid)).beginStroke .d2 false .engagement := by
  have hserves' : (s.ddu.get .d2).serves = true := hserves
  rw [State.engageGate, if_neg (not_not.mpr hdoor), if_pos hserves']
  exact testOpen_clear hopen

/-- A gate that stands open is handed over. -/
theorem engageGate_handed (hdoor : e.door = .opened) (hwaits : s.ddu.d2.waitsToClose = true)
    (hmode : s.ddu.d2.mode ≠ .off) : s.engageGate e =
      (s.updChan .d2 fun y => { y with engaged := some e.uid, closeDue := false }).updEntry e.uid fun t =>
        { t with gateServed := true } := by
  have hserves : (s.ddu.get .d2).serves = false := by
    simp only [Chan.waitsToClose, Bool.and_eq_true] at hwaits
    simp [Chan.serves, PerChannel.get, Option.isNone_eq_false_iff.mpr hwaits.2]
  rw [State.engageGate, if_neg (not_not.mpr hdoor), hserves, if_neg (by simp), if_pos ⟨hwaits, hmode⟩]

end

/-! ## The close point (R44) -/

section
variable {s : State} {e : TrackEntry}

/-- The checks of a window end before the close point. -/
def State.overdueChecked (s : State) : State :=
  (s.accrued.trk.entries.map (·.uid)).foldl (fun t u => t.overdueCheck u) s.accrued

theorem overdueCheck_frame (s : State) (u : Nat) : ChangesOnly s (.trk :: Part.ofCause) (s.overdueCheck u) := by
  unfold State.overdueCheck
  split
  · exact .refl _ _
  · exact .ite ((updEntry_changes s ..).weaken.then (raiseCause_changes ..)) (.refl _ _)

theorem overdueChecked_frame (s : State) : ChangesOnly s (.trk :: Part.ofCause) s.overdueChecked :=
  (updTrk_changes s _).weaken.then (ChangesOnly.foldl (fun t u => overdueCheck_frame t u) _ _)

/-- An entry as a window end leaves it. -/
def State.windowed (s : State) (e : TrackEntry) : TrackEntry := (s.accrue e).checked s.zoneLen

theorem overdueChecked_entries (hnodup : (s.trk.entries.map (·.uid)).Nodup) :
    s.overdueChecked.trk.entries = s.trk.entries.map s.windowed := by
  rw [State.overdueChecked, overdueChecks_all (accrued_nodup hnodup), State.accrued, State.updTrk_trk, List.map_map]
  rfl

theorem windowed_uid (e : TrackEntry) : (s.windowed e).uid = e.uid := accrue_uid e

theorem overdueChecked_entry (hnodup : (s.trk.entries.map (·.uid)).Nodup) (he : e ∈ s.trk.entries) :
    s.overdueChecked.entry e.uid = some (s.windowed e) := by
  have hentries := overdueChecked_entries hnodup
  rw [← windowed_uid (s := s) e]
  refine entry_of_mem ?_ (by rw [hentries]; exact List.mem_map_of_mem he)
  rw [hentries, List.map_map, show (fun x : TrackEntry => x.uid) ∘ s.windowed = fun x => x.uid from funext windowed_uid]
  exact hnodup

/-- The gate's part of a window end, for the entry engaged with D2 in Z2: at the close point the gate is told to close. -/
theorem trackWindow_engaged (htracking : s.trk.state = .tracking) (hnodup : (s.trk.entries.map (·.uid)).Nodup)
    (hengaged : s.ddu.d2.engaged = some e.uid) (he : e ∈ s.trk.entries) (hzone : e.zone = 2) :
    s.trackWindow = if s.zoneLen 2 * s.sst.active.zone.gateClosePct * 100 ≤
        min 4294967295 (e.travel + s.rpm.dWin * s.zoneRatio 2 / 1000)
      then s.overdueChecked.gateCloseNow else s.overdueChecked := by
  have hframe := overdueChecked_frame s
  have hengaged' : (s.overdueChecked.ddu.get .d2).engaged = some e.uid := by
    rw [hframe.ddu_eq]
    exact hengaged
  have hwindowed : s.windowed e = { e with
      travel := min 4294967295 (e.travel + s.rpm.dWin * s.zoneRatio 2 / 1000)
      overdue := (s.windowed e).overdue } := by
    simp [State.windowed, TrackEntry.checked, State.accrue, hzone]
  have hzone' : (s.windowed e).zone = 2 := by rw [hwindowed, hzone]
  have htravel : (s.windowed e).travel = min 4294967295 (e.travel + s.rpm.dWin * s.zoneRatio 2 / 1000) := by
    rw [hwindowed]
  rw [trackWindow_tracking htracking, ← State.overdueChecked, State.closePointCheck, hengaged', Option.bind_some,
    overdueChecked_entry hnodup he]
  simp only [hzone', true_and, htravel, State.zoneLen, hframe.sst_eq, State.closePoint, windowed_uid, hengaged',
    if_true]
  rfl

end

/-- Settles O14: the withheld, served and handed-over gate, the close point, and the late match at B3. -/
theorem boardingGateServesOpenDoor : Obligations.BoardingGateServesOpenDoor := by
  intro s e htracking hnodup begun
  refine ⟨fun hmoving hfront hhalf => ?_, fun hengaged he hzone => ?_, fun hmoving hfront hhalf hengaged hclear => ?_⟩
  · have hframe := matched_changes s 2 e
    have hedge : s.boundaryEdge .b2 = (s.matched 2 e).engageGate (e.moved 2) := by
      rw [boundaryEdge_match (edge := .b2) (by decide) (by decide) htracking hmoving hfront hhalf]
      exact matchAt_two.trans (congrArg _ (refresh_matched hnodup (mem_of_frontOf hfront)))
    refine ⟨fun hdoor hfree => ⟨finish s (s.boundaryEdge .b2), rfl, ?_, (boundaryEdge_frame (by decide)).finish⟩,
      fun hdoor hserves hopen => ⟨finish s (s.boundaryEdge .b2), rfl, ?_, (boundaryEdge_frame (by decide)).finish⟩,
      fun hdoor hwaits hmode => ⟨finish s (s.boundaryEdge .b2), rfl, ?_, ?_, (boundaryEdge_frame (by decide)).finish⟩⟩
    · rw [finish_ddu, hedge, engageGate_withheld (by exact hdoor) (by rw [hframe.ddu_eq]; exact hfree),
        State.withhold, journal_ddu, hframe.ddu_eq]
    · rw [finish_ddu, hedge, engageGate_opens (by exact hdoor) (by rw [hframe.ddu_eq]; exact hserves)
        (by rw [hframe.pins_eq]; exact hopen), beginStroke_ddu, updChan_ddu, PerChannel.get_set_same,
        PerChannel.set_set, State.channelPlan, State.updChan, State.updDdu_sst, State.updDdu_now, hframe.ddu_eq,
        hframe.sst_eq, hframe.now_eq]
      rfl
    · rw [finish_ddu, hedge, engageGate_handed (by exact hdoor) (by rw [hframe.ddu_eq]; exact hwaits)
        (by rw [hframe.ddu_eq]; exact hmode), (updEntry_changes ..).ddu_eq, updChan_ddu, hframe.ddu_eq]
      rfl
    · have huid : ∀ x : TrackEntry, ({ x with gateServed := true } : TrackEntry).uid = x.uid := fun _ => rfl
      have hread : ((s.matched 2 e).updChan .d2 fun y => { y with engaged := some e.uid, closeDue := false }).entry
          e.uid = some (e.moved 2) := matched_entry hnodup (mem_of_frontOf hfront)
      rw [finish_entry, hedge, engageGate_handed (by exact hdoor) (by rw [hframe.ddu_eq]; exact hwaits)
        (by rw [hframe.ddu_eq]; exact hmode)]
      rw [show (e.moved 2).uid = e.uid from rfl, entry_updEntry_same _ huid, hread]
      rfl
  · have hwindow := trackWindow_engaged htracking hnodup hengaged he hzone
    have hframe := overdueChecked_frame s
    intro reached
    refine ⟨fun hnot => ⟨finish s s.trackWindow, rfl, ?_, (trackWindow_changes s).finish⟩,
      fun hreached hstate => ⟨finish s s.trackWindow, rfl, ?_, (trackWindow_changes s).finish⟩,
      fun hreached hstate hclosed hobstr => ⟨finish s s.trackWindow, rfl, ?_, (trackWindow_changes s).finish⟩⟩
    · rw [finish_ddu, hwindow, if_neg hnot, hframe.ddu_eq]
    · rw [finish_ddu, hwindow, if_pos hreached, gateCloseNow_clear (by simp [hframe.ddu_eq, hstate]), updChan_ddu,
        gateClosed_congr (s := s) (by rw [hframe.ddu_eq]) hframe.sst_eq hframe.now_eq, hframe.ddu_eq, State.gateClosed,
        hstate]
      rfl
    · rw [finish_ddu, hwindow, if_pos hreached, gateCloseNow_clear (by simp [hframe.pins_eq, hclosed, hobstr]),
        updChan_ddu, gateClosed_congr (s := s) (by rw [hframe.ddu_eq]) hframe.sst_eq hframe.now_eq, hframe.ddu_eq,
        State.gateClosed, hstate]
      rfl
  · let u := (s.matched 3 e).engageCloser e.uid
    let v := (u.raiseOnce .gateLate .service 2).journal .doorFault .ddu (u.refresh e).cabin
      [2, byteOf DoorFault.gateLate.code]
    have hmatched := matched_changes s 3 e
    have hu : ChangesOnly s Part.ofTrack u := hmatched.weaken.then (engageCloser_changes ..)
    have hd2 : u.ddu.d2 = s.ddu.d2 := by
      have hothers : (u.ddu.get .d2) = ((s.matched 3 e).ddu.get .d2) := by
        simp only [u, State.engageCloser]
        split
        · rw [State.testClose, closeTests_others _ _ (by decide), writeDoor_ddu, beginStroke_ddu,
            PerChannel.get_set_ne _ (by decide), updChan_ddu, PerChannel.get_set_ne _ (by decide)]
        · rw [missEngagement_ddu]
      rw [hmatched.ddu_eq] at hothers
      exact hothers
    have hvmsv : v.msv = (u.raiseOnce .gateLate .service 2).msv := (journal_changes ..).msv_eq
    have hv : ChangesOnly u Part.ofCause v := (raiseOnce_changes ..).then (journal_changes ..)
    have hvd2 : v.ddu.d2 = s.ddu.d2 := by rw [hv.ddu_eq, hd2]
    have hvpins : v.pins = s.pins := by rw [hv.pins_eq, hu.pins_eq]
    have hedge : s.boundaryEdge .b3 = v.updChan .d2 fun _ => v.gateClosed := by
      rw [boundaryEdge_match (edge := .b3) (by decide) (by decide) htracking hmoving hfront hhalf]
      refine matchAt_three.trans ((if_pos ?_).trans (gateCloseNow_clear ?_))
      · rw [refresh_uid]
        exact (congrArg Chan.engaged hd2).trans hengaged
      · rw [hvd2, hvpins]
        exact hclear
    have hcloses : v.gateClosed = s.gateClosed := gateClosed_congr hvd2 (by rw [hv.sst_eq, hu.sst_eq])
      (by rw [hv.now_eq, hu.now_eq])
    refine ⟨finish s (s.boundaryEdge .b3), rfl, (boundaryEdge_frame (by decide)).finish, fun hok hroom => ?_, ?_⟩
    · have hraises : s.Raises u (0 + 1 + 1 + ((s.matched 3 e).ddu.get .d1).pendingCount) :=
        State.Raises.engageCloser (State.Raises.matched (.refl s))
      have hcount : ((s.matched 3 e).ddu.get .d1).pendingCount = s.ddu.d1.pendingCount := by
        rw [hmatched.ddu_eq]
        rfl
      have hlength : u.msv.causes.length < 31 := by
        have := hraises.length
        rw [hcount, Chan.pendingCount] at this
        by_cases hpending : s.ddu.d1.pendingMode = none
        · rw [if_pos hpending] at this hroom
          omega
        · rw [if_neg hpending] at this hroom
          omega
      have hlists := raiseOnce_lists (code := .gateLate) (category := .service) (index := 2) (hraises.ok hok) hlength
      have hmsv : (finish s (s.boundaryEdge .b3)).msv = (u.raiseOnce .gateLate .service 2).msv := by
        rw [finish_msv, hedge, (updChan_changes v ..).msv_eq, hvmsv]
      unfold State.Lists
      rw [hmsv]
      exact hlists
    · have hchan : (finish s (s.boundaryEdge .b3)).ddu.d2 = s.gateClosed := by
        rw [finish_ddu, hedge, updChan_d2, hcloses]
      refine hchan.trans ?_
      unfold State.gateClosed
      cases s.ddu.d2.state <;> rfl

end Sys2Proof.Machine
end

section
/-! PROOF. What raises and ends leave of the supervisor's state and of other causes (R143 to R149, R154): the list alone only
ever stops the line. -/

namespace Sys2Proof.Machine

-- One lemma at a time, as in Laws/State.lean.
set_option Elab.async false

open Sys2Proof

/-! ## Runs in which the line can only stop -/

/-- A state that a cause list can leave for another: RUN for both stops, a service stop for a fast one (R149). -/
def stopsTo (a b : SupState) : Prop :=
  b = a ∨ (a = .run ∧ b = .stoppingService) ∨ ((a = .run ∨ a = .stoppingService) ∧ b = .stoppingFast)

theorem stopsTo.trans {a b c : SupState} (h1 : stopsTo a b) (h2 : stopsTo b c) : stopsTo a c := by
  unfold stopsTo at *
  rcases h1 with rfl | ⟨rfl, rfl⟩ | ⟨rfl | rfl, rfl⟩ <;> simp_all

theorem stopsTo.antisymm {a b : SupState} (h1 : stopsTo a b) (h2 : stopsTo b a) : b = a := by
  unfold stopsTo at *
  rcases h1 with rfl | ⟨rfl, rfl⟩ | ⟨rfl | rfl, rfl⟩ <;> simp_all

theorem stopsTo.not_run {a b : SupState} (h : stopsTo a b) (ha : a ≠ .run) : b ≠ .run := by
  rcases h with rfl | ⟨rfl, -⟩ | ⟨-, rfl⟩
  · exact ha
  · exact absurd rfl ha
  · exact SupState.noConfusion

theorem stopsTo.stopped {a b : SupState} (h : stopsTo a b) (hrun : a ≠ .run) (hservice : a ≠ .stoppingService) :
    b = a := by
  rcases h with h | ⟨h, -⟩ | ⟨h | h, -⟩
  · exact h
  · exact absurd h hrun
  · exact absurd h hrun
  · exact absurd h hservice

theorem stateAfter_stopsTo (m : Msv) : stopsTo m.state (stateAfter m) := by
  unfold stateAfter
  split
  · next h => exact .inr (.inr ⟨h.2, rfl⟩)
  split
  · next h => exact .inr (.inl ⟨h.2, rfl⟩)
  · exact .inl rfl

/-- A run from `s` to `t` at most stops the line, and CHAIN_OUT stays while the state does (R154). -/
structure State.Stops (s t : State) : Prop where
  state : stopsTo s.msv.state t.msv.state
  chain : t.msv.state = s.msv.state → t.msv.chainOut = s.msv.chainOut

section
variable {s t u : State} {code : CauseCode} {category : Category} {index : Nat} {sub : SubState}

theorem State.Stops.of_msv (h : t.msv = s.msv) : s.Stops t := ⟨.inl (by rw [h]), fun _ => by rw [h]⟩

theorem State.Stops.refl (s : State) : s.Stops s := .of_msv rfl

theorem State.Stops.trans (h1 : s.Stops t) (h2 : t.Stops u) : s.Stops u where
  state := h1.state.trans h2.state
  chain heq := by
    have hmiddle : t.msv.state = s.msv.state := h1.state.antisymm (heq ▸ h2.state)
    rw [h2.chain (heq.trans hmiddle.symm), h1.chain hmiddle]

theorem State.Stops.frame {ps : List Part} (h : s.Stops t) (hc : ChangesOnly t ps u) (hp : .msv ∉ ps := by decide) :
    s.Stops u := h.trans (.of_msv (hc.msv_eq hp))

theorem State.Stops.ite {b : Prop} [Decidable b] (h1 : s.Stops t) (h2 : s.Stops u) : s.Stops (if b then t else u) := by
  split <;> assumption

/-- A fast stop that has begun stays one, with the chain as it is. -/
theorem State.Stops.stopped (h : s.Stops t) (hrun : s.msv.state ≠ .run) (hservice : s.msv.state ≠ .stoppingService) :
    t.msv.state = s.msv.state ∧ t.msv.chainOut = s.msv.chainOut :=
  have hsame := h.state.stopped hrun hservice
  ⟨hsame, h.chain hsame⟩

theorem afterListChange_stops (s : State) (code : CauseCode) (index : Nat) : s.Stops (s.afterListChange code index) where
  state := by rw [afterListChange_state]; exact stateAfter_stopsTo _
  chain heq := by
    rw [afterListChange_state] at heq
    rw [afterListChange_chainOut, if_pos heq]

theorem raiseCause_stops (s : State) (code : CauseCode) (category : Category) (index : Nat) :
    s.Stops (s.raiseCause code category index) where
  state := by
    rw [raiseCause_state]
    have hstate : (s.msvRaised code category index).state = s.msv.state := withLimit_state ..
    exact hstate ▸ stateAfter_stopsTo (s.msvRaised code category index)
  chain heq := by
    rw [raiseCause_state] at heq
    rw [raiseCause_chainOut, if_pos heq]

theorem listEnd_stops (s : State) (code : CauseCode) (index : Nat) : s.Stops (s.listEnd code index) := by
  obtain ⟨heq, -⟩ | ⟨u, rcode, rindex, hu, heq⟩ := listEnd_reacts s code index
  · rw [heq]
    exact .refl s
  · have h := afterListChange_stops u rcode rindex
    rw [heq]
    exact ⟨by simpa [hu] using h.state, fun hs => by simpa [hu] using h.chain (by simpa [hu] using hs)⟩

theorem endCause_stops (s : State) (code : CauseCode) (index : Nat) : s.Stops (s.endCause code index) := by
  unfold State.endCause
  split
  · refine State.Stops.trans ⟨.inl ?_, fun _ => ?_⟩ (listEnd_stops ..)
    · simp [recomputeCeiling_msv]
    · simp [recomputeCeiling_msv]
  · exact listEnd_stops ..

theorem raiseOnce_stops (s : State) (code : CauseCode) (category : Category) (index : Nat) :
    s.Stops (s.raiseOnce code category index) := (raiseCause_stops ..).trans (endCause_stops ..)

theorem State.Stops.raiseCause (h : s.Stops t) : s.Stops (t.raiseCause code category index) :=
  h.trans (raiseCause_stops ..)

theorem State.Stops.endCause (h : s.Stops t) : s.Stops (t.endCause code index) := h.trans (endCause_stops ..)

theorem State.Stops.raiseOnce (h : s.Stops t) : s.Stops (t.raiseOnce code category index) :=
  h.trans (raiseOnce_stops ..)

/-! ## What a raise of a latched code stops (R149) -/

/-- A raise leaves an entry of its code, or the aggregate entry. -/
theorem raised_entry {m : Msv} (hok : CausesInOrder m.causes) {c : Cause} (hcategory : c.category ∈ c.code.categories)
    (now : ClockTime) : (∃ x ∈ (m.raised c now).causes, x.category ∈ c.code.categories) ∨
      (m.raised c now).aggregate.isSome = true := by
  by_cases hroom : m.causes.length < 31 ∨ ∃ x ∈ m.causes, x.isOf c.code c.index = true
  · obtain ⟨x, hx, hof, -⟩ := raisedList_lists hroom
    have hx' := (hok.raised hcategory).category x hx
    rw [(Cause.isOf_iff.mp hof).1] at hx'
    exact .inl ⟨x, hx, hx'⟩
  · refine .inr ?_
    obtain ⟨hfull, hnone⟩ := not_or.mp hroom
    have hfind : m.causes.find? (·.isOf c.code c.index) = none :=
      List.find?_eq_none.mpr fun x hx hof => hnone ⟨x, hx, hof⟩
    simp [Msv.raised, hfind, hfull]

/-- A raise of a code of the category FAST alone is a fast stop (R149). -/
theorem raised_hasFast {m : Msv} (hok : CausesInOrder m.causes) {c : Cause} (hfast : c.code.categories = [.fast])
    (hcategory : c.category ∈ c.code.categories) (now : ClockTime) : (m.raised c now).hasFast = true := by
  unfold Msv.hasFast
  rcases raised_entry hok hcategory now with ⟨x, hx, hxc⟩ | h
  · rw [hfast, List.mem_singleton] at hxc
    rw [List.any_eq_true.mpr ⟨x, hx, by simp [hxc]⟩, Bool.true_or]
  · rw [h, Bool.or_true]

theorem raised_hasLatched {m : Msv} (hok : CausesInOrder m.causes) {c : Cause} (hlatched : .limit ∉ c.code.categories)
    (hcategory : c.category ∈ c.code.categories) (now : ClockTime) : (m.raised c now).hasLatched = true := by
  unfold Msv.hasLatched
  rcases raised_entry hok hcategory now with ⟨x, hx, hxc⟩ | h
  · have hne : x.category ≠ .limit := fun heq => hlatched (heq ▸ hxc)
    rw [List.any_eq_true.mpr ⟨x, hx, by simp [Cause.latched, hne]⟩, Bool.true_or]
  · rw [h, Bool.or_true]

theorem msvRaised_causesInOrder (h : s.CausesOk) : CausesInOrder (s.msv.withLimit code category index).causes := by
  rw [withLimit_causes]
  exact State.causesOk_iff.mp h

/-- After a raise of a latched code the line is not in RUN. -/
theorem raiseCause_not_run (h : s.CausesOk) (hcategory : category ∈ code.categories := by decide)
    (hlatched : .limit ∉ code.categories := by decide) : (s.raiseCause code category index).msv.state ≠ .run := by
  rw [raiseCause_state]
  have hhas : (s.msvRaised code category index).hasLatched = true :=
    raised_hasLatched (msvRaised_causesInOrder h) hlatched hcategory _
  unfold stateAfter
  split
  · exact SupState.noConfusion
  split
  · exact SupState.noConfusion
  · next hnot => exact fun hrun => hnot ⟨hhas, hrun⟩

/-- After a raise of a code of the category FAST the line is in no state with a closed chain (R149, R154). -/
theorem raiseCause_fast_state (h : s.CausesOk) (hfast : code.categories = [.fast] := by decide) :
    (s.raiseCause code .fast index).msv.state =
      if s.msv.state = .run ∨ s.msv.state = .stoppingService then .stoppingFast else s.msv.state := by
  rw [raiseCause_state]
  have hhas : (s.msvRaised code .fast index).hasFast = true :=
    raised_hasFast (msvRaised_causesInOrder h) hfast (by rw [hfast]; exact List.mem_singleton_self _) _
  have hstate : (s.msvRaised code .fast index).state = s.msv.state := withLimit_state ..
  unfold stateAfter
  rw [hstate]
  simp only [hhas, true_and]
  split
  · rfl
  · next hnot => rw [if_neg fun h => hnot (.inl h.2)]

/-- A FAST raise while the chain is closed opens it (R154). -/
theorem raiseCause_fast_stops (h : s.CausesOk) (hmoving : s.msv.state = .run ∨ s.msv.state = .stoppingService)
    (hfast : code.categories = [.fast] := by decide) :
    (s.raiseCause code .fast index).msv.state = .stoppingFast ∧
      (s.raiseCause code .fast index).msv.chainOut = false := by
  have hstate := (raiseCause_fast_state (index := index) h hfast).trans (if_pos hmoving)
  refine ⟨hstate, ?_⟩
  have hafter : stateAfter (s.msvRaised code .fast index) = .stoppingFast := (raiseCause_state ..).symm.trans hstate
  rw [raiseCause_chainOut, hafter, if_neg (by rcases hmoving with h | h <;> simp [h])]
  rfl

/-! ## What a run leaves of the entries of one identity -/

/-- A run from `s` to `t` leaves the entries of one identity as they are. -/
def State.SameCause (s t : State) (code : CauseCode) (index : Nat) : Prop :=
  ∀ c : Cause, c.isOf code index = true → (c ∈ t.msv.causes ↔ c ∈ s.msv.causes)

theorem State.SameCause.of_msv (h : t.msv = s.msv) : s.SameCause t code index := fun _ _ => by rw [h]

theorem State.SameCause.refl (s : State) : s.SameCause s code index := .of_msv rfl

theorem State.SameCause.trans (h1 : s.SameCause t code index) (h2 : t.SameCause u code index) :
    s.SameCause u code index := fun c hc => (h2 c hc).trans (h1 c hc)

theorem State.SameCause.frame {ps : List Part} (h : s.SameCause t code index) (hc : ChangesOnly t ps u)
    (hp : .msv ∉ ps := by decide) : s.SameCause u code index := h.trans (.of_msv (hc.msv_eq hp))

theorem State.SameCause.ite {b : Prop} [Decidable b] (h1 : s.SameCause t code index) (h2 : s.SameCause u code index) :
    s.SameCause (if b then t else u) code index := by
  split <;> assumption

theorem State.SameCause.lists (h : s.SameCause t code index) : t.Lists code index sub ↔ s.Lists code index sub :=
  exists_congr fun c => and_congr_left fun hc => h c hc.1

theorem State.SameCause.noneActive (h : s.SameCause t code index) : t.NoneActive code index ↔ s.NoneActive code index :=
  forall_congr' fun c =>
    ⟨fun hn hc hof => hn ((h c hof).mpr hc) hof, fun hn hc hof => hn ((h c hof).mp hc) hof⟩

section
variable {other : CauseCode} {i : Nat}

theorem isOf_other {c : Cause} (hc : c.isOf code index = true) (hne : ¬ (code = other ∧ index = i)) :
    c.isOf other i = false := by
  obtain ⟨rfl, rfl⟩ := Cause.isOf_iff.mp hc
  simpa [Cause.isOf] using hne

theorem State.SameCause.raiseCause (h : s.SameCause t code index) (hne : ¬ (code = other ∧ index = i)) :
    s.SameCause (t.raiseCause other category i) code index :=
  h.trans fun c hc => by
    rw [raiseCause_causes]
    exact mem_raisedList_of_ne (isOf_other hc hne)

theorem State.SameCause.endCause (h : s.SameCause t code index) (hne : ¬ (code = other ∧ index = i)) :
    s.SameCause (t.endCause other i) code index :=
  h.trans fun c hc => by
    rw [endCause_causes]
    exact mem_endedList_of_ne (isOf_other hc hne)

theorem State.SameCause.raiseOnce (h : s.SameCause t code index) (hne : ¬ (code = other ∧ index = i)) :
    s.SameCause (t.raiseOnce other category i) code index := (h.raiseCause hne).endCause hne

end
end

end Sys2Proof.Machine
end

section
/-! PROOF. The rope monitor (O22 to O24; R52, R57, R58, R62 to R68). -/

namespace Sys2Proof.Machine

-- One lemma at a time, as in Laws/State.lean.
set_option Elab.async false

open Sys2Proof

/-! ## The stages of a window end -/

section
variable (s : State)

theorem Rpm.disagreeing_self {r : Rpm} {b : Bool} (h : b = r.disagreeing) : { r with disagreeing := b } = r := by
  rw [h]

/-- The disagreement state after a window (R57). -/
theorem tachoFollow_rpm : s.tachoFollow.rpm =
    { s.rpm with
      disagreeing := if s.rpm.disagreeing then decide (s.rpm.agreeCount ≠ 10) else decide (3 ≤ s.rpm.disagreeCount) } := by
  unfold State.tachoFollow
  split
  · next hdis =>
    split
    · next hagree => simp [hagree]
    · next hagree => exact (Rpm.disagreeing_self (by simp [hagree, hdis])).symm
  · next hdis =>
    split
    · next hcount => simp [hcount]
    · next hcount => exact (Rpm.disagreeing_self (by simpa [hcount] using hdis)).symm

theorem setStandstill_rpm (b : Bool) : (s.setStandstill b).rpm = { s.rpm with standstill := b } := by
  unfold State.setStandstill
  split
  · next h => rw [← h]
  · rw [journal_rpm]
    rfl

theorem setStandstill_msv (b : Bool) : (s.setStandstill b).msv = s.msv := (setStandstill_changes s b).msv_eq

/-- The zero-window count and STANDSTILL after a window (R58). -/
theorem standstillCount_rpm : s.standstillCount.rpm =
    if s.rpm.v = 0 then
      { s.rpm with zeroCount := min 10 (s.rpm.zeroCount + 1)
                   standstill := decide (min 10 (s.rpm.zeroCount + 1) = 10) || s.rpm.standstill }
    else { s.rpm with zeroCount := 0, standstill := false } := by
  unfold State.standstillCount
  dsimp only
  split
  · rw [setStandstill_rpm, satInc_eq_min]
    rfl
  · rw [setStandstill_rpm]
    rfl

theorem standstillCount_msv : s.standstillCount.msv = s.msv := (standstillCount_changes s).msv_eq

/-- The tension conditions of a position (R64, R65). -/
theorem thresholds_rpm (p : Nat) : (s.thresholds p).rpm = { s.rpm with
    warnLow := decide (p < s.sst.active.rope.warnLow), warnHigh := decide (s.sst.active.rope.warnHigh < p)
    tripLow := decide (p < s.sst.active.rope.tripLow), tripHigh := decide (s.sst.active.rope.tripHigh < p) } := by
  simp [State.thresholds]

/-- A good sample (R62, R63). -/
theorem tensionSample_good {c : Nat} (h : sampleGood c = true) : (s.tensionSample c).rpm =
    let p := c * s.sst.active.rope.span / 4095
    { s.rpm with
      tensionC := c, tensionP := some p, sensor := .good
      warnLow := decide (p < s.sst.active.rope.warnLow), warnHigh := decide (s.sst.active.rope.warnHigh < p)
      tripLow := decide (p < s.sst.active.rope.tripLow), tripHigh := decide (s.sst.active.rope.tripHigh < p) } := by
  unfold State.tensionSample
  dsimp only
  rw [if_pos h, thresholds_rpm]
  unfold State.when
  split
  · simp
  · rfl

/-- A bad sample (R62). -/
theorem tensionSample_bad {c : Nat} (h : sampleGood c = false) : (s.tensionSample c).rpm =
    { s.rpm with tensionC := c, sensor := .faulty } := by
  unfold State.tensionSample
  dsimp only
  rw [if_neg (by simp [h])]
  unfold State.when
  split <;> simp

/-- Neither form of a sample touches the window's other values. -/
theorem tensionSample_rpm (c : Nat) : (s.tensionSample c).rpm = { s.rpm with
    tensionC := (s.tensionSample c).rpm.tensionC, tensionP := (s.tensionSample c).rpm.tensionP
    sensor := (s.tensionSample c).rpm.sensor
    warnLow := (s.tensionSample c).rpm.warnLow, warnHigh := (s.tensionSample c).rpm.warnHigh
    tripLow := (s.tensionSample c).rpm.tripLow, tripHigh := (s.tensionSample c).rpm.tripHigh } := by
  cases h : sampleGood c with
  | true => rw [tensionSample_good s h]
  | false => rw [tensionSample_bad s h]

theorem State.SameCause.sideFollow {s t : State} {code other : CauseCode} {index i : Nat} {category : Category}
    {held outside : Bool} (h : s.SameCause t code index) (hne : code ≠ other) :
    s.SameCause (t.sideFollow other category i held outside) code index :=
  .ite (h.raiseCause fun heq => hne heq.1) (.ite (h.endCause fun heq => hne heq.1) h)

/-- A sample follows the tension causes alone. -/
theorem tensionSample_sameCause (c : Nat) : s.SameCause (s.tensionSample c) .tachoDisagree 0 := by
  unfold State.tensionSample State.thresholds State.when
  dsimp only
  have h : ∀ f, s.SameCause (s.updRpm f) .tachoDisagree 0 := fun f => .of_msv rfl
  split
  · have hsensor : s.SameCause (if decide (s.rpm.sensor = .faulty) = true then
        (s.updRpm fun r => { r with tensionC := c, tensionP := some (c * s.sst.active.rope.span / 4095)
                                    sensor := .good }).endCause .tensionSensor 0
        else s.updRpm fun r => { r with tensionC := c, tensionP := some (c * s.sst.active.rope.span / 4095)
                                        sensor := .good }) .tachoDisagree 0 :=
      .ite ((h _).endCause (by decide)) (h _)
    exact ((((hsensor.frame (updRpm_changes ..)).sideFollow (by decide)).sideFollow (by decide)).sideFollow
      (by decide)).sideFollow (by decide)
  · exact .ite ((h _).raiseCause (by decide)) (h _)

/-- The window with its counts, before the disagreement state (R51 to R56). -/
def State.windowCounted (s : State) : State :=
  s.windowTime.updRpm fun r => windowClosed s.sst.active.rope s.windowTime.now r

theorem ropeWindow_eq (tension : Nat) :
    s.ropeWindow tension = s.windowCounted.tachoFollow.standstillCount.tensionSample tension := rfl

/-- What the counts of R56 and the distance of R55 leave of a closing window. -/
theorem windowClosed_rest (p : RopePlan) (now : Nat) (r : Rpm) : windowClosed p now r =
    { Machine.closeWindow p now r with
      dist := (windowClosed p now r).dist, rem := (windowClosed p now r).rem
      disagreeCount := (windowClosed p now r).disagreeCount, agreeCount := (windowClosed p now r).agreeCount } := by
  unfold windowClosed countDisagree
  split <;> rfl

end

/-- What the disagreement state and the sample leave of the counted window. -/
theorem ropeWindow_values (s : State) (tension : Nat) :
    let w := s.windowCounted
    let t := s.ropeWindow tension
    t.rpm.v = w.rpm.v ∧ t.rpm.disagreeCount = w.rpm.disagreeCount ∧ t.rpm.agreeCount = w.rpm.agreeCount ∧
      t.rpm.disagreeing = w.tachoFollow.rpm.disagreeing ∧
      t.rpm.zeroCount = w.tachoFollow.standstillCount.rpm.zeroCount ∧
      t.rpm.standstill = w.tachoFollow.standstillCount.rpm.standstill ∧ t.rpm.nA = w.rpm.nA ∧ t.rpm.nB = w.rpm.nB ∧
      t.rpm.lastA = w.rpm.lastA ∧ t.rpm.lastB = w.rpm.lastB ∧ t.rpm.satA = w.rpm.satA ∧ t.rpm.satB = w.rpm.satB := by
  intro w t
  have htacho := tachoFollow_rpm w
  have hstand := standstillCount_rpm w.tachoFollow
  have htension : t.rpm = _ := tensionSample_rpm w.tachoFollow.standstillCount tension
  rw [htension]
  refine ⟨?_, ?_, ?_, ?_, rfl, rfl, ?_, ?_, ?_, ?_, ?_, ?_⟩ <;> rw [hstand] <;> split <;> simp [htacho]

/-- What a closing window keeps and clears. -/
theorem windowCounted_values (s : State) :
    let w := s.windowCounted
    w.rpm.disagreeing = s.rpm.disagreeing ∧ w.rpm.zeroCount = s.rpm.zeroCount ∧ w.rpm.standstill = s.rpm.standstill ∧
      w.rpm.nA = 0 ∧ w.rpm.nB = 0 ∧ w.rpm.lastA = s.rpm.nA ∧ w.rpm.lastB = s.rpm.nB ∧
      w.rpm.satA = decide (s.rpm.nA = 4095) ∧ w.rpm.satB = decide (s.rpm.nB = 4095) := by
  intro w
  have hrest : w.rpm = _ := windowClosed_rest s.sst.active.rope s.windowTime.now s.rpm
  rw [hrest]
  exact ⟨rfl, rfl, rfl, rfl, rfl, rfl, rfl, rfl, rfl⟩

/-- Settles O22: pulses, and the stages of a window end that follow its counts. -/
theorem ropeWindowJudgesStandstill : Obligations.RopeWindowJudgesStandstill := by
  intro s tension
  refine ⟨⟨finish s (s.pulse .a), rfl, ?_, (pulse_changes s .a).finish⟩,
    ⟨finish s (s.pulse .b), rfl, ?_, (pulse_changes s .b).finish⟩, ⟨finish s (s.ropeWindow tension), rfl, ?_⟩⟩
  · simp [State.pulse, satInc_eq_min]
  · simp [State.pulse, satInc_eq_min]
  obtain ⟨hd, hz, hs, c1, c2, c3, c4, c5, c6⟩ := windowCounted_values s
  obtain ⟨hv, hdis, hagr, hdisagreeing, hzero, hstill, hnA, hnB, hlastA, hlastB, hsatA, hsatB⟩ :=
    ropeWindow_values s tension
  have htacho := tachoFollow_rpm s.windowCounted
  have hstand := standstillCount_rpm s.windowCounted.tachoFollow
  rw [show s.windowCounted.tachoFollow.rpm.v = s.windowCounted.rpm.v by rw [htacho]] at hstand
  have hsame : s.windowCounted.tachoFollow.SameCause (finish s (s.ropeWindow tension)) .tachoDisagree 0 :=
    (State.SameCause.of_msv (standstillCount_msv _)).trans (tensionSample_sameCause _ tension)
  simp only [finish_rpm]
  refine ⟨hnA.trans c1, hnB.trans c2, hlastA.trans c3, hlastB.trans c4, hsatA.trans c5, hsatB.trans c6,
    fun hnot => ?_, fun hyes => ?_, fun hroom hok => ⟨fun hnot hcount => ?_, fun hyes hcount => ?_⟩, fun hzero' => ?_,
    fun hmoves => ?_, (ropeWindow_changes s tension).finish⟩
  · simp [hdisagreeing, htacho, hdis, hd, hnot]
  · simp [hdisagreeing, htacho, hagr, hd, hyes]
  · have hraised : s.windowCounted.tachoFollow = (s.windowCounted.updRpm fun r => { r with disagreeing := true }).raiseCause .tachoDisagree
        .service 0 := by
      rw [hdis] at hcount
      simp [State.tachoFollow, hd, hnot, hcount]
    refine hsame.lists.mpr ?_
    rw [hraised]
    exact raiseCause_lists hroom
  · have hended : s.windowCounted.tachoFollow = (s.windowCounted.updRpm fun r => { r with disagreeing := false }).endCause .tachoDisagree 0 := by
      rw [hagr] at hcount
      simp [State.tachoFollow, hd, hyes, hcount]
    refine hsame.noneActive.mpr ?_
    rw [hended]
    exact endCause_noneActive (hok.of_msv_eq rfl)
  · rw [if_pos (hv.symm.trans hzero')] at hstand
    have hcount : (s.ropeWindow tension).rpm.zeroCount = min 10 (s.rpm.zeroCount + 1) := by
      rw [hzero, hstand, htacho]
      exact congrArg (fun n => min 10 (n + 1)) hz
    refine ⟨hcount, ?_⟩
    simp only [finish_rpm, hcount]
    rw [hstill, hstand, htacho, Bool.or_comm, ← hz, ← hs]
  · rw [hv] at hmoves
    rw [if_neg hmoves] at hstand
    rw [hzero, hstill, hstand]
    exact ⟨rfl, rfl⟩

/-- Settles O23: the two forms of a sample. -/
theorem tensionSampleIsClassified : Obligations.TensionSampleIsClassified := by
  intro s tension
  let u := s.windowCounted.tachoFollow.standstillCount
  have hsst : u.sst = s.sst := by
    rw [(standstillCount_changes _).sst_eq, (tachoFollow_changes _).sst_eq]
    rfl
  have hheld : u.rpm.tensionP = s.rpm.tensionP ∧ u.rpm.warnLow = s.rpm.warnLow ∧ u.rpm.warnHigh = s.rpm.warnHigh ∧
      u.rpm.tripLow = s.rpm.tripLow ∧ u.rpm.tripHigh = s.rpm.tripHigh := by
    have hrest := windowClosed_rest s.sst.active.rope s.windowTime.now s.rpm
    have hw : s.windowCounted.rpm = windowClosed s.sst.active.rope s.windowTime.now s.rpm := rfl
    simp only [u]
    rw [standstillCount_rpm]
    split
    · rw [tachoFollow_rpm, hw, hrest]
      exact ⟨rfl, rfl, rfl, rfl, rfl⟩
    · rw [tachoFollow_rpm, hw, hrest]
      exact ⟨rfl, rfl, rfl, rfl, rfl⟩
  refine ⟨fun hlow hhigh => ⟨finish s (s.ropeWindow tension), rfl, ?_⟩,
    fun hbad => ⟨finish s (s.ropeWindow tension), rfl, ?_⟩⟩
  · have hgood := tensionSample_good u (c := tension) (by simp [sampleGood, hlow, hhigh])
    rw [finish_rpm, ropeWindow_eq, hgood, hsst]
    exact ⟨rfl, rfl, rfl, rfl, rfl, rfl, rfl⟩
  · have hgood := tensionSample_bad u (c := tension) (by
      simp only [sampleGood, Bool.and_eq_false_iff, decide_eq_false_iff_not]
      omega)
    rw [finish_rpm, ropeWindow_eq, hgood]
    exact ⟨rfl, rfl, hheld⟩

/-! ## O24: local loops -/

theorem setLoop_loops (s : State) (l : RopeLoop) (x : LoopUnit) :
    (s.setLoop l x).rpm.loops = s.rpm.loops.set l x := rfl

@[simp] theorem PerLoop.set_get {α : Type} (p : PerLoop α) (l : RopeLoop) : p.set l (p.get l) = p := by
  cases l <;> rfl

/-- Settles O24: the two tables of a loop. -/
theorem loopStatesFollowTable : Obligations.LoopStatesFollowTable := by
  intro s l
  refine ⟨fun closed hchange => ⟨finish s (s.loopInput l closed), rfl, ?_, ?_, (loopInput_changes s l closed).finish⟩,
    ⟨finish s (s.loopExpiry l), rfl, ?_, fun hok hroom => ⟨fun hstate => ?_, fun hstate => ?_⟩,
      (loopExpiry_changes s l).finish⟩⟩
  · rw [finish_rpm, State.loopInput, if_neg hchange]
    dsimp only
    cases (s.rpm.loops.get l).state <;> cases closed <;> simp [setLoop_loops]
  · rw [finish_pins, State.loopInput, if_neg hchange]
    dsimp only
    cases (s.rpm.loops.get l).state <;> cases closed <;> rfl
  · rw [finish_rpm, State.loopExpiry]
    cases (s.rpm.loops.get l).state <;> simp [setLoop_loops]
  · have hrun : s.loopExpiry l = (s.setLoop l ⟨.opened, none⟩).raiseCause .rpdLocal .fast (loopCode l) := by
      simp [State.loopExpiry, hstate]
    rw [hrun]
    exact ⟨(raiseCause_lists (s := s.setLoop l ⟨.opened, none⟩) hroom).finish,
      fun hmoving => raiseCause_fast_stops (s := s.setLoop l ⟨.opened, none⟩) (hok.of_msv_eq rfl) hmoving⟩
  · have hrun : s.loopExpiry l = (s.setLoop l ⟨.closed, none⟩).endCause .rpdLocal (loopCode l) := by
      simp [State.loopExpiry, hstate]
    rw [hrun]
    exact (endCause_noneActive (s := s.setLoop l ⟨.closed, none⟩) (hok.of_msv_eq rfl)).finish

end Sys2Proof.Machine
end

section
/-! PROOF. The launch gate: window ends and B4 falling (O25 to O27; R72 to R74, R77, R79, R80). -/

namespace Sys2Proof.Machine

-- One lemma at a time, as in Laws/State.lean.
set_option Elab.async false

open Sys2Proof

/-! ## O25: the decision at a window end -/

section
variable {s : State} {e : TrackEntry}

theorem divertTest_iff : s.divertTest = true ↔
    (s.msv.state = .run ∨ s.msv.state = .held) ∧ s.trk.state = .tracking ∧ s.lch.divert = none := by
  simp [State.divertTest, and_assoc]

theorem launchTest_iff : s.launchTest e = true ↔ s.msv.state = .run ∧ s.trk.state = .tracking ∧ s.lch.divert = none ∧
    s.sst.active.zone.launchMin ≤ s.rpm.v ∧ s.entryBarred e = false ∧ s.entryGarage e = false ∧
    e.door = .latched ∧ s.pins.latch = true ∧ s.launchSpacing ≤ s.lch.dL.toNat := by
  simp [State.launchTest, State.proven, and_assoc]

/-- The gate with D_L of the window, before the decision (R73). -/
def State.withDistance (s : State) : State := s.updLch fun l => { l with dL := s.rpm.dist - l.lastLaunch }

theorem launchWindow_eq : s.launchWindow =
    s.withDistance.gateEvent.updLch fun l => { l with estimate := s.withDistance.gateEvent.launchEstimate } := rfl

theorem launchWindow_changes' : ChangesOnly s [.lch, .journal, .news] s.launchWindow := launchWindow_changes s

/-- The gate as a decision leaves it, in the values that the proof timer does not touch. -/
theorem gateEvent_values (s : State) : s.gateEvent.lch.gate = s.gateDecide.lch.gate ∧
    s.gateEvent.lch.dL = s.gateDecide.lch.dL ∧ s.gateEvent.lch.lastLaunch = s.gateDecide.lch.lastLaunch ∧
    s.gateEvent.lch.barredNotice = s.gateDecide.lch.barredNotice := ⟨rfl, rfl, rfl, rfl⟩

theorem noteBarred_lch (n : Nat) : (s.noteBarred n).lch = { s.lch with barredNotice := true } := by
  unfold State.noteBarred
  split
  · next h => rw [← h]
  · rw [State.updLch_lch, journal_lch]

end

/-- Settles O25: the three outcomes of the decision, each from the branch that its conditions select. -/
theorem windowEndDecidesGateEntry : Obligations.WindowEndDecidesGateEntry := by
  intro s e hgate hgateEntry hentry dL diverts launches
  let u := s.withDistance
  have hdecide := gateDecide_holding u (e := e) hgate (by
    have h : u.gateEntry? = s.lch.gateEntry.bind s.entry := rfl
    rw [h, hgateEntry, Option.bind_some, hentry])
  obtain ⟨hg, hd, hl, hb⟩ := gateEvent_values u
  have hdivert : u.divertTest = true ↔ (s.msv.state = .run ∨ s.msv.state = .held) ∧ s.trk.state = .tracking ∧
      s.lch.divert = none := divertTest_iff
  have hlaunch : u.launchTest e = true ↔ launches := launchTest_iff
  have hgarage : u.entryGarage e = s.entryGarage e := rfl
  have hbarred : u.entryBarred e = s.entryBarred e := rfl
  have hframe : (diverts → ChangesOnly s [.lch] (finish s s.launchWindow)) := fun hdiv => by
    rw [hgarage, if_pos hdiv.1, if_pos (hdivert.mpr hdiv.2)] at hdecide
    rw [launchWindow_eq]
    refine (ChangesOnly.then ?_ (updLch_changes _ _)).finish
    refine ChangesOnly.then ?_ (proofTimerFollow_changes _)
    rw [show s.withDistance.gateDecide = _ from hdecide]
    exact (updLch_changes s _).then (updLch_changes u _)
  refine ⟨finish s s.launchWindow, rfl, ?_⟩
  have hlch : (finish s s.launchWindow).lch = { u.gateEvent.lch with estimate := u.gateEvent.launchEstimate } := rfl
  have hstay : u.gateEvent.lch.gateEntry = s.lch.gateEntry := (gateEvent_sameStay u).gateEntry
  rw [hlch]
  simp only [hg, hd, hl, hb, hstay, true_and]
  refine and_assoc.mp (and_assoc.mp (and_assoc.mp ⟨?_, hframe, (launchWindow_changes s).finish⟩))
  rcases Bool.eq_false_or_eq_true (s.entryGarage e) with hgar | hgar
  · have hnot : ¬ launches := fun ⟨_, _, _, _, _, h, _⟩ => by rw [hgar] at h; exact absurd h (by decide)
    rw [hgarage, hgar, if_pos rfl] at hdecide
    rw [if_neg hnot, if_neg hnot, if_neg hnot]
    have hnotice : s.lch.barredNotice = (s.lch.barredNotice || (s.entryBarred e && !s.entryGarage e)) := by simp [hgar]
    by_cases hdiv : u.divertTest = true
    · rw [if_pos hdiv] at hdecide
      rw [hdecide, if_pos ⟨hgar, hdivert.mp hdiv⟩]
      exact ⟨⟨⟨rfl, rfl⟩, rfl⟩, hnotice⟩
    · rw [if_neg hdiv] at hdecide
      rw [hdecide, if_neg fun h => hdiv (hdivert.mpr h.2)]
      exact ⟨⟨⟨hgate, rfl⟩, rfl⟩, hnotice⟩
  · have hnodiv : ¬ diverts := fun ⟨h, _⟩ => by rw [hgar] at h; exact absurd h (by decide)
    rw [hgarage, hgar, if_neg (by simp), hbarred] at hdecide
    rw [if_neg hnodiv]
    rcases Bool.eq_false_or_eq_true (s.entryBarred e) with hbar | hbar
    · have hnot : ¬ launches := fun ⟨_, _, _, _, h, _⟩ => by rw [hbar] at h; exact absurd h (by decide)
      rw [hbar, if_pos rfl] at hdecide
      rw [hdecide, noteBarred_lch, if_neg hnot, if_neg hnot, if_neg hnot]
      exact ⟨⟨⟨hgate, rfl⟩, rfl⟩, by simp [hbar, hgar]⟩
    · rw [hbar, if_neg (by simp)] at hdecide
      have hnotice : s.lch.barredNotice = (s.lch.barredNotice || (s.entryBarred e && !s.entryGarage e)) := by
        simp [hbar]
      by_cases hlaun : launches
      · rw [if_pos (hlaunch.mpr hlaun)] at hdecide
        rw [hdecide, launch_lch, if_pos hlaun, if_pos hlaun, if_pos hlaun]
        exact ⟨⟨⟨rfl, rfl⟩, rfl⟩, hnotice⟩
      · rw [if_neg fun h => hlaun (hlaunch.mp h)] at hdecide
        rw [hdecide, if_neg hlaun, if_neg hlaun, if_neg hlaun]
        exact ⟨⟨⟨hgate, rfl⟩, rfl⟩, hnotice⟩

/-! ## O26: the launch estimate -/

/-- A wait rounded up: the least number of ms that covers the missing distance. -/
theorem ceil_wait {m v : Nat} (hv : 0 < v) (hm : 0 < m) :
    m ≤ (m + v - 1) / v * v ∧ ((m + v - 1) / v - 1) * v < m ∧ 0 < (m + v - 1) / v := by
  have hlow : (m + v - 1) / v * v ≤ m + v - 1 := Nat.div_mul_le_self ..
  have hhigh : m + v - 1 < (m + v - 1) / v * v + v := Nat.lt_div_mul_add hv
  have hpos : 0 < (m + v - 1) / v := Nat.div_pos (by omega) hv
  refine ⟨by omega, ?_, hpos⟩
  rw [Nat.sub_mul, Nat.one_mul]
  omega

theorem ceil_wait_le_iff {m v k : Nat} (hv : 0 < v) : (m + v - 1) / v ≤ k ↔ m ≤ k * v := by
  rw [← Nat.lt_succ_iff, Nat.div_lt_iff_lt_mul hv, Nat.succ_mul]
  omega

/-- Settles O26: the branches of the estimate, the rounded-up wait last. -/
theorem launchEstimateIsLeastWait : Obligations.LaunchEstimateIsLeastWait := by
  intro s
  let u := s.withDistance.gateEvent
  have hstay : u.lch.gateEntry = s.lch.gateEntry := (gateEvent_sameStay s.withDistance).gateEntry
  have hlch : (finish s s.launchWindow).lch = { u.lch with estimate := u.launchEstimate } := rfl
  have hframe : ChangesOnly s [.lch, .journal, .news] u := (updLch_changes s _).weaken.then (gateEvent_changes _)
  have hspacing : u.launchSpacing = s.sst.active.zone.launchSpacing * 10 := by
    simp only [State.launchSpacing, hframe.sst_eq]
  refine ⟨finish s s.launchWindow, rfl, ?_⟩
  rw [hlch]
  simp only
  refine ⟨fun hnone => ?_, fun hsome => ⟨fun hlaunching => ?_, fun hnot => ⟨fun hmet => ?_, fun hmissing => ?_⟩⟩⟩
  · simp [State.launchEstimate, hstay, hnone]
  · rw [State.launchEstimate, if_neg (by simpa [hstay, Option.isNone_iff_eq_none] using hsome), if_pos (.inl hlaunching)]
  · rw [State.launchEstimate, if_neg (by simpa [hstay, Option.isNone_iff_eq_none] using hsome),
      if_pos (.inr (by rw [hspacing]; exact hmet))]
  have hwait : u.launchEstimate = if s.rpm.v = 0 then 65535 else
      let t := ((s.sst.active.zone.launchSpacing * 10 - u.lch.dL.toNat) * 100 + s.rpm.v - 1) / s.rpm.v
      if 65534 < t then 65535 else t := by
    rw [State.launchEstimate, if_neg (by simpa [hstay, Option.isNone_iff_eq_none] using hsome), hspacing,
      if_neg (not_or.mpr ⟨hnot, Nat.not_le.mpr hmissing⟩), hframe.rpm_eq]
  rw [hwait]
  refine ⟨fun hzero => if_pos hzero, fun hpos => ⟨fun hnear => ?_, fun hfar => ?_⟩⟩
  · have hceil := ceil_wait (m := (s.sst.active.zone.launchSpacing * 10 - u.lch.dL.toNat) * 100) hpos (by omega)
    rw [if_neg (Nat.ne_of_gt hpos)]
    dsimp only
    rw [if_neg (Nat.not_lt.mpr ((ceil_wait_le_iff hpos).mpr hnear))]
    exact hceil
  · rw [if_neg (Nat.ne_of_gt hpos)]
    dsimp only
    rw [if_pos (Nat.lt_of_not_le fun h => absurd ((ceil_wait_le_iff hpos).mp h) (Nat.not_le.mpr hfar))]

/-! ## O27: B4 falling -/

section
variable {s : State}

/-- With the gate EMPTY and the proof timer stopped, nothing is decided and no timer runs (R72, R75). -/
theorem gateEvent_lch_of_empty (hgate : s.lch.gate = .empty) (htimer : s.lch.proofTimer = none) :
    s.gateEvent.lch = s.lch := by
  have hwanted : s.proofWanted = false := by simp [State.proofWanted, hgate]
  rw [State.gateEvent, gateDecide_not_holding s (by rw [hgate]; exact GateState.noConfusion)]
  unfold State.proofTimerFollow
  rw [hwanted, State.updLch_lch, if_neg (by simp), ← htimer]

theorem changeState_lch_of_empty (hgate : s.lch.gate = .empty) (htimer : s.lch.proofTimer = none) (new : SupState)
    (brought : List Byte) : (s.changeState new brought).lch = s.lch := by
  unfold State.changeState
  dsimp only
  have hlch : ((((s.updMsv fun m => { m with state := new, watch := s.watchAtChange new }).journal .stateChange .msv 0
      (byteOf s.msv.state.code :: byteOf new.code :: brought)).setChain new.chainClosed).recomputeCeiling).lch = s.lch := by
    rw [recomputeCeiling_lch, (setChain_changes ..).lch_eq, journal_lch, State.updMsv_lch]
  rw [gateEvent_lch_of_empty (by rw [hlch]; exact hgate) (by rw [hlch]; exact htimer), hlch]

theorem afterListChange_lch_of_empty (hgate : s.lch.gate = .empty) (htimer : s.lch.proofTimer = none) (code : CauseCode)
    (index : Nat) : (s.afterListChange code index).lch = s.lch := by
  unfold State.afterListChange
  split
  · exact changeState_lch_of_empty hgate htimer ..
  split
  · exact changeState_lch_of_empty hgate htimer ..
  · exact recomputeCeiling_lch s

/-- The end of a cause leaves an EMPTY gate as it is. -/
theorem endCause_lch_of_empty (hgate : s.lch.gate = .empty) (htimer : s.lch.proofTimer = none) (code : CauseCode)
    (index : Nat) : (s.endCause code index).lch = s.lch := by
  have hlist : ∀ t : State, t.lch = s.lch → (t.listEnd code index).lch = s.lch := fun t h => by
    have hpublish : ∀ f k c n, ((t.updMsv f).publishCause k c n).lch = s.lch := fun f k c n =>
      (publishCause_changes ..).lch_eq.trans h
    have hafter : ∀ f k c n code index, (((t.updMsv f).publishCause k c n).afterListChange code index).lch = s.lch :=
      fun f k c n code index => by
        rw [afterListChange_lch_of_empty (by rw [hpublish]; exact hgate) (by rw [hpublish]; exact htimer), hpublish]
    unfold State.listEnd
    split
    · exact h
    split
    · exact hafter ..
    split
    · exact hafter ..
    · exact h
  unfold State.endCause
  split
  · exact hlist _ (recomputeCeiling_lch _)
  · exact hlist _ rfl

/-- The gate EMPTY, its marks cleared and its timer stopped (R71). -/
theorem gateEmpty_lch : s.gateEmpty.lch = { s.lch with
    gate := .empty, gateEntry := none, proofTimer := none, barredNotice := false, proofExpired := false
    estimate := 65535 } := by
  unfold State.gateEmpty State.when
  split
  · exact endCause_lch_of_empty (s := s.updLch fun l =>
      { l with gate := .empty, gateEntry := none, proofTimer := none, barredNotice := false, proofExpired := false
               estimate := 65535 }) rfl rfl ..
  · rfl

theorem gateEmpty_trk : s.gateEmpty.trk = s.trk := (gateEmpty_changes s).trk_eq

theorem gateEmpty_stops : s.Stops s.gateEmpty := by
  unfold State.gateEmpty
  exact .ite (State.Stops.endCause (.of_msv rfl)) (.of_msv rfl)

theorem gateEmpty_sameCause {code : CauseCode} {index : Nat} (hne : ¬ (code = .doorNotProven ∧ index = 0)) :
    s.SameCause s.gateEmpty code index := by
  unfold State.gateEmpty
  exact .ite (State.SameCause.endCause (.of_msv rfl) hne) (.of_msv rfl)

/-! Moves and removals, as the gate and the causes see them. -/

variable {t : State}

theorem State.Stops.endOverdue (h : s.Stops t) {e : TrackEntry} : s.Stops (t.endOverdue e) :=
  .ite (.ite h.endCause (.ite h h.endCause)) h

theorem State.Stops.z3Changed (h : s.Stops t) : s.Stops t.z3Changed := by
  unfold State.z3Changed
  dsimp only
  split_ifs
  · exact h
  · exact State.Stops.raiseCause (h.frame ((updLch_changes t _).then (updLch_changes _ _)))
  · exact State.Stops.endCause (h.frame ((updLch_changes t _).then (updLch_changes _ _)))
  · exact h.frame (updLch_changes t _)

theorem State.Stops.moveEntry (h : s.Stops t) {e : TrackEntry} {n : Nat} : s.Stops (t.moveEntry e n) :=
  ((h.frame (updEntry_changes ..)).endOverdue).z3Changed

section
variable {code : CauseCode} {index : Nat}

theorem State.SameCause.endOverdue (h : s.SameCause t code index) (hne : code ≠ .overdue) {e : TrackEntry} :
    s.SameCause (t.endOverdue e) code index :=
  have hend : ∀ n, s.SameCause (t.endCause .overdue n) code index := fun _ => h.endCause fun heq => hne heq.1
  .ite (.ite (hend _) (.ite h (hend _))) h

theorem State.SameCause.z3Changed (h : s.SameCause t code index) (hne : code ≠ .launchQueueFull) :
    s.SameCause t.z3Changed code index := by
  unfold State.z3Changed
  dsimp only
  split_ifs
  · exact h
  · exact (h.frame ((updLch_changes t _).then (updLch_changes _ _))).raiseCause fun heq => hne heq.1
  · exact (h.frame ((updLch_changes t _).then (updLch_changes _ _))).endCause fun heq => hne heq.1
  · exact h.frame (updLch_changes t _)

theorem State.SameCause.moveEntry (h : s.SameCause t code index) (hover : code ≠ .overdue)
    (hqueue : code ≠ .launchQueueFull) {e : TrackEntry} {n : Nat} : s.SameCause (t.moveEntry e n) code index :=
  ((h.frame (updEntry_changes ..)).endOverdue hover).z3Changed hqueue

end

theorem moveEntry_lch (e : TrackEntry) (n : Nat) :
    ∃ k b, Lch.SameGate { s.lch with z3Count := k, queueFull := b } (s.moveEntry e n).lch := by
  have hmoved : s.SameGate (s.updEntry e.uid fun x =>
    { x with zone := n, travel := 0, overdue := false, atGate := false }) := .refl s.lch
  have hover := hmoved.endOverdue (e := e)
  obtain ⟨k, b, h⟩ := z3Changed_sameGate ((s.updEntry e.uid fun x =>
    { x with zone := n, travel := 0, overdue := false, atGate := false }).endOverdue e)
  refine ⟨k, b, Lch.SameGate.trans ?_ h⟩
  unfold State.SameGate Lch.SameGate at *
  rw [hover]

theorem removeEntry_lch (e : TrackEntry) : ∃ k b test, Lch.SameGate
    { s.lch with z3Count := k, queueFull := b, testEntry := test } (s.removeEntry e).lch := by
  let v := (s.updTrk fun t => { t with entries := t.entries.filter (·.uid ≠ e.uid) }).dropEngagements e.uid
  have hv : s.SameGate v := State.SameGate.dropEngagements (t := s.updTrk _) (.refl s.lch)
  have htest : Lch.SameGate { s.lch with testEntry := (v.dropTestEntry e.uid).lch.testEntry }
      (v.dropTestEntry e.uid).lch := by
    unfold State.dropTestEntry State.SameGate Lch.SameGate at *
    split
    · rw [State.updLch_lch, hv]
    · rw [hv]
  have hover : (v.dropTestEntry e.uid).SameGate ((v.dropTestEntry e.uid).endOverdue e) :=
    State.SameGate.endOverdue (.refl _)
  obtain ⟨k, b, h⟩ := z3Changed_sameGate ((v.dropTestEntry e.uid).endOverdue e)
  refine ⟨k, b, (v.dropTestEntry e.uid).lch.testEntry, Lch.SameGate.trans ?_ h⟩
  have hboth := htest.trans hover
  unfold Lch.SameGate at *
  rw [hboth]

/-- The places of the track after a move of one entry (R5, R14, R74). -/
theorem moveEntry_places (e : TrackEntry) (n : Nat) : (s.moveEntry e n).trk.entries.map (·.place) =
    s.trk.entries.map fun x => if x.uid = e.uid then (x.uid, x.cabin, n, 0, false, x.waiver) else x.place := by
  rw [moveEntry_trk]
  simp only [State.updEntry, State.updTrk_trk, List.map_map]
  refine List.map_congr_left fun x _ => ?_
  simp only [Function.comp_apply]
  split <;> rfl

end

/-- The part as B4 has fallen, before the gate's part of it. -/
def State.b4Fell (s : State) : State := s.updPins fun p => { p with b4 := false }

/-- A launch, before the gate becomes EMPTY (R74). -/
def State.launchPassed (s : State) : State :=
  if s.trk.state = .tracking then s.gateEntry?.elim s fun e => s.moveEntry e 4 else s

/-- A divert, before the gate becomes EMPTY (R80). -/
def State.divertPassed (s : State) : State :=
  s.gateEntry?.elim s fun e =>
    ((s.updLch fun l => { l with divert := some ⟨e.cabin, e.door, e.gateServed, e.missedByCloser⟩ }).updHeld fun h =>
      { h with divert := true }).removeEntry e

/-- An uncommanded launch, before the gate becomes EMPTY (R77). -/
def State.uncommandedPassed (s : State) : State :=
  let t := s.raiseOnce .uncommandedLaunch .fast 0
  if t.trk.state = .tracking then (t.frontOf 3).elim t fun e => t.moveEntry e 4 else t

section
variable {s : State}

theorem completeLaunch_eq (s : State) : s.completeLaunch = s.launchPassed.gateEmpty := by
  unfold State.completeLaunch State.launchPassed
  cases s.trk.state <;> cases s.gateEntry? <;> rfl

theorem completeDivert_eq (s : State) : s.completeDivert = s.divertPassed.gateEmpty := by
  unfold State.completeDivert State.divertPassed
  cases s.gateEntry? <;> rfl

theorem uncommandedLaunch_eq (s : State) : s.uncommandedLaunch = s.uncommandedPassed.gateEmpty := by
  unfold State.uncommandedLaunch State.uncommandedPassed
  dsimp only
  cases (s.raiseOnce .uncommandedLaunch .fast 0).trk.state <;>
    cases (s.raiseOnce .uncommandedLaunch .fast 0).frontOf 3 <;> rfl

/-! B4 falling, by the gate (R71). -/

theorem b4Falling_launching (h : s.lch.gate = .launching) : s.b4Falling = s.b4Fell.launchPassed.gateEmpty := by
  rw [← completeLaunch_eq, State.b4Falling]
  simp only [State.updPins_lch, h]
  rfl

theorem b4Falling_diverting (h : s.lch.gate = .diverting) : s.b4Falling = s.b4Fell.divertPassed.gateEmpty := by
  rw [← completeDivert_eq, State.b4Falling]
  simp only [State.updPins_lch, h]
  rfl

theorem b4Falling_uncommanded (h : s.lch.gate = .empty ∨ s.lch.gate = .holding) :
    s.b4Falling = s.b4Fell.uncommandedPassed.gateEmpty := by
  rw [← uncommandedLaunch_eq, State.b4Falling]
  rcases h with h | h
  · simp only [State.updPins_lch, h]
    rfl
  · simp only [State.updPins_lch, h]
    rfl

/-! What the three passages leave before the gate becomes EMPTY. -/

theorem gateEntry?_eq (s : State) : s.gateEntry? = s.lch.gateEntry.bind s.entry := rfl

/-- A passage keeps the launch distances. -/
structure State.SameDistances (s t : State) : Prop where
  lastLaunch : t.lch.lastLaunch = s.lch.lastLaunch
  dL : t.lch.dL = s.lch.dL

theorem moveEntry_sameDistances (e : TrackEntry) (n : Nat) : s.SameDistances (s.moveEntry e n) := by
  obtain ⟨k, b, h⟩ := moveEntry_lch (s := s) e n
  exact ⟨h.lastLaunch, h.dL⟩

theorem launchPassed_sameDistances : s.SameDistances s.launchPassed := by
  unfold State.launchPassed
  split
  · cases s.gateEntry? with
    | none => exact ⟨rfl, rfl⟩
    | some e => exact moveEntry_sameDistances e 4
  · exact ⟨rfl, rfl⟩

theorem divertPassed_sameDistances : s.SameDistances s.divertPassed := by
  unfold State.divertPassed
  cases s.gateEntry? with
  | none => exact ⟨rfl, rfl⟩
  | some e =>
    obtain ⟨k, b, test, h⟩ := removeEntry_lch (s := (s.updLch fun l =>
      { l with divert := some ⟨e.cabin, e.door, e.gateServed, e.missedByCloser⟩ }).updHeld fun h =>
        { h with divert := true }) e
    exact ⟨h.lastLaunch, h.dL⟩

theorem uncommandedPassed_sameDistances : s.SameDistances s.uncommandedPassed := by
  have hraise := raiseOnce_sameGate s .uncommandedLaunch .fast 0
  unfold State.uncommandedPassed
  dsimp only
  split
  · cases (s.raiseOnce .uncommandedLaunch .fast 0).frontOf 3 with
    | none => exact ⟨hraise.lastLaunch, hraise.dL⟩
    | some e =>
      have hmove := moveEntry_sameDistances (s := s.raiseOnce .uncommandedLaunch .fast 0) e 4
      exact ⟨hmove.lastLaunch.trans hraise.lastLaunch, hmove.dL.trans hraise.dL⟩
  · exact ⟨hraise.lastLaunch, hraise.dL⟩

/-- A launch moves the gate entry to Z4, if there is one. -/
theorem launchPassed_places (htracking : s.trk.state = .tracking) {u : Nat} (hu : s.lch.gateEntry = some u) :
    s.launchPassed.trk.entries.map (·.place) = s.trk.entries.map fun x =>
      if x.uid = u then (x.uid, x.cabin, 4, 0, false, x.waiver) else x.place := by
  unfold State.launchPassed
  rw [if_pos htracking, gateEntry?_eq, hu, Option.bind_some]
  cases hentry : s.entry u with
  | none =>
    refine List.map_congr_left fun x hx => (if_neg fun hxu => ?_).symm
    simpa [hxu] using List.find?_eq_none.mp hentry x hx
  | some e =>
    rw [Option.elim_some, moveEntry_places, uid_of_entry hentry]

theorem launchPassed_lost (hlost : s.trk.state = .lost) : s.launchPassed = s :=
  if_neg (by rw [hlost]; exact TrackState.noConfusion)

theorem divertPassed_some {e : TrackEntry} {u : Nat} (hu : s.lch.gateEntry = some u) (he : s.entry u = some e) :
    s.divertPassed.trk.entries = s.trk.entries.filter (·.uid ≠ u) ∧
      s.divertPassed.lch.divert = some ⟨e.cabin, e.door, e.gateServed, e.missedByCloser⟩ := by
  unfold State.divertPassed
  rw [gateEntry?_eq, hu, Option.bind_some, he, Option.elim_some]
  refine ⟨?_, ?_⟩
  · rw [removeEntry_trk, uid_of_entry he]
    rfl
  · obtain ⟨k, b, test, h⟩ := removeEntry_lch (s := (s.updLch fun l =>
      { l with divert := some ⟨e.cabin, e.door, e.gateServed, e.missedByCloser⟩ }).updHeld fun h =>
        { h with divert := true }) e
    exact h.divert

/-- An uncommanded launch moves the front-most entry of Z3 of a TRACKING track. -/
theorem uncommandedPassed_places (htracking : s.trk.state = .tracking) {e : TrackEntry} (he : s.frontOf 3 = some e) :
    s.uncommandedPassed.trk.entries.map (·.place) = s.trk.entries.map fun x =>
      if x.uid = e.uid then (x.uid, x.cabin, 4, 0, false, x.waiver) else x.place := by
  have htrk : (s.raiseOnce .uncommandedLaunch .fast 0).trk = s.trk := (raiseOnce_changes ..).trk_eq
  have hfront : (s.raiseOnce .uncommandedLaunch .fast 0).frontOf 3 = some e := by
    rw [frontOf_congr (congrArg Trk.entries htrk), he]
  unfold State.uncommandedPassed
  dsimp only
  rw [htrk, if_pos htracking, hfront, Option.elim_some, moveEntry_places, htrk]

theorem uncommandedPassed_trk (h : s.trk.state = .lost ∨ s.frontOf 3 = none) : s.uncommandedPassed.trk = s.trk := by
  have htrk : (s.raiseOnce .uncommandedLaunch .fast 0).trk = s.trk := (raiseOnce_changes ..).trk_eq
  unfold State.uncommandedPassed
  dsimp only
  rw [htrk, frontOf_congr (congrArg Trk.entries htrk)]
  rcases h with h | h
  · rw [if_neg (by rw [h]; exact TrackState.noConfusion), htrk]
  · rw [h, Option.elim_none, ite_self, htrk]

theorem uncommandedPassed_sameCause :
    (s.raiseOnce .uncommandedLaunch .fast 0).SameCause s.uncommandedPassed .uncommandedLaunch 0 := by
  unfold State.uncommandedPassed
  refine .ite ?_ (.refl _)
  cases (s.raiseOnce .uncommandedLaunch .fast 0).frontOf 3 with
  | none => exact .refl _
  | some e => exact State.SameCause.moveEntry (.refl _) CauseCode.noConfusion CauseCode.noConfusion

theorem uncommandedPassed_stops : (s.raiseCause .uncommandedLaunch .fast 0).Stops s.uncommandedPassed := by
  have hend : (s.raiseCause .uncommandedLaunch .fast 0).Stops (s.raiseOnce .uncommandedLaunch .fast 0) :=
    endCause_stops ..
  unfold State.uncommandedPassed
  refine .ite ?_ hend
  cases (s.raiseOnce .uncommandedLaunch .fast 0).frontOf 3 with
  | none => exact hend
  | some e => exact hend.moveEntry

/-- UNCOMMANDED_LAUNCH after the passage: listed, and the line stopped fast (R77, R149). -/
theorem uncommandedPassed_listed (hok : s.CausesOk) (hroom : s.msv.causes.length < 31) :
    s.uncommandedPassed.gateEmpty.Lists .uncommandedLaunch 0 .clearedUnacked :=
  (gateEmpty_sameCause (s := s.uncommandedPassed) (by decide)).lists.mpr
    (uncommandedPassed_sameCause.lists.mpr (raiseOnce_lists hok hroom))

theorem uncommandedPassed_stopped (hok : s.CausesOk) (hmoving : s.msv.state = .run ∨ s.msv.state = .stoppingService) :
    s.uncommandedPassed.gateEmpty.msv.state = .stoppingFast ∧
      s.uncommandedPassed.gateEmpty.msv.chainOut = false := by
  have hraised := raiseCause_fast_stops (code := .uncommandedLaunch) (index := 0) hok hmoving
  have hstops := (uncommandedPassed_stops (s := s)).trans (gateEmpty_stops (s := s.uncommandedPassed))
  obtain ⟨hstate, hchain⟩ := hstops.stopped (by rw [hraised.1]; exact SupState.noConfusion)
    (by rw [hraised.1]; exact SupState.noConfusion)
  exact ⟨hstate.trans hraised.1, hchain.trans hraised.2⟩

end

/-- The values of the gate after any passage (R71). -/
theorem gateEmpty_values {s t : State} (h : s.SameDistances t) :
    t.gateEmpty.lch.gate = .empty ∧ t.gateEmpty.lch.gateEntry = none ∧ t.gateEmpty.lch.proofTimer = none ∧
      t.gateEmpty.lch.barredNotice = false ∧ t.gateEmpty.lch.proofExpired = false ∧
      t.gateEmpty.lch.lastLaunch = s.lch.lastLaunch ∧ t.gateEmpty.lch.dL = s.lch.dL := by
  rw [gateEmpty_lch]
  exact ⟨rfl, rfl, rfl, rfl, rfl, h.lastLaunch, h.dL⟩

/-- B4 falling is one of the three passages, then the gate EMPTY. -/
theorem b4Falling_values (s : State) : s.b4Falling.lch.gate = .empty ∧ s.b4Falling.lch.gateEntry = none ∧
    s.b4Falling.lch.proofTimer = none ∧ s.b4Falling.lch.barredNotice = false ∧
    s.b4Falling.lch.proofExpired = false ∧ s.b4Falling.lch.lastLaunch = s.lch.lastLaunch ∧
    s.b4Falling.lch.dL = s.lch.dL := by
  cases hgate : s.lch.gate with
  | empty =>
    rw [b4Falling_uncommanded (.inl hgate)]
    exact gateEmpty_values (s := s.b4Fell) uncommandedPassed_sameDistances
  | holding =>
    rw [b4Falling_uncommanded (.inr hgate)]
    exact gateEmpty_values (s := s.b4Fell) uncommandedPassed_sameDistances
  | launching =>
    rw [b4Falling_launching hgate]
    exact gateEmpty_values (s := s.b4Fell) launchPassed_sameDistances
  | diverting =>
    rw [b4Falling_diverting hgate]
    exact gateEmpty_values (s := s.b4Fell) divertPassed_sameDistances

theorem launchPassed_pins {s : State} : s.launchPassed.pins = s.pins := by
  unfold State.launchPassed
  split
  · cases s.gateEntry? with
    | none => rfl
    | some e => exact (moveEntry_changes ..).pins_eq
  · rfl

theorem divertPassed_pins {s : State} : s.divertPassed.pins = s.pins := by
  unfold State.divertPassed
  cases s.gateEntry? with
  | none => rfl
  | some e => exact (removeEntry_changes ..).pins_eq

theorem uncommandedPassed_pins {s : State} : s.uncommandedPassed.pins = s.pins := by
  have hraise : (s.raiseOnce .uncommandedLaunch .fast 0).pins = s.pins := (raiseOnce_changes ..).pins_eq
  unfold State.uncommandedPassed
  dsimp only
  split
  · cases (s.raiseOnce .uncommandedLaunch .fast 0).frontOf 3 with
    | none => exact hraise
    | some e => exact (moveEntry_changes ..).pins_eq.trans hraise
  · exact hraise

theorem b4Falling_pins (s : State) : s.b4Falling.pins = { s.pins with b4 := false } := by
  have hempty : ∀ t : State, t.gateEmpty.pins = t.pins := fun t => (gateEmpty_changes t).pins_eq
  cases hgate : s.lch.gate with
  | empty => rw [b4Falling_uncommanded (.inl hgate), hempty, uncommandedPassed_pins]; rfl
  | holding => rw [b4Falling_uncommanded (.inr hgate), hempty, uncommandedPassed_pins]; rfl
  | launching => rw [b4Falling_launching hgate, hempty, launchPassed_pins]; rfl
  | diverting => rw [b4Falling_diverting hgate, hempty, divertPassed_pins]; rfl

/-- Settles O27: each passage by the state of the gate, from what it leaves before the gate becomes EMPTY. -/
theorem b4FallingEmptiesGate : Obligations.B4FallingEmptiesGate := by
  intro s hnodup
  obtain ⟨hgate, hentry, htimer, hnotice, hmark, hlast, hdL⟩ := b4Falling_values s
  have hchanges : ChangesOnly s (.pins :: Part.ofTrack) (finish s s.b4Falling) :=
    (b4Falling_changes (s := s)).finish
  refine ⟨finish s s.b4Falling, rfl, ?_⟩
  rw [finish_lch, finish_trk]
  refine ⟨hgate, hentry, htimer, hnotice, hmark, hlast, hdL, ?_, ?_, ?_, ?_, ?_, hchanges⟩
  · rw [finish_pins, b4Falling_pins]
  · intro h htracking u hu
    rw [b4Falling_launching h, gateEmpty_trk]
    exact launchPassed_places (s := s.b4Fell) htracking hu
  · intro h hlost
    rw [b4Falling_launching h, gateEmpty_trk, launchPassed_lost (s := s.b4Fell) hlost]
    rfl
  · intro h u hu e he
    rw [b4Falling_diverting h, gateEmpty_trk, gateEmpty_lch]
    exact divertPassed_some (s := s.b4Fell) hu he
  · intro h
    have hfall := b4Falling_uncommanded h
    rw [hfall, gateEmpty_trk]
    refine ⟨fun htracking e he => uncommandedPassed_places (s := s.b4Fell) htracking he,
      fun hno => uncommandedPassed_trk (s := s.b4Fell) hno,
      fun hok hroom => (uncommandedPassed_listed (s := s.b4Fell) (hok.of_msv_eq rfl) hroom).finish, fun hmoving _ hok => ?_⟩
    rw [finish_msv]
    exact (uncommandedPassed_stopped (s := s.b4Fell) (hok.of_msv_eq rfl) hmoving).symm

end Sys2Proof.Machine
end

section
/-! PROOF. LATCH and the proof timer, the grip test, and the end of a divert (O28, O29, O31; R4, R75, R81, R84 to R86). -/

namespace Sys2Proof.Machine

-- One lemma at a time, as in Laws/State.lean.
set_option Elab.async false

open Sys2Proof

/-! ## O31: LATCH and the proof timer -/

/-- LATCH has become active: the entry that stands at the gate is LATCHED (R4). -/
def State.latchedAtGate (s : State) : State :=
  (s.updPins fun p => { p with latch := true }).updTrk fun t =>
    { t with entries := t.entries.map fun e => if e.atGate then { e with door := .latched } else e }

section
variable {s : State} {e : TrackEntry}

theorem latchChange_active (h : s.pins.latch = false) :
    s.latchChange true = s.latchedAtGate.endNotProven.gateEvent := by
  rw [State.latchChange, if_neg (by simp [h])]
  rfl

theorem latchChange_inactive (h : s.pins.latch = true) :
    s.latchChange false = (s.updPins fun p => { p with latch := false }).endNotProven.gateEvent := by
  rw [State.latchChange, if_neg (by simp [h])]
  rfl

theorem latchedAtGate_entry {u : Nat} (he : s.entry u = some e) (hat : e.atGate = true) :
    s.latchedAtGate.entry u = some { e with door := .latched } := by
  have huid : ∀ x : TrackEntry, (if x.atGate then { x with door := DoorState.latched } else x).uid = x.uid := fun x => by
    split <;> rfl
  have hentry : s.latchedAtGate.entry u =
      (s.entry u).map fun x => if x.atGate then { x with door := .latched } else x := by
    simp only [State.entry, State.latchedAtGate, State.updTrk_trk, List.find?_map, Function.comp_def, huid]
    rfl
  rw [hentry, he, Option.map_some, if_pos hat]

theorem proven_iff : s.proven e = true ↔ e.door = .latched ∧ s.pins.latch = true := by
  simp [State.proven]

theorem endNotProven_lch : s.lch.SameGate s.endNotProven.lch := by
  unfold State.endNotProven
  split
  · exact .refl _
  · split
    · exact endCause_sameGate ..
    · exact .refl _

theorem endNotProven_of_not_proven (h : ∀ x, s.gateEntry? = some x → s.proven x = false) : s.endNotProven = s := by
  unfold State.endNotProven
  split
  · rfl
  · next x hx => rw [if_neg (by simp [h x hx])]

theorem gateEvent_proofTimer (s : State) : s.gateEvent.lch.proofTimer =
    if s.gateDecide.proofWanted then
      (if s.gateDecide.lch.proofTimer.isSome then s.gateDecide.lch.proofTimer
       else if s.gateDecide.lch.proofExpired then none
       else some (s.gateDecide.now + s.gateDecide.sst.active.zone.proofWait))
    else none := rfl

/-- A proven gate entry needs no timer (R75). -/
theorem gateEvent_proofTimer_of_proven (hentry : s.gateEntry? = some e) (hproven : s.proven e = true) :
    s.gateEvent.lch.proofTimer = none := by
  have hframe := gateDecide_changes s
  have hentry' : s.gateDecide.gateEntry? = some e := by
    rw [gateEntry?_eq, (gateDecide_sameStay s).gateEntry, ← hentry, gateEntry?_eq]
    simp only [funext (entry_congr (congrArg Trk.entries hframe.trk_eq))]
  have hproven' : s.gateDecide.proven e = true := by
    rw [proven_iff, hframe.pins_eq]
    exact proven_iff.mp hproven
  rw [gateEvent_proofTimer, if_neg (by simp [State.proofWanted, hentry', hproven'])]

theorem gateDecide_proofTimer (s : State) : s.gateDecide.lch.proofTimer = s.lch.proofTimer := by
  unfold State.gateDecide
  split
  · split
    · rfl
    · split_ifs
      · rfl
      · rfl
      · rw [noteBarred_lch]
      · rw [launch_lch]
      · rfl
  · rfl

/-- A stopped timer is not started again while the mark is set (R75). -/
def State.TimerStopped (s : State) : Prop := s.lch.proofTimer = none ∧ s.lch.proofExpired = true

theorem State.TimerStopped.of_lch {t : State} (h : s.TimerStopped) (hlch : t.lch = s.lch) : t.TimerStopped := by
  unfold State.TimerStopped at *
  rwa [hlch]

theorem State.TimerStopped.gateEvent (h : s.TimerStopped) : s.gateEvent.TimerStopped := by
  have hmark : s.gateDecide.lch.proofExpired = true := (gateDecide_sameStay s).proofExpired.trans h.2
  refine ⟨?_, (gateEvent_sameStay s).proofExpired.trans h.2⟩
  rw [gateEvent_proofTimer, gateDecide_proofTimer, h.1, hmark]
  simp

theorem State.TimerStopped.changeState (h : s.TimerStopped) (new : SupState) (brought : List Byte) :
    (s.changeState new brought).TimerStopped := by
  unfold State.changeState
  extract_lets old
  refine State.TimerStopped.gateEvent (h.of_lch ?_)
  rw [recomputeCeiling_lch, (setChain_changes ..).lch_eq, journal_lch, State.updMsv_lch]

theorem State.TimerStopped.afterListChange (h : s.TimerStopped) (code : CauseCode) (index : Nat) :
    (s.afterListChange code index).TimerStopped := by
  unfold State.afterListChange
  split
  · exact h.changeState ..
  split
  · exact h.changeState ..
  · exact h.of_lch (recomputeCeiling_lch s)

theorem State.TimerStopped.listChange (h : s.TimerStopped) (f : Msv → Msv) (k : JKind) (c : Cause) (n : Nat)
    (code : CauseCode) (index : Nat) :
    (((s.updMsv f).publishCause k c n).afterListChange code index).TimerStopped :=
  (h.of_lch (t := (s.updMsv f).publishCause k c n) (publishCause_changes ..).lch_eq).afterListChange ..

theorem State.TimerStopped.when_tellFast (h : s.TimerStopped) (b : Bool) (code : CauseCode) (index : Nat) :
    (s.when b (·.tellFast code index)).TimerStopped := h.of_lch (when_tellFast_lch ..)

theorem State.TimerStopped.listRaise (h : s.TimerStopped) (code : CauseCode) (category : Category) (index : Nat)
    (sub : SubState) : (s.listRaise code category index sub).TimerStopped := by
  unfold State.listRaise
  split
  · exact (h.listChange ..).when_tellFast ..
  split
  · exact (h.listChange ..).when_tellFast ..
  · exact ((h.listChange ..).when_tellFast ..).when_tellFast ..

theorem State.TimerStopped.raiseCause (h : s.TimerStopped) (code : CauseCode) (category : Category) (index : Nat) :
    (s.raiseCause code category index).TimerStopped := by
  rw [raiseCause_eq]
  exact State.TimerStopped.listRaise (s := s.updMsv _) h ..

/-- The gate entry that stands unproven keeps the gate HOLDING (R72, R73). -/
theorem gateDecide_unproven (hgate : s.lch.gate = .holding) (hentry : s.gateEntry? = some e)
    (hbarred : s.entryBarred e = false) (hgarage : s.entryGarage e = false) (hproven : s.proven e = false) :
    s.gateDecide = s := by
  have hlaunch : s.launchTest e = false := by simp [State.launchTest, hproven]
  rw [gateDecide_holding s hgate hentry, hgarage, hbarred, hlaunch]
  rfl

end

/-- Settles O31: LATCH by its new level, then the expiry. -/
theorem latchProofRunsTimer : Obligations.LatchProofRunsTimer := by
  intro s e hgate hgateEntry hentry hat hbarred hgarage hok
  refine ⟨fun hlatch => ⟨finish s (s.latchChange true), rfl, ?_⟩,
    fun hlatch => ⟨finish s (s.latchChange false), rfl, ?_⟩,
    ⟨finish s (s.latchChange s.pins.latch), rfl, ?_⟩,
    fun htimer => ⟨finish s s.proofExpires, rfl, ?_⟩,
    fun htimer => ⟨finish s s.proofExpires, rfl, ?_⟩⟩
  · have hframe : ChangesOnly s (.pins :: .trk :: Part.ofCause) (s.latchChange true) := by
      rw [latchChange_active hlatch]
      exact (((updPins_changes s _).weaken.then (updTrk_changes _ _)).then (endNotProven_changes _)).then
        (gateEvent_changes _)
    have hproven : ∀ t : State, t.pins = s.latchedAtGate.pins → t.proven { e with door := .latched } = true :=
      fun t ht => proven_iff.mpr ⟨rfl, by rw [ht]; rfl⟩
    have hat' : s.latchedAtGate.gateEntry? = some { e with door := .latched } := by
      have hat'' : s.latchedAtGate.lch.gateEntry = some e.uid := hgateEntry
      rw [gateEntry?_eq, hat'', Option.bind_some, latchedAtGate_entry hentry hat]
    have hcause : ChangesOnly s.latchedAtGate supervisorParts s.latchedAtGate.endNotProven := endNotProven_changes _
    have htrk : (s.latchChange true).trk = s.latchedAtGate.trk := by
      rw [latchChange_active hlatch, (gateEvent_changes _).trk_eq, hcause.trk_eq]
    have hpins : (s.latchChange true).pins = s.latchedAtGate.pins := by
      rw [latchChange_active hlatch, (gateEvent_changes _).pins_eq, hcause.pins_eq]
    refine ⟨by rw [finish_pins, hpins]; rfl, by rw [finish_trk, htrk]; rfl, ?_, fun hmark => ?_, hframe.finish⟩
    · rw [finish_lch, latchChange_active hlatch]
      refine gateEvent_proofTimer_of_proven (e := { e with door := .latched }) ?_ (hproven _ hcause.pins_eq)
      rw [gateEntry?_eq, endNotProven_lch.gateEntry, ← hat', gateEntry?_eq]
      simp only [funext (entry_congr (congrArg Trk.entries hcause.trk_eq))]
    · have hend : s.latchedAtGate.endNotProven = s.latchedAtGate.endCause .doorNotProven 0 := by
        rw [State.endNotProven, hat']
        exact if_pos ⟨hproven _ rfl, hmark⟩
      refine State.NoneActive.finish ?_
      unfold State.NoneActive
      rw [latchChange_active hlatch, (gateEvent_changes _).msv_eq, hend]
      exact endCause_noneActive (hok.of_msv_eq rfl)
  · have hentry' : (s.updPins fun p => { p with latch := false }).gateEntry? = some e := by
      have hat' : (s.updPins fun p => { p with latch := false }).lch.gateEntry = some e.uid := hgateEntry
      rw [gateEntry?_eq, hat', Option.bind_some]
      exact hentry
    have hproven : (s.updPins fun p => { p with latch := false }).proven e = false := by simp [State.proven]
    have hdecide := gateDecide_unproven (s := s.updPins fun p => { p with latch := false }) hgate hentry' hbarred hgarage
      hproven
    have hnot : (s.updPins fun p => { p with latch := false }).endNotProven = s.updPins fun p => { p with latch := false } :=
      endNotProven_of_not_proven fun x hx => by
        rw [hentry'] at hx
        exact Option.some.inj hx ▸ hproven
    have hwanted : (s.updPins fun p => { p with latch := false }).proofWanted = true := by
      have hb : (s.updPins fun p => { p with latch := false }).entryBarred e = false := hbarred
      have hg : (s.updPins fun p => { p with latch := false }).entryGarage e = false := hgarage
      simp [State.proofWanted, hgate, hentry', hproven, hb, hg]
    have hrun : s.latchChange false = (s.updPins fun p => { p with latch := false }).proofTimerFollow := by
      rw [latchChange_inactive hlatch, hnot, State.gateEvent, hdecide]
    rw [hrun]
    refine ⟨rfl, ?_, ((updPins_changes s _).weaken.then (proofTimerFollow_changes _)).finish⟩
    rw [finish_lch, State.proofTimerFollow, hwanted]
    rfl
  · rw [State.latchChange, if_pos rfl]
    exact (ChangesOnly.refl s []).finish
  · rw [State.proofExpires, htimer]
    exact (ChangesOnly.refl s []).finish
  · have hsome : s.lch.proofTimer.isSome = true := Option.isSome_iff_ne_none.mpr htimer
    have hrun : s.proofExpires = (s.updLch fun l =>
        { l with proofTimer := none, proofExpired := true }).raiseCause .doorNotProven .service 0 := by
      rw [State.proofExpires, if_pos hsome]
    have hstopped : s.proofExpires.TimerStopped := by
      rw [hrun]
      exact State.TimerStopped.raiseCause ⟨rfl, rfl⟩ ..
    refine ⟨hstopped.1, hstopped.2, ?_, ?_, fun hroom => ?_, ?_⟩
    · rw [finish_trk, hrun, (raiseCause_changes ..).trk_eq]
      rfl
    · rw [finish_msv, hrun]
      exact raiseCause_not_run (hok.of_msv_eq rfl)
    · rw [hrun]
      exact State.Lists.finish (raiseCause_lists hroom)
    · rw [hrun]
      exact ((updLch_changes s _).weaken.then (raiseCause_changes ..)).finish

/-! ## O28: the grip test -/

section
variable {s : State} {e : TrackEntry}

/-- What an edge at B5 can be for the track unit (R7, R14). -/
theorem edgeAt_five_cases (s : State) : s.edgeAt 5 = s.countEdge 5 ∨ (∃ e, s.edgeAt 5 = s.chatter 5 e) ∨
    s.edgeAt 5 = s.raiseOnce .phantom .service 5 ∨ ∃ e, s.edgeAt 5 = s.matched 5 e := by
  have htest : (∃ e, s.testEdge 5 = s.chatter 5 e) ∨ s.testEdge 5 = s.raiseOnce .phantom .service 5 ∨
      ∃ e, s.testEdge 5 = s.matched 5 e := by
    unfold State.testEdge
    split
    · exact .inr (.inl rfl)
    · next e _ =>
      split
      · exact .inr (.inr ⟨e, rfl⟩)
      · exact .inl ⟨some e, rfl⟩
  unfold State.edgeAt
  split
  · exact .inl rfl
  split
  · exact .inr (.inl ⟨_, rfl⟩)
  · exact .inr htest

theorem edgeAt_five_changes : ChangesOnly s (.trk :: Part.ofCause) (s.edgeAt 5) := by
  rcases edgeAt_five_cases s with h | ⟨e, h⟩ | h | ⟨e, h⟩ <;> rw [h]
  · exact (updTrk_changes s _).weaken
  · exact (journal_changes s ..).weaken
  · exact (raiseOnce_changes s ..).weaken
  · exact matched_changes ..

theorem edgeAt_five_raises : s.Raises (s.edgeAt 5) 1 := by
  rcases edgeAt_five_cases s with h | ⟨e, h⟩ | h | ⟨e, h⟩ <;> rw [h]
  · exact .of_msv rfl
  · exact .of_msv (journal_changes s ..).msv_eq
  · exact State.Raises.raiseOnce (n := 0) (.refl s)
  · exact State.Raises.matched (n := 0) (.refl s)

theorem matched_lch (e : TrackEntry) (n : Nat) :
    ∃ k b, Lch.SameGate { s.lch with z3Count := k, queueFull := b } (s.matched n e).lch :=
  moveEntry_lch (s := s.updEntry e.uid fun x => { x with waiver := false }) e n

theorem edgeAt_five_lch : ∃ k b, Lch.SameGate { s.lch with z3Count := k, queueFull := b } (s.edgeAt 5).lch := by
  rcases edgeAt_five_cases s with h | ⟨e, h⟩ | h | ⟨e, h⟩ <;> rw [h]
  · exact ⟨_, _, .of_eq rfl⟩
  · exact ⟨s.lch.z3Count, s.lch.queueFull, .of_eq (journal_changes s ..).lch_eq⟩
  · exact ⟨s.lch.z3Count, s.lch.queueFull, raiseOnce_sameGate ..⟩
  · exact matched_lch e 5

/-- The cabins of the track, by the names of the entries. -/
theorem entryCabin_map {f : TrackEntry → TrackEntry} {t : State} (htrk : t.trk.entries = s.trk.entries.map f)
    (huid : ∀ x, (f x).uid = x.uid) (hcabin : ∀ x, (f x).cabin = x.cabin) (u : Nat) :
    t.entryCabin u = s.entryCabin u := by
  simp only [State.entryCabin, State.entry, htrk, List.find?_map, Function.comp_def, huid, Option.map_map, hcabin]

theorem entryCabin_congr {t : State} (h : t.trk.entries = s.trk.entries) (u : Nat) : t.entryCabin u = s.entryCabin u := by
  rw [State.entryCabin, State.entryCabin, entry_congr h]

theorem edgeAt_five_entryCabin (u : Nat) : (s.edgeAt 5).entryCabin u = s.entryCabin u := by
  rcases edgeAt_five_cases s with h | ⟨e, h⟩ | h | ⟨e, h⟩ <;> rw [h]
  · exact entryCabin_congr rfl u
  · exact entryCabin_congr (congrArg Trk.entries (journal_changes s ..).trk_eq) u
  · exact entryCabin_congr (congrArg Trk.entries (raiseOnce_changes s ..).trk_eq) u
  · exact entryCabin_map (matched_entries s 5 e) (fun x => by split <;> rfl) (fun x => by split <;> rfl) u

/-! The end of a test, by its parts. -/

/-- The cabin of the entry under test, 0 without one. -/
def State.testCabin (s : State) : Nat := (s.lch.testEntry.map s.entryCabin).getD 0

/-- The grade of the peak (R85). -/
def State.peakGrade (s : State) : Grade := gradeOf s.sst.active.rope s.lch.peak

/-- The test over, its reading shown. -/
def State.readingShown (s : State) : State := s.updLch fun l =>
  { l with sampling := false, testEntry := none, lastReading := some ⟨s.lch.peak, s.testCabin, s.peakGrade⟩ }

/-- The reading in the cabin's history (R86). -/
def State.readingRecorded (s : State) : State :=
  s.readingShown.recordGrip s.lch.testEntry s.testCabin s.lch.peak s.peakGrade

theorem endGripTest_frame (h : s.lch.sampling = true) :
    ChangesOnly (s.readingRecorded.gripCause s.peakGrade s.testCabin) [.journal, .news] s.endGripTest := by
  rw [State.endGripTest, if_pos h]
  exact journal_changes ..

theorem recordGrip_zero (test : Option Nat) (f : Nat) (g : Grade) : ChangesOnly s [.trk] (s.recordGrip test 0 f g) := by
  unfold State.recordGrip
  rw [if_pos rfl]
  cases test with
  | none => exact .refl _ _
  | some u => exact .ite (updEntry_changes ..) (.refl _ _)

theorem recordGrip_pos (test : Option Nat) {n : Nat} (hn : n ≠ 0) (f : Nat) (g : Grade) : s.recordGrip test n f g =
    if g.bars = true ∨ 3 ≤ ((s.updFleetRec n (·.push f g)).fleetRec n).weakCount then
      (s.updFleetRec n (·.push f g)).setBarred n true
    else s.updFleetRec n (·.push f g) := if_neg hn

theorem setBarred_lch (n : Nat) (b : Bool) : s.lch.SameStay (s.setBarred n b).lch := by
  have hrec : (s.updFleetRec n fun r => { r with barred := b }).lch = s.lch := (updFleetRec_changes ..).lch_eq
  unfold State.setBarred State.flagEvent
  split
  · have h := gateEvent_sameStay (s.updFleetRec n fun r => { r with barred := b })
    rwa [hrec] at h
  · rw [hrec]
    exact .refl _

theorem recordGrip_lch (test : Option Nat) (n f : Nat) (g : Grade) : s.lch.SameStay (s.recordGrip test n f g).lch := by
  by_cases hn : n = 0
  · rw [hn, (recordGrip_zero ..).lch_eq]
    exact .refl _
  · have hrec : (s.updFleetRec n (·.push f g)).lch = s.lch := (updFleetRec_changes ..).lch_eq
    rw [recordGrip_pos test hn]
    split
    · have h := setBarred_lch (s := s.updFleetRec n (·.push f g)) n true
      rwa [hrec] at h
    · rw [hrec]
      exact .refl _

theorem gripCause_lch (g : Grade) (n : Nat) : s.lch.SameGate (s.gripCause g n).lch := by
  cases g with
  | noReading => exact raiseOnce_sameGate ..
  | fail => exact raiseOnce_sameGate ..
  | high => exact raiseOnce_sameGate ..
  | weak => exact .refl _
  | good => exact .refl _

theorem endGripTest_values (h : s.lch.sampling = true) : s.endGripTest.lch.sampling = false ∧
    s.endGripTest.lch.testEntry = none ∧
    s.endGripTest.lch.lastReading = some ⟨s.lch.peak, s.testCabin, s.peakGrade⟩ := by
  have hrecord := recordGrip_lch (s := s.readingShown) s.lch.testEntry s.testCabin s.lch.peak s.peakGrade
  have hcause := gripCause_lch (s := s.readingRecorded) s.peakGrade s.testCabin
  rw [(endGripTest_frame h).lch_eq]
  exact ⟨hcause.sampling.trans hrecord.sampling, hcause.testEntry.trans hrecord.testEntry,
    hcause.lastReading.trans hrecord.lastReading⟩

theorem endGripTest_fleet (h : s.lch.sampling = true) : s.endGripTest.fleet = s.readingRecorded.fleet := by
  rw [(endGripTest_frame h).fleet_eq, (gripCause_changes ..).fleet_eq]

theorem recordGrip_fleetRec_ne {test : Option Nat} {n f k : Nat} {g : Grade} (hk : k ≠ n) :
    (s.recordGrip test n f g).fleetRec k = s.fleetRec k := by
  by_cases hn : n = 0
  · rw [hn]
    exact fleetRec_congr (recordGrip_zero ..).fleet_eq k
  · rw [recordGrip_pos test hn]
    split
    · rw [fleetRec_congr (setBarred_fleet true), fleetRec_updFleetRec_ne _ _ hk, fleetRec_updFleetRec_ne _ _ hk]
    · exact fleetRec_updFleetRec_ne _ _ hk

/-- The record of a cabin after its test: the reading in front, and BARRED for a failed or a third weak grade (R86). -/
theorem recordGrip_fleetRec {test : Option Nat} {n f : Nat} {g : Grade} (hpos : 0 < n) (hn : n ≤ s.fleet.length) :
    ((s.recordGrip test n f g).fleetRec n).history = ((f, g) :: (s.fleetRec n).history).take 4 ∧
    ((s.recordGrip test n f g).fleetRec n).barred = ((s.fleetRec n).barred ||
      decide (g.bars = true ∨ 3 ≤ (((f, g) :: (s.fleetRec n).history).take 4).countP (·.2 = .weak))) := by
  have hrec : (s.updFleetRec n (·.push f g)).fleetRec n = (s.fleetRec n).push f g :=
    fleetRec_updFleetRec_same s _ hpos hn
  rw [recordGrip_pos test (Nat.ne_of_gt hpos), hrec]
  split_ifs with hbars
  · have hset : ((s.updFleetRec n (·.push f g)).setBarred n true).fleetRec n =
        { (s.fleetRec n).push f g with barred := true } := by
      rw [fleetRec_congr (setBarred_fleet true), fleetRec_updFleetRec_same _ _ hpos (by
        rw [updFleetRec_fleet_length]; exact hn), hrec]
    rw [hset]
    refine ⟨rfl, ?_⟩
    exact ((congrArg _ (decide_eq_true hbars)).trans (Bool.or_true _)).symm
  · rw [hrec]
    refine ⟨rfl, ?_⟩
    exact ((congrArg _ (decide_eq_false hbars)).trans (Bool.or_false _)).symm

/-- A raise and end of a FAST cause leaves no moving state with a closed chain (R149). -/
theorem raiseOnce_fast_stopped {code : CauseCode} {index : Nat} (h : s.CausesOk)
    (hfast : code.categories = [.fast] := by decide) :
    (s.raiseOnce code .fast index).msv.state ≠ .run ∧ (s.raiseOnce code .fast index).msv.state ≠ .stoppingService := by
  have hstate := raiseCause_fast_state (index := index) h hfast
  have hnot : (s.raiseCause code .fast index).msv.state ≠ .run ∧
      (s.raiseCause code .fast index).msv.state ≠ .stoppingService := by
    rw [hstate]
    split
    · exact ⟨SupState.noConfusion, SupState.noConfusion⟩
    · next hmoving => exact not_or.mp hmoving
  have hend : (s.raiseOnce code .fast index).msv.state = (s.raiseCause code .fast index).msv.state :=
    (endCause_stops (s.raiseCause code .fast index) code index).state.stopped hnot.1 hnot.2
  rw [hend]
  exact hnot

theorem raiseOnce_not_run {code : CauseCode} {category : Category} {index : Nat} (h : s.CausesOk)
    (hcategory : category ∈ code.categories := by decide) (hlatched : .limit ∉ code.categories := by decide) :
    (s.raiseOnce code category index).msv.state ≠ .run :=
  (endCause_stops (s.raiseCause code category index) code index).state.not_run
    (raiseCause_not_run h hcategory hlatched)

theorem gripCause_stops (h : s.CausesOk) (n : Nat) :
    (∀ g : Grade, g = .noReading ∨ g = .fail →
      (s.gripCause g n).msv.state ≠ .run ∧ (s.gripCause g n).msv.state ≠ .stoppingService) ∧
    (s.gripCause .high n).msv.state ≠ .run := by
  refine ⟨fun g hg => ?_, raiseOnce_not_run h⟩
  rcases hg with rfl | rfl
  · exact raiseOnce_fast_stopped h
  · exact raiseOnce_fast_stopped h

theorem bars_iff (p : RopePlan) (f : Nat) : (gradeOf p f).bars = true ↔ f < 20 ∨ gradeOf p f = .fail := by
  unfold gradeOf
  split_ifs with h <;> simp [Grade.bars, h]

end

/-- Settles O28: the start of a test, its samples, and its end after the track unit's part of the edge. -/
theorem gripTestGradesPeak : Obligations.GripTestGradesPeak := by
  intro s hok
  refine ⟨fun hmoving hsampling hdivert => ⟨finish s s.b5Rising, rfl, ?_⟩,
    fun force => ⟨finish s (s.forceSample force), rfl, ?_⟩,
    fun hsampling => ⟨finish s (s.boundaryEdge .b5), rfl, ?_⟩⟩
  · have hrun : s.b5Rising = (s.updPins fun p => { p with b5 := true }).startGripTest := by
      have hnone : (s.updPins fun p => { p with b5 := true }).divertFails = s.updPins fun p => { p with b5 := true } := by
        unfold State.divertFails
        rw [State.updPins_lch, hdivert]
      rw [State.b5Rising]
      dsimp only
      rw [State.updPins_rpm, hmoving, if_neg (by simp), hnone, State.updPins_lch, hsampling, if_neg (by simp)]
    rw [hrun]
    exact ⟨rfl, rfl, ((updPins_changes s _).weaken.then (startGripTest_changes _)).finish⟩
  · unfold State.forceSample
    split_ifs with h
    · exact ⟨rfl, (updLch_changes s _).finish⟩
    · exact ⟨rfl, (ChangesOnly.refl s _).finish⟩
  · have hedge : s.boundaryEdge .b5 = ((s.atEdge .b5).edgeAt 5).endGripTest := boundaryEdge_eq .b5
    obtain ⟨k, b, hlch⟩ := edgeAt_five_lch (s := s.atEdge .b5)
    rw [atEdge_lch] at hlch
    have hframe := edgeAt_five_changes (s := s.atEdge .b5)
    have hsampling' := hlch.sampling.trans hsampling
    have htest : ((s.atEdge .b5).edgeAt 5).testCabin = (s.lch.testEntry.map s.entryCabin).getD 0 := by
      rw [State.testCabin, hlch.testEntry, funext edgeAt_five_entryCabin,
        funext (entryCabin_congr (s := s) (t := s.atEdge .b5) (by simp))]
    have hpeak : ((s.atEdge .b5).edgeAt 5).lch.peak = s.lch.peak := hlch.peak
    have hgrade : ((s.atEdge .b5).edgeAt 5).peakGrade = gradeOf s.sst.active.rope s.lch.peak := by
      rw [State.peakGrade, hpeak, hframe.sst_eq, atEdge_sst]
    have hfleet : ((s.atEdge .b5).edgeAt 5).readingShown.fleet = s.fleet := by
      rw [State.readingShown, State.updLch_fleet, hframe.fleet_eq, (atEdge_changes _).fleet_eq]
    obtain ⟨hoff, hnone, hread⟩ := endGripTest_values hsampling'
    have hrecorded := (endGripTest_fleet hsampling').symm
    rw [State.readingRecorded, htest, hgrade, hpeak] at hrecorded
    have hmsv : (s.boundaryEdge .b5).msv =
        (((s.atEdge .b5).edgeAt 5).readingRecorded.gripCause (gradeOf s.sst.active.rope s.lch.peak)
          ((s.lch.testEntry.map s.entryCabin).getD 0)).msv := by
      rw [hedge, (endGripTest_frame hsampling').msv_eq, hgrade, htest]
    have hcauses : ((s.atEdge .b5).edgeAt 5).readingRecorded.CausesOk :=
      (edgeAt_five_raises.ok (hok.of_msv_eq (atEdge_msv _))).of_msv_eq (recordGrip_changes ..).msv_eq
    obtain ⟨hfast, hhigh⟩ := gripCause_stops hcauses ((s.lch.testEntry.map s.entryCabin).getD 0)
    rw [finish_lch, finish_msv, hmsv, hedge]
    refine ⟨hoff, hnone, ⟨?_, fun hpos hlen => ?_, fun k hk => ?_, hfast _, fun h => ?_⟩, (boundaryEdge_changes .b5).finish⟩
    · rw [hread, htest, hgrade, hpeak]
      rfl
    · have hboth := recordGrip_fleetRec (s := ((s.atEdge .b5).edgeAt 5).readingShown)
        (test := ((s.atEdge .b5).edgeAt 5).lch.testEntry) (f := s.lch.peak)
        (g := gradeOf s.sst.active.rope s.lch.peak) hpos (by rw [hfleet]; exact hlen)
      rw [fleetRec_congr hfleet] at hboth
      rw [fleetRec_congr (s := ((s.atEdge .b5).edgeAt 5).endGripTest) (finish_fleet ..), fleetRec_congr hrecorded.symm]
      refine ⟨hboth.1, hboth.2.trans ?_⟩
      simp only [bars_iff, or_assoc]
      rfl
    · rw [fleetRec_congr (s := ((s.atEdge .b5).edgeAt 5).endGripTest) (finish_fleet ..), fleetRec_congr hrecorded.symm,
        recordGrip_fleetRec_ne hk, fleetRec_congr hfleet]
    · have hg : gradeOf s.sst.active.rope s.lch.peak = .high := h
      rw [hg]
      exact hhigh

end Sys2Proof.Machine
end

section
/-! PROOF. The garage: the end of a divert (O29; R81), and what placements in a running part leave (R3, R6). -/

namespace Sys2Proof.Machine

-- One lemma at a time, as in Laws/State.lean.
set_option Elab.async false

open Sys2Proof

/-! ## Placements (R3) -/

/-- The place of an entry in the list: behind every entry of its zone or one further on (R3). -/
theorem insertEntry_eq (e : TrackEntry) (l : List TrackEntry) :
    insertEntry e l = l.takeWhile (e.zone ≤ ·.zone) ++ [e] ++ l.dropWhile (e.zone ≤ ·.zone) := by
  induction l with
  | nil => rfl
  | cons x rest ih =>
    unfold insertEntry
    split
    · next h => rw [ih, List.takeWhile_cons_of_pos (by simpa using h), List.dropWhile_cons_of_pos (by simpa using h)]; rfl
    · next h => rw [List.takeWhile_cons_of_neg (by simpa using h), List.dropWhile_cons_of_neg (by simpa using h)]; rfl

section
variable {s : State} {e : TrackEntry}

theorem place_frame (e : TrackEntry) : ChangesOnly s (.trk :: Part.ofCause) (s.place e) :=
  (updTrk_changes s _).weaken.then (z3Changed_changes _)

theorem place_trk (e : TrackEntry) : (s.place e).trk =
    { s.trk with
      entries := s.trk.entries.takeWhile (e.zone ≤ ·.zone) ++ [e] ++ s.trk.entries.dropWhile (e.zone ≤ ·.zone)
      nextUid := s.trk.nextUid + 1 } := by
  rw [State.place, (z3Changed_changes _).trk_eq, State.updTrk_trk, insertEntry_eq]

theorem requestPlacement_room (h : s.trk.entries.length < 16) (e : TrackEntry) : s.requestPlacement e = s.place e :=
  if_neg (by simpa [State.trackFull] using h)

theorem State.Stops.place {t : State} (h : s.Stops t) : s.Stops (t.place e) :=
  State.Stops.z3Changed (h.frame (updTrk_changes ..))

theorem place_sameTest (e : TrackEntry) : ∃ k b, Lch.SameGate { s.lch with z3Count := k, queueFull := b } (s.place e).lch :=
  z3Changed_sameGate (s.updTrk fun t => { t with entries := insertEntry e t.entries, nextUid := t.nextUid + 1 })

end

/-! ## O29: the end of a divert -/

/-- The entry that a failed divert places in Z4 (R81; log 24). -/
def State.returnedEntry (s : State) (d : DivertRec) : TrackEntry :=
  { s.newEntry d.cabin 4 d.door with gateServed := d.gateServed, missedByCloser := d.missedByCloser }

section
variable {s : State} {d : DivertRec}

theorem clearDivert_lch {s : State} : (s.clearDivert).lch.divert = none ∧ s.clearDivert.lch.sampling = s.lch.sampling :=
  have h := gateEvent_sameStay (s.updLch fun l => { l with divert := none })
  ⟨h.divert, h.sampling⟩

/-- A divert fails in a TRACKING track with room (R81). -/
theorem divertFails_room (hdivert : s.lch.divert = some d) (htracking : s.trk.state = .tracking)
    (hroom : s.trk.entries.length < 16) : s.divertFails =
      ((s.raiseOnce .divertFail .service d.cabin).place
        ((s.raiseOnce .divertFail .service d.cabin).returnedEntry d)).clearDivert := by
  have htrk : (s.raiseOnce .divertFail .service d.cabin).trk = s.trk := (raiseOnce_changes ..).trk_eq
  unfold State.divertFails
  rw [hdivert]
  dsimp only
  rw [if_pos (by rw [htrk, htracking]), requestPlacement_room (by rw [htrk]; exact hroom)]
  rfl

/-- G_IN takes a diverted cabin into the garage (R81). -/
def State.garaged (s : State) (d : DivertRec) : State := (s.setFleetState d.cabin .garaged).setGarage d.cabin false

theorem gIn_some (h : s.lch.divert = some d) : s.gIn = ((s.garaged d).journal .stateChange .lch d.cabin
    [byteOf FleetState.inTerminal.code, byteOf FleetState.garaged.code]).clearDivert := by
  unfold State.gIn
  rw [h]
  rfl

theorem gIn_none (h : s.lch.divert = none) :
    s.gIn = s.journal .fleetMismatch .lch 0 [Config.garageBoundary false] := by
  unfold State.gIn
  rw [h]

theorem gIn_fleet (h : s.lch.divert = some d) : s.gIn.fleet = (s.garaged d).fleet := by
  rw [gIn_some h, (clearDivert_changes _).fleet_eq, journal_fleet]

theorem garaged_fleetRec_ne {k : Nat} (h : k ≠ d.cabin) : (s.garaged d).fleetRec k = s.fleetRec k := by
  rw [State.garaged, fleetRec_congr (setGarage_fleet false), fleetRec_updFleetRec_ne _ _ h]
  exact fleetRec_updFleetRec_ne _ _ h

theorem garaged_fleetRec (hpos : 0 < d.cabin) (hn : d.cabin ≤ s.fleet.length) : (s.garaged d).fleetRec d.cabin =
    { s.fleetRec d.cabin with state := .garaged, garagePending := false } := by
  rw [State.garaged, fleetRec_congr (setGarage_fleet false), fleetRec_updFleetRec_same _ _ hpos (by
    rw [State.setFleetState, updFleetRec_fleet_length]; exact hn), State.setFleetState,
    fleetRec_updFleetRec_same _ _ hpos hn]

theorem startGripTest_lch (s : State) : s.startGripTest.lch.divert = s.lch.divert ∧
    s.startGripTest.lch.sampling = true := ⟨rfl, rfl⟩

/-- B5 rising at standstill tells nothing (R81, R84). -/
theorem b5Rising_standing (h : s.rpm.standstill = true) : s.b5Rising = s.updPins fun p => { p with b5 := true } := by
  rw [State.b5Rising]
  exact if_pos h

theorem b5Rising_moving (h : s.rpm.standstill = false)
    (hsampling : (s.updPins fun p => { p with b5 := true }).divertFails.lch.sampling = false) :
    s.b5Rising = (s.updPins fun p => { p with b5 := true }).divertFails.startGripTest := by
  rw [State.b5Rising]
  dsimp only
  rw [State.updPins_rpm, h, if_neg (by simp), hsampling, if_neg (by simp)]

end

/-- Settles O29: G_IN, then B5 rising with the rope moving and at standstill. -/
theorem divertEndsAtGarageSwitch : Obligations.DivertEndsAtGarageSwitch := by
  intro s
  refine ⟨fun hnone => ⟨finish s s.gIn, rfl, ?_⟩,
    fun d hdivert => ⟨fun hpos hlen => ⟨finish s s.gIn, rfl, ?_⟩,
      fun hmoving hsampling htracking hroom => ⟨finish s s.b5Rising, rfl, ?_⟩⟩,
    fun hstands => ⟨finish s s.b5Rising, rfl, ?_⟩⟩
  · rw [gIn_none hnone]
    exact (journal_changes s ..).finish
  · have hfleet : (finish s s.gIn).fleet = (s.garaged d).fleet := (finish_fleet ..).trans (gIn_fleet hdivert)
    rw [fleetRec_congr hfleet, garaged_fleetRec hpos hlen]
    refine ⟨?_, rfl, rfl, fun k hk => by rw [fleetRec_congr hfleet, garaged_fleetRec_ne hk],
      ChangesOnly.finish (gIn_changes s)⟩
    rw [finish_lch, gIn_some hdivert, clearDivert_lch.1]
  · let u := s.updPins fun p => { p with b5 := true }
    let v := u.raiseOnce .divertFail .service d.cabin
    have hv : ChangesOnly u Part.ofCause v := raiseOnce_changes ..
    have hfails : u.divertFails = (v.place (v.returnedEntry d)).clearDivert := divertFails_room hdivert htracking hroom
    obtain ⟨k, b, hplace⟩ := place_sameTest (s := v) (v.returnedEntry d)
    have hoff : u.divertFails.lch.sampling = false := by
      rw [hfails, clearDivert_lch.2, hplace.sampling]
      exact (raiseOnce_sameGate u ..).sampling.trans hsampling
    have hrun : s.b5Rising = ((v.place (v.returnedEntry d)).clearDivert).startGripTest := by
      rw [b5Rising_moving hmoving hoff, ← hfails]
    have htest := startGripTest_changes (v.place (v.returnedEntry d)).clearDivert
    have hclear := clearDivert_changes (v.place (v.returnedEntry d))
    have hlate : ChangesOnly (v.place (v.returnedEntry d)) gateParts s.b5Rising := by
      rw [hrun]
      exact hclear.then htest
    have hframe : ChangesOnly s (.pins :: .trk :: Part.ofCause) s.b5Rising :=
      (((updPins_changes s _).weaken.then hv).then (place_frame _)).then hlate
    refine ⟨?_, ?_, ?_, ?_, fun hok => ?_, hframe.finish⟩
    · rw [finish_lch, hrun, (startGripTest_lch _).1, (clearDivert_lch (s := v.place (v.returnedEntry d))).1]
    · rw [finish_lch, hrun, (startGripTest_lch _).2]
    · rw [finish_fleet, hframe.fleet_eq]
    · rw [finish_trk, hlate.trk_eq, place_trk, hv.trk_eq, State.returnedEntry, State.newEntry, hv.trk_eq, hv.rpm_eq]
      rfl
    · rw [finish_msv, hlate.msv_eq]
      exact (State.Stops.place (.refl v)).state.not_run (raiseOnce_not_run (hok.of_msv_eq rfl))
  · rw [b5Rising_standing hstands]
    exact ⟨rfl, (updPins_changes s _).finish⟩

end Sys2Proof.Machine
end

section
/-! PROOF. Runs that ask the line for TRIP frames alone (R101, R104): which orders they can end, and the gate's own closes among
them (R36, R37, R41). -/

namespace Sys2Proof.Machine

-- One lemma at a time, as in Laws/State.lean.
set_option Elab.async false

open Sys2Proof

/-! ## Runs of frames and requests for a TRIP -/

/-- The parts that a run can change without the line. -/
abbrev Part.offLine : List Part := [.trk, .fleet, .ddu, .msv, .lch, .cal, .news, .journal]

/-- A run that asks for `n` TRIP frames and changes neither the line nor an order otherwise. -/
inductive State.Asks (s : State) : State → Nat → Prop
  | refl : s.Asks s 0
  | off {t u : State} {n : Nat} : s.Asks t n → ChangesOnly t Part.offLine u → s.Asks u n
  | trip {t : State} {n : Nat} (code : CauseCode) : s.Asks t n → s.Asks (t.askTrip code) (n + 1)

section
variable {s t u : State} {n m : Nat}

theorem State.Asks.trans (h1 : s.Asks t n) (h2 : t.Asks u m) : s.Asks u (n + m) := by
  induction h2 with
  | refl => exact h1
  | off _ hc ih => exact ih.off hc
  | trip code _ ih => exact ih.trip code

theorem askTrip_room (h : s.lnc.queue.length < 16) (code : CauseCode) : ChangesOnly s [.lnc] (s.askTrip code) ∧
    (s.askTrip code).lnc.queue.length ≤ s.lnc.queue.length + 1 := by
  unfold State.askTrip
  dsimp only
  rw [if_pos h]
  split
  · exact ⟨.refl _ _, Nat.le_succ _⟩
  · exact ⟨enqueue_changes .., Nat.le_of_eq (length_insertFrame ..)⟩

/-- With a place for each TRIP, no order ends. -/
theorem State.Asks.quiet (h : s.Asks t n) (hroom : s.lnc.queue.length + n ≤ 16) :
    ChangesOnly s (.lnc :: Part.offLine) t ∧ t.lnc.queue.length ≤ s.lnc.queue.length + n := by
  induction h with
  | refl => exact ⟨.refl _ _, Nat.le_refl _⟩
  | off _ hc ih =>
    obtain ⟨hframe, hlen⟩ := ih hroom
    exact ⟨hframe.then hc, by rw [hc.lnc_eq]; exact hlen⟩
  | trip code _ ih =>
    obtain ⟨hframe, hlen⟩ := ih (by omega)
    obtain ⟨hask, hone⟩ := askTrip_room (code := code) (Nat.lt_of_le_of_lt hlen (by omega))
    exact ⟨hframe.then hask, by omega⟩

/-! ## Answers that stay -/

/-- A run from `s` to `t` leaves a slip's answer, and a free context. -/
structure State.KeepsAnswer (s t : State) (slip k : Nat) : Prop where
  answered : ∀ code, s.Answered slip (refusal code) → t.Answered slip (refusal code)
  context : s.context k = none → t.context k = none

variable {slip k : Nat}

theorem State.KeepsAnswer.refl : s.KeepsAnswer s slip k := ⟨fun _ h => h, id⟩

theorem State.KeepsAnswer.trans (h1 : s.KeepsAnswer t slip k) (h2 : t.KeepsAnswer u slip k) : s.KeepsAnswer u slip k :=
  ⟨fun c h => h2.answered c (h1.answered c h), h2.context ∘ h1.context⟩

theorem State.KeepsAnswer.frame {ps : List Part} (h : s.KeepsAnswer t slip k) (hc : ChangesOnly t ps u)
    (hmem : .mem ∉ ps := by decide) (hcontexts : .contexts ∉ ps := by decide) : s.KeepsAnswer u slip k :=
  h.trans ⟨fun _ ha => ha.of_mem (hc.mem_eq hmem), fun hn => by rw [context_congr (hc.contexts_eq hcontexts), hn]⟩

theorem State.Answered.not_taken {r : OrderResult} (h : s.Answered slip r) : s.slipState slip ≠ 2 := by
  rw [h.1]
  split <;> decide

/-- Results in another slip leave an answer as it is (R170). -/
theorem State.Answered.of_slipOnly {code : ResultCode} {other : Nat} (h : s.Answered slip (refusal code))
    (hne : other ≠ slip) (hc : SlipOnly other s t) : t.Answered slip (refusal code) := by
  have hread : ∀ i, i ≤ 45 → memRead t.mem (slipBase slip + i) = memRead s.mem (slipBase slip + i) := fun i hi =>
    hc _ (by unfold resultByte slipBase; omega)
  obtain ⟨hstate, hcode, hlen, -⟩ := h
  refine ⟨?_, (hread 44 (by omega)).trans hcode, (hread 45 (by omega)).trans hlen, fun i hi => absurd hi (Nat.not_lt_zero i)⟩
  rw [← hstate, State.slipState, State.slipState, hread 2 (by omega)]

theorem freeContext_context (k' : Nat) (h : s.context k = none ∨ k = k') : (s.freeContext k').context k = none := by
  simp only [State.context, State.freeContext, State.updObc_obc, List.getElem?_set] at h ⊢
  split_ifs with heq hlt
  · rfl
  · rfl
  · exact h.resolve_right fun h' => heq h'.symm

/-- A completion frees its context, and no other comes into use. -/
theorem completeOrder_context (k' : Nat) (r : OrderResult) (h : s.context k = none ∨ k = k') :
    (s.completeOrder k' r).context k = none := by
  unfold State.completeOrder
  split
  · next hnone =>
    rcases h with h | rfl
    · exact h
    · exact hnone
  · refine freeContext_context k' (h.imp_left fun h => ?_)
    rw [← h]
    exact context_congr (by
      split
      · exact (writeResult_changes s ..).contexts_eq
      · exact (journal_changes s ..).contexts_eq) k

/-- The completion of another order leaves a slip that is not TAKEN (R173). -/
theorem completeOrder_keepsAnswer (k' : Nat) (r : OrderResult) : s.KeepsAnswer (s.completeOrder k' r) slip k := by
  refine ⟨fun code h => ?_, fun h => completeOrder_context k' r (.inl h)⟩
  unfold State.completeOrder
  split
  · exact h
  · next x _ =>
    have hfree : ∀ v : State, v.Answered slip (refusal code) → (v.freeContext k').Answered slip (refusal code) :=
      fun v hv => hv.of_mem rfl
    split
    · next htaken =>
      have hne : x.slip ≠ slip := fun heq => h.not_taken (heq ▸ htaken.1)
      exact hfree _ (h.of_slipOnly hne (writeResult_slipOnly s x.slip r))
    · exact hfree _ (h.of_mem (journal_changes s ..).mem_eq)

theorem queueFull_keepsAnswer (kind : FrameKind) (dest : Nat) (context : Option Nat) :
    s.KeepsAnswer (s.queueFull kind dest context) slip k := by
  unfold State.queueFull
  split
  · cases context with
    | none => exact .refl
    | some k' => exact completeOrder_keepsAnswer ..
  · exact (State.KeepsAnswer.refl.frame (pairUndelivered_changes ..)).frame (journal_changes ..)

theorem askTrip_keepsAnswer (code : CauseCode) : s.KeepsAnswer (s.askTrip code) slip k := by
  unfold State.askTrip
  dsimp only
  split
  · exact .refl
  split
  · exact State.KeepsAnswer.refl.frame (enqueue_changes ..)
  split
  · exact ((State.KeepsAnswer.refl.frame (unqueue_changes ..)).trans (queueFull_keepsAnswer ..)).frame (enqueue_changes ..)
  · exact queueFull_keepsAnswer ..

theorem State.Asks.keepsAnswer (h : s.Asks t n) : s.KeepsAnswer t slip k := by
  induction h with
  | refl => exact .refl
  | off _ hc ih => exact ih.frame hc
  | trip code _ ih => exact ih.trans (askTrip_keepsAnswer code)

/-! ## How many TRIP frames a run can ask for -/

/-- A raise that sets the aggregate entry asks for one TRIP more, once (R145, R147). -/
def State.unsaid (s : State) : Nat := if s.msv.aggregate.isNone then 1 else 0

/-- A run that asks for at most `n` TRIP frames, but for the one of the aggregate entry. -/
def State.AsksFor (s t : State) (n : Nat) : Prop := ∃ m, s.Asks t m ∧ m + t.unsaid ≤ s.unsaid + n

theorem State.AsksFor.refl : s.AsksFor s 0 := ⟨0, .refl, by omega⟩

theorem State.AsksFor.trans (h1 : s.AsksFor t n) (h2 : t.AsksFor u m) : s.AsksFor u (n + m) := by
  obtain ⟨a, ha, hla⟩ := h1
  obtain ⟨b, hb, hlb⟩ := h2
  exact ⟨a + b, ha.trans hb, by omega⟩

theorem State.AsksFor.frame {ps : List Part} (h : s.AsksFor t n) (hc : ChangesOnly t ps u)
    (hp : ps ⊆ Part.offLine := by decide) (hmsv : .msv ∉ ps := by decide) : s.AsksFor u n := by
  obtain ⟨a, ha, hla⟩ := h
  exact ⟨a, ha.off (hc.weaken hp), by rw [State.unsaid, hc.msv_eq hmsv]; exact hla⟩

theorem State.AsksFor.ite {b : Prop} [Decidable b] (h1 : s.AsksFor t n) (h2 : s.AsksFor u n) :
    s.AsksFor (if b then t else u) n := by
  split <;> assumption

theorem State.AsksFor.asks (h : s.AsksFor t n) : ∃ m, s.Asks t m ∧ m ≤ n + 1 := by
  obtain ⟨m, hm, hle⟩ := h
  refine ⟨m, hm, ?_⟩
  have : s.unsaid ≤ 1 := by
    unfold State.unsaid
    split <;> omega
  omega

variable {code : CauseCode} {category : Category} {index : Nat}

/-- A code of no station asks for its TRIP alone (R137). -/
theorem tellFast_eq (h : tripStation code index = none) : s.tellFast code index = s.askTrip code := by
  unfold State.tellFast State.tripCall
  rw [h]

theorem askTrip_msv (code : CauseCode) : (s.askTrip code).msv = s.msv := (askTrip_changes s code).msv_eq

theorem when_tellFast_asks (h : tripStation code index = none) (b : Bool) :
    s.Asks (s.when b (·.tellFast code index)) b.toNat := by
  cases b
  · exact .refl
  · have htell : (s.when true fun t => t.tellFast code index) = s.askTrip code := tellFast_eq h
    rw [htell]
    exact State.Asks.trip code .refl

theorem when_tellFast_msv (b : Bool) (code : CauseCode) (index : Nat) : (s.when b (·.tellFast code index)).msv = s.msv :=
  (ChangesOnly.when (tellFast_changes s code index)).msv_eq

/-- A change of the list, before the line is told. -/
theorem listChange_asks (f : Msv → Msv) (k : JKind) (c : Cause) (n : Nat) (code : CauseCode) (index : Nat) :
    s.Asks (((s.updMsv f).publishCause k c n).afterListChange code index) 0 ∧
    (((s.updMsv f).publishCause k c n).afterListChange code index).unsaid =
      if (f s.msv).aggregate.isNone then 1 else 0 := by
  refine ⟨State.Asks.refl.off (((updMsv_changes s f).weaken.then (publishCause_changes ..)).then
    (afterListChange_changes ..)), ?_⟩
  rw [State.unsaid, (afterListChange_sameList ..).aggregate, (publishCause_changes ..).msv_eq]
  rfl

theorem when_tellFast_unsaid (b : Bool) (code : CauseCode) (index : Nat) :
    (s.when b (·.tellFast code index)).unsaid = s.unsaid := by
  rw [State.unsaid, when_tellFast_msv, State.unsaid]

theorem listRaise_asksFor (h : tripStation code index = none) (sub : SubState) :
    s.AsksFor (s.listRaise code category index sub) (decide (category = .fast)).toNat := by
  unfold State.listRaise
  split
  · next c _ =>
    obtain ⟨hasks, hagg⟩ := listChange_asks (s := s) (fun m => { m with
      causes := m.causes.map fun x => if x.isOf code index then { c with repeats := satInc 255 c.repeats, sub := sub } else x })
      .causeRaised { c with repeats := satInc 255 c.repeats, sub := sub } sub.code code index
    exact ⟨_, hasks.trans (when_tellFast_asks h _), by
      rw [when_tellFast_unsaid, hagg, Nat.zero_add, Nat.add_comm]; exact Nat.le_refl _⟩
  split
  · obtain ⟨hasks, hagg⟩ := listChange_asks (s := s) (fun m => { m with
      causes := m.causes ++ [⟨code, category, index, s.clockTime, 0, sub⟩] })
      .causeRaised ⟨code, category, index, s.clockTime, 0, sub⟩ sub.code code index
    exact ⟨_, hasks.trans (when_tellFast_asks h _), by
      rw [when_tellFast_unsaid, hagg, Nat.zero_add, Nat.add_comm]; exact Nat.le_refl _⟩
  · unfold State.raiseOverflow State.publishAggregate
    extract_lets a
    obtain ⟨hasks, hagg⟩ := listChange_asks (s := s) (fun m => { m with aggregate := some a })
      .causeRaised ⟨.causeOverflow, .fast, 0, a.raised, a.repeats, .clearedUnacked⟩ SubState.clearedUnacked.code
      .causeOverflow 0
    refine ⟨_, (hasks.trans (when_tellFast_asks h _)).trans (when_tellFast_asks rfl _), ?_⟩
    rw [when_tellFast_unsaid, when_tellFast_unsaid, hagg, State.unsaid]
    cases s.msv.aggregate <;> simp

theorem raiseCause_asksFor (h : tripStation code index = none) :
    s.AsksFor (s.raiseCause code category index) (decide (category = .fast)).toNat := by
  have hlist := listRaise_asksFor (s := s.updMsv (·.withLimit code category index)) (category := category) h .activeUnacked
  rw [raiseCause_eq]
  obtain ⟨m, hm, hle⟩ := hlist
  refine ⟨0 + m, (State.Asks.refl.off (updMsv_changes s _).weaken).trans hm, ?_⟩
  have hsame : (s.updMsv (·.withLimit code category index)).unsaid = s.unsaid := by
    rw [State.unsaid, State.updMsv_msv, withLimit_aggregate, State.unsaid]
  omega

theorem endCause_asksFor : s.AsksFor (s.endCause code index) 0 := by
  refine ⟨0, State.Asks.refl.off (endCause_changes s ..).weaken, ?_⟩
  obtain ⟨limits, -, hlist⟩ := endCause_sameList s code index
  have hagg : (s.endCause code index).msv.aggregate = s.msv.aggregate := hlist.aggregate
  rw [State.unsaid, hagg, State.unsaid]
  omega

theorem raiseOnce_asksFor (h : tripStation code index = none) :
    s.AsksFor (s.raiseOnce code category index) (decide (category = .fast)).toNat :=
  (raiseCause_asksFor h).trans endCause_asksFor

theorem z3Changed_asksFor : s.AsksFor s.z3Changed 0 := by
  unfold State.z3Changed
  dsimp only
  split_ifs
  · exact .refl
  · exact (State.AsksFor.refl.frame ((updLch_changes s _).then (updLch_changes _ _))).trans (raiseCause_asksFor rfl)
  · exact (State.AsksFor.refl.frame ((updLch_changes s _).then (updLch_changes _ _))).trans endCause_asksFor
  · exact State.AsksFor.refl.frame (updLch_changes s _)

theorem place_asksFor (e : TrackEntry) : s.AsksFor (s.place e) 0 :=
  (State.AsksFor.refl.frame (updTrk_changes s _)).trans z3Changed_asksFor

/-! ## The gate's own closes (R36, R37, R41) -/

/-- The parts that a stroke of the gate changes without a cause. -/
abbrev gateStroke : List Part := [.ddu, .journal, .news]

/-- A close of the boarding gate for itself: it changes the gate's channel, and at most raises GATE_JAM. -/
def State.Closes (s t : State) : Prop :=
  ChangesOnly s gateStroke t ∨
    ∃ u : State, ChangesOnly s gateStroke u ∧ ChangesOnly (u.raiseCause .gateJam .service 2) gateStroke t

theorem State.Closes.before {ps : List Part} (hc : ChangesOnly s ps t) (h : t.Closes u)
    (hp : ps ⊆ gateStroke := by decide) : s.Closes u := by
  rcases h with h | ⟨v, hv, hu⟩
  · exact .inl ((hc.weaken hp).then h)
  · exact .inr ⟨v, (hc.weaken hp).then hv, hu⟩

/-- A mode that a stroke of the gate held back takes effect. -/
theorem applyPending_gate : ChangesOnly s gateStroke (s.applyPending .d2) := by
  unfold State.applyPending
  split
  · exact .refl _ _
  · unfold State.setMode State.driveOffFollow
    dsimp only
    refine ChangesOnly.then (updChan_changes s ..).weaken (.ite (.refl _ _) ?_) (List.Subset.refl _)
    exact (((updChan_changes _ ..).weaken.then (offReleases_changes ..)).then (journal_changes ..))

theorem completeStroke_engagement (c : Channel) (x : Chan) (r : ResultCode) (h : x.origin = .engagement) :
    s.completeStroke c x r = s := by
  unfold State.completeStroke
  rw [h]

theorem proveStroke_gate (hstate : (s.ddu.get .d2).state = .strokingClose)
    (horigin : (s.ddu.get .d2).origin = .engagement) : ChangesOnly s gateStroke (s.proveStroke .d2) := by
  have hproof : ∀ t : State, t.provenWrites .d2 (s.ddu.get .d2) = t := fun t => by
    unfold State.provenWrites
    simp [hstate]
  unfold State.proveStroke
  dsimp only
  rw [hproof, completeStroke_engagement _ _ _ horigin]
  exact ((updChan_changes s ..).weaken.then (updChan_changes ..)).then applyPending_gate

theorem failStroke_gate {fault : DoorFault} (horigin : (s.ddu.get .d2).origin = .engagement) :
    s.Closes (s.failStroke .d2 fault) := by
  let u := (s.updChan .d2 fun y => { y with state := failedState .d2 (s.ddu.get .d2), timer := none }).updChan .d2 fun y =>
    { y with engaged := none, closeDue := false }
  have hu : ChangesOnly s [.ddu] u := (updChan_changes s ..).then (updChan_changes ..)
  have hfail : s.failStroke .d2 fault = ((((u.raiseCause .gateJam .service 2).journal .doorFault .ddu
      (s.engagedCabin .d2) [2, byteOf fault.code, byteOf (s.ddu.get .d2).retry]).completeStroke .d2 (s.ddu.get .d2)
        .jammed)).applyPending .d2 := rfl
  rw [hfail, completeStroke_engagement _ _ _ horigin]
  exact .inr ⟨u, hu.weaken, (journal_changes ..).weaken.then applyPending_gate⟩

theorem closeTests_gate {n : Nat} (hstate : (s.ddu.get .d2).state = .strokingClose)
    (horigin : (s.ddu.get .d2).origin = .engagement) : s.Closes (State.closeTests .d2 n s) := by
  induction n generalizing s with
  | zero => exact .inl (.refl _ _)
  | succ n ih =>
    unfold State.closeTests
    extract_lets pins s1
    have h1 : ChangesOnly s [.ddu] s1 := updChan_changes ..
    split
    · exact .inl (proveStroke_gate hstate horigin)
    split
    · split
      · split
        · exact .before (h1.then (updChan_changes ..)) (ih rfl horigin)
        · exact .before h1 (failStroke_gate horigin)
      · exact .inl h1.weaken
    · exact .inl (.refl _ _)

theorem gateCloseNow_closes : s.Closes s.gateCloseNow := by
  unfold State.gateCloseNow
  split
  · unfold State.startGateClose State.testClose
    exact .before ((updChan_changes s ..).then (beginStroke_changes ..)) (closeTests_gate rfl rfl)
  · exact .inl (updChan_changes ..).weaken
  · exact .inl (.refl _ _)

theorem gateAtLost_closes : s.Closes s.gateAtLost := by
  unfold State.gateAtLost
  split
  · exact gateCloseNow_closes
  · exact .inl (.refl _ _)

theorem State.Closes.asksFor (h : s.Closes t) : s.AsksFor t 0 := by
  rcases h with h | ⟨u, hu, ht⟩
  · exact State.AsksFor.refl.frame h
  · exact ((State.AsksFor.refl.frame hu).trans (raiseCause_asksFor rfl)).frame ht

theorem State.Closes.stops (h : s.Closes t) : s.Stops t := by
  rcases h with h | ⟨u, hu, ht⟩
  · exact (State.Stops.refl s).frame h
  · exact ((State.Stops.refl s).frame hu).raiseCause.frame ht

theorem State.Closes.sameCause (h : s.Closes t) (hne : code ≠ .gateJam) : s.SameCause t code index := by
  rcases h with h | ⟨u, hu, ht⟩
  · exact (State.SameCause.refl s).frame h
  · exact (((State.SameCause.refl s).frame hu).raiseCause fun heq => hne heq.1).frame ht

theorem State.Closes.sameGate (h : s.Closes t) : s.lch.SameGate t.lch := by
  rcases h with h | ⟨u, hu, ht⟩
  · exact .of_eq h.lch_eq
  · exact ((Lch.SameGate.of_eq hu.lch_eq).trans (raiseCause_sameGate u ..)).trans (.of_eq ht.lch_eq)

theorem State.Closes.frame (h : s.Closes t) : ChangesOnly s (.ddu :: Part.ofCause) t := by
  rcases h with h | ⟨u, hu, ht⟩
  · exact h.weaken
  · exact (hu.weaken.then (raiseCause_changes ..)).then ht

/-! ## The track becomes LOST at a placement (R3, R6) -/

/-- TRACK_OVERFLOW and TRACK_LOST raised, the track LOST (R3, R6). -/
def State.trackOverflowed (s : State) : State :=
  ((s.raiseOnce .trackOverflow .fast 0).updTrk fun t =>
    { t with state := .lost, window := none, entries := t.entries.map fun e => { e with overdue := false }
             lostEdges := {} }).raiseCause .trackLost .service 0

/-- The OVERDUE conditions of the lost entries end, and the change is journalled (R6). -/
def State.trackLeft (s : State) : State :=
  (s.trackOverflowed.endAllOverdue (s.raiseOnce .trackOverflow .fast 0).trk.entries).journal .stateChange .trk 0
    [byteOf (s.raiseOnce .trackOverflow .fast 0).trk.state.code, byteOf TrackState.lost.code,
     byteOf ChangeReason.overflow.code]

theorem refusePlacement_eq : s.refusePlacement = s.trackLeft.gateAtLost := rfl

theorem State.Stops.endAllOverdue (h : s.Stops t) (es : List TrackEntry) : s.Stops (t.endAllOverdue es) := by
  unfold State.endAllOverdue
  induction es generalizing t with
  | nil => exact h
  | cons e rest ih => exact ih (.ite h.endCause h)

theorem State.SameCause.endAllOverdue (h : s.SameCause t code index) (hne : code ≠ .overdue) (es : List TrackEntry) :
    s.SameCause (t.endAllOverdue es) code index := by
  unfold State.endAllOverdue
  induction es generalizing t with
  | nil => exact h
  | cons e rest ih => exact ih (.ite (h.endCause fun heq => hne heq.1) h)

theorem endAllOverdue_asksFor (es : List TrackEntry) : s.AsksFor (s.endAllOverdue es) 0 := by
  unfold State.endAllOverdue
  induction es generalizing s with
  | nil => exact .refl
  | cons e rest ih => exact State.AsksFor.trans (n := 0) (.ite endCause_asksFor .refl) ih

theorem trackLeft_frame : ChangesOnly s (.trk :: Part.ofCause) s.trackLeft :=
  (((((raiseOnce_changes s ..).weaken.then (updTrk_changes ..)).then (raiseCause_changes ..)).then
    (endAllOverdue_changes ..)).then (journal_changes ..))

theorem refusePlacement_frame : ChangesOnly s (.trk :: .ddu :: Part.ofCause) s.refusePlacement :=
  trackLeft_frame.weaken.then gateAtLost_closes.frame

theorem refusePlacement_asksFor : s.AsksFor s.refusePlacement 1 :=
  ((((((raiseOnce_asksFor (category := .fast) rfl).frame (updTrk_changes ..)).trans
    (raiseCause_asksFor (category := .service) rfl)).trans (endAllOverdue_asksFor _)).frame (journal_changes ..)).trans
      gateAtLost_closes.asksFor)

theorem refusePlacement_trk : s.refusePlacement.trk.state = .lost ∧
    s.refusePlacement.trk.entries.map (·.uid) = s.trk.entries.map (·.uid) ∧ s.refusePlacement.trk.window = none := by
  have htrk : s.refusePlacement.trk = ((s.raiseOnce .trackOverflow .fast 0).updTrk fun t =>
      { t with state := .lost, window := none, entries := t.entries.map fun e => { e with overdue := false }
               lostEdges := {} }).trk := by
    rw [refusePlacement_eq, gateAtLost_closes.frame.trk_eq, State.trackLeft, (journal_changes ..).trk_eq,
      (endAllOverdue_changes ..).trk_eq, State.trackOverflowed, (raiseCause_changes ..).trk_eq]
  rw [htrk, State.updTrk_trk, (raiseOnce_changes s ..).trk_eq]
  refine ⟨rfl, ?_, rfl⟩
  rw [List.map_map]
  rfl

/-- What the refusal leaves of the causes of the track (R3, R6). -/
theorem refusePlacement_sameCause (hjam : code ≠ .gateJam) (hover : code ≠ .overdue) :
    s.trackOverflowed.SameCause s.refusePlacement code index :=
  (((State.SameCause.refl _).endAllOverdue hover _).frame (journal_changes ..)).trans
    (gateAtLost_closes.sameCause hjam)

theorem refusePlacement_lists (hok : s.CausesOk) (hroom : s.msv.causes.length < 30) :
    s.refusePlacement.Lists .trackOverflow 0 .clearedUnacked ∧ s.refusePlacement.Lists .trackLost 0 .activeUnacked := by
  have hlen : (s.raiseOnce .trackOverflow .fast 0).msv.causes.length ≤ s.msv.causes.length + (0 + 1) :=
    (State.Raises.raiseOnce (State.Raises.refl s)).length
  rw [(refusePlacement_sameCause CauseCode.noConfusion CauseCode.noConfusion).lists,
    (refusePlacement_sameCause CauseCode.noConfusion CauseCode.noConfusion).lists]
  refine ⟨?_, raiseCause_lists (Nat.lt_of_le_of_lt hlen (by omega))⟩
  refine (raiseCause_lists_of_ne (by decide)).mpr ?_
  exact raiseOnce_lists hok (by omega)

theorem refusePlacement_stopped (hok : s.CausesOk) :
    s.refusePlacement.msv.state ≠ .run ∧ s.refusePlacement.msv.state ≠ .stoppingService := by
  have hnot := raiseOnce_fast_stopped (code := .trackOverflow) (index := 0) hok
  have hleft : (s.raiseOnce .trackOverflow .fast 0).Stops s.trackLeft :=
    ((((State.Stops.refl _).frame (updTrk_changes ..)).raiseCause).endAllOverdue _).frame (journal_changes ..)
  have hstops : (s.raiseOnce .trackOverflow .fast 0).Stops s.refusePlacement :=
    hleft.trans gateAtLost_closes.stops
  rw [(hstops.stopped hnot.1 hnot.2).1]
  exact hnot

end

end Sys2Proof.Machine
end

section
/-! PROOF. Insertions from the garage (O30; R3, R6, R78, R82, R83). -/

namespace Sys2Proof.Machine

-- One lemma at a time, as in Laws/State.lean.
set_option Elab.async false

open Sys2Proof

/-! ## Long orders that wait in a context -/

/-- A long order waits in a context, its slip TAKEN with its ticket (R171, R172). -/
structure State.Pending (s : State) (k : Nat) (x : OrderCtx) : Prop where
  wf : Memory.wf s.mem = true
  context : s.context k = some x
  slip : x.slip < 32
  taken : s.slipState x.slip = 2
  ticket : s.slipTicket x.slip = x.ticket

section
variable {s t : State} {k : Nat} {x : OrderCtx} {r : OrderResult}

theorem State.Pending.frame {ps : List Part} (h : s.Pending k x) (hc : ChangesOnly s ps t)
    (hmem : .mem ∉ ps := by decide) (hcontexts : .contexts ∉ ps := by decide) : t.Pending k x where
  wf := by rw [hc.mem_eq hmem]; exact h.wf
  context := by rw [context_congr (hc.contexts_eq hcontexts), h.context]
  slip := h.slip
  taken := by rw [slipState_congr (hc.mem_eq hmem), h.taken]
  ticket := by rw [slipTicket_congr (hc.mem_eq hmem), h.ticket]

theorem completeOrder_inTime (h : s.Pending k x) (r : OrderResult) :
    s.completeOrder k r = (s.writeResult x.slip r).freeContext k := by
  unfold State.completeOrder
  simp only [h.context, h.taken, h.ticket, and_self, if_true]

theorem State.Pending.answered (h : s.Pending k x) (hdata : r.data.length ≤ 16 := by decide) :
    (s.completeOrder k r).Answered x.slip r :=
  completeOrder_answered h.context h.wf h.slip h.taken h.ticket hdata

theorem State.Pending.slipOnly (h : s.Pending k x) (r : OrderResult) : SlipOnly x.slip s (s.completeOrder k r) := by
  rw [completeOrder_inTime h]
  exact writeResult_slipOnly s x.slip r

end

/-! ## Placements in Z3 -/

/-- The list with a cabin from the garage at the back of Z3 (R83). -/
def State.placedInZ3 (s : State) (cabin : Nat) : List TrackEntry :=
  s.trk.entries.takeWhile (3 ≤ ·.zone) ++ [s.newEntry cabin 3 .unknown] ++ s.trk.entries.dropWhile (3 ≤ ·.zone)

section
variable {s t : State} {cabin : Nat}

theorem countP_placedInZ3 (s : State) (cabin : Nat) : (s.placedInZ3 cabin).countP (·.zone = 3) = s.countZ3 + 1 := by
  have hsplit := congrArg (List.countP fun e : TrackEntry => e.zone = 3)
    (List.takeWhile_append_dropWhile (p := fun e : TrackEntry => 3 ≤ e.zone) (l := s.trk.entries))
  rw [List.countP_append] at hsplit
  rw [State.placedInZ3, List.countP_append, List.countP_append, State.countZ3, ← hsplit,
    List.countP_singleton]
  simp only [State.newEntry, decide_true, if_true]
  omega

theorem place_placedInZ3 : (s.place (s.newEntry cabin 3 .unknown)).trk =
    { s.trk with entries := s.placedInZ3 cabin, nextUid := s.trk.nextUid + 1 } := place_trk _

theorem countZ3_of_placedInZ3 (h : t.trk = { s.trk with entries := s.placedInZ3 cabin, nextUid := s.trk.nextUid + 1 }) :
    t.countZ3 = s.countZ3 + 1 := by
  rw [State.countZ3, h, countP_placedInZ3]

/-- The track with the new entry, before the Z3 count is told (R78). -/
def State.withPlaced (s : State) (cabin : Nat) : State := s.updTrk fun t =>
  { t with entries := insertEntry (s.newEntry cabin 3 .unknown) t.entries, nextUid := t.nextUid + 1 }

theorem withPlaced_countZ3 : (s.withPlaced cabin).countZ3 = s.countZ3 + 1 :=
  countZ3_of_placedInZ3 (cabin := cabin) (by rw [State.withPlaced, State.updTrk_trk, insertEntry_eq]; rfl)

/-- Below the limit the gate notes the count alone (R78). -/
theorem place_below (hcount : s.lch.z3Count = s.countZ3) (hlimit : s.countZ3 < s.sst.active.zone.queueLimit)
    (hfull : s.lch.queueFull = false) : ChangesOnly s [.trk, .lch] (s.place (s.newEntry cabin 3 .unknown)) := by
  have hplace : s.place (s.newEntry cabin 3 .unknown) = (s.withPlaced cabin).z3Changed := rfl
  have hlch : (s.withPlaced cabin).lch = s.lch := rfl
  have hsst : (s.withPlaced cabin).sst = s.sst := rfl
  rw [hplace, State.z3Changed]
  dsimp only
  rw [withPlaced_countZ3, hlch, hsst, hfull, hcount, if_neg (Nat.succ_ne_self _),
    if_neg fun h => absurd h.1 (Nat.not_lt.mpr hlimit), if_neg (by simp)]
  exact (updTrk_changes s _).weaken.then (updLch_changes _ _)

/-- At the limit LAUNCH_QUEUE_FULL is raised (R78; log 14). -/
theorem place_atLimit (hcount : s.lch.z3Count = s.countZ3) (hlimit : s.sst.active.zone.queueLimit ≤ s.countZ3)
    (hfull : s.lch.queueFull = false) (hroom : s.msv.causes.length < 31) :
    (s.place (s.newEntry cabin 3 .unknown)).lch.queueFull = true ∧
    (s.place (s.newEntry cabin 3 .unknown)).Lists .launchQueueFull 0 .activeUnacked := by
  let u := ((s.withPlaced cabin).updLch fun l => { l with z3Count := s.countZ3 + 1 }).updLch fun l =>
    { l with queueFull := true }
  have hlch : (s.withPlaced cabin).lch = s.lch := rfl
  have hsst : (s.withPlaced cabin).sst = s.sst := rfl
  have hplace : s.place (s.newEntry cabin 3 .unknown) = u.raiseCause .launchQueueFull .service 0 := by
    have h : s.place (s.newEntry cabin 3 .unknown) = (s.withPlaced cabin).z3Changed := rfl
    rw [h, State.z3Changed]
    dsimp only
    rw [withPlaced_countZ3, hlch, hsst, hfull, hcount, if_neg (Nat.succ_ne_self _),
      if_pos ⟨Nat.lt_succ_of_le hlimit, by simp⟩]
  rw [hplace]
  exact ⟨(raiseCause_sameGate u ..).queueFull, raiseCause_lists hroom⟩

end

/-! ## G_OUT by its cases (R83) -/

section
variable {s : State} {i : Insertion} {x : OrderCtx}

theorem insertionExpires_some (h : s.lch.insertion = some i) : s.insertionExpires = s.endInsertion i (refusal .timeout) := by
  unfold State.insertionExpires
  rw [h]

/-- The cabin from the garage in Z3, journalled (R83). -/
def State.inserted (s : State) (i : Insertion) : State :=
  ((s.setFleetState i.cabin .inTerminal).place ((s.setFleetState i.cabin .inTerminal).newEntry i.cabin 3
    .unknown)).journal .stateChange .lch i.cabin [byteOf FleetState.garaged.code, byteOf FleetState.inTerminal.code]

theorem newEntry_congr {t : State} (htrk : t.trk = s.trk) (hrpm : t.rpm = s.rpm) (n z : Nat) (d : DoorState) :
    t.newEntry n z d = s.newEntry n z d := by
  simp only [State.newEntry, htrk, hrpm]

theorem gOut_placed (h : s.lch.insertion = some i) (hgaraged : (s.fleetRec i.cabin).state = .garaged)
    (htracking : s.trk.state = .tracking) (hroom : s.trk.entries.length < 16) :
    s.gOut = (s.inserted i).endInsertion i resultOk := by
  have hframe := setFleetState_changes s i.cabin .inTerminal
  unfold State.gOut State.inserted
  rw [h]
  dsimp only
  rw [if_neg (by simpa using hgaraged), if_neg (by simp [htracking]), if_neg (by simpa [State.trackFull] using hroom),
    newEntry_congr hframe.trk_eq hframe.rpm_eq]

theorem gOut_lost (h : s.lch.insertion = some i) (hgaraged : (s.fleetRec i.cabin).state = .garaged)
    (hlost : s.trk.state = .lost) :
    s.gOut = (s.setFleetState i.cabin .unplaced).endInsertion i (refusal .trackLost) := by
  unfold State.gOut
  rw [h]
  dsimp only
  rw [if_neg (by simpa using hgaraged), if_pos hlost]

theorem gOut_full (h : s.lch.insertion = some i) (hgaraged : (s.fleetRec i.cabin).state = .garaged)
    (htracking : s.trk.state = .tracking) (hfull : 16 ≤ s.trk.entries.length) :
    s.gOut = (s.refusePlacement.setFleetState i.cabin .unplaced).endInsertion i (refusal .full) := by
  unfold State.gOut
  rw [h]
  dsimp only
  rw [if_neg (by simpa using hgaraged), if_neg (by simp [htracking]), if_pos (by simpa [State.trackFull] using hfull)]

theorem gOut_wrongState (h : s.lch.insertion = some i) (hnot : (s.fleetRec i.cabin).state ≠ .garaged) :
    s.gOut = (s.endInsertion i (refusal .wrongState)).gOutUnexpected := by
  unfold State.gOut
  rw [h]
  exact if_pos hnot

theorem gOut_none (h : s.lch.insertion = none) : s.gOut = s.gOutUnexpected := by
  unfold State.gOut
  rw [h]

theorem endInsertion_lch (i : Insertion) (r : OrderResult) :
    (s.endInsertion i r).lch = { s.lch with insertion := none } := by
  rw [State.endInsertion, completeOrder_lch]
  rfl

theorem endInsertion_context (i : Insertion) (r : OrderResult) : (s.endInsertion i r).context i.context = none :=
  completeOrder_context _ r (.inr rfl)

theorem State.Pending.endInsertion (h : s.Pending i.context x) {r : OrderResult}
    (hdata : r.data.length ≤ 16 := by decide) :
    (s.endInsertion i r).Answered x.slip r ∧ SlipOnly x.slip s (s.endInsertion i r) :=
  have h' := h.frame (updLch_changes s fun l => { l with insertion := none })
  ⟨h'.answered hdata, h'.slipOnly r⟩

/-- An order that ends in time journals nothing (R173). -/
theorem State.Pending.endInsertion_frame (h : s.Pending i.context x) (r : OrderResult) :
    ChangesOnly s [.lch, .mem, .news, .contexts] (s.endInsertion i r) := by
  have hupd := updLch_changes s fun l => { l with insertion := none }
  rw [State.endInsertion, completeOrder_inTime (h.frame hupd)]
  exact (hupd.weaken.then (writeResult_changes ..)).then (freeContext_changes ..)

/-- A G_OUT that no order asked for: a placement or none, then FLEET_MISMATCH (R83). -/
theorem gOutUnexpected_tracking (h : s.trk.state = .tracking) : s.gOutUnexpected =
    (s.requestPlacement (s.newEntry 0 3 .unknown)).journal .fleetMismatch .lch 0 [Config.garageBoundary true] := by
  rw [State.gOutUnexpected, if_pos h]

theorem gOutUnexpected_lost (h : s.trk.state = .lost) : s.gOutUnexpected =
    s.journal .fleetMismatch .lch 0 [Config.garageBoundary true] := by
  rw [State.gOutUnexpected, if_neg (by simp [h])]

theorem requestPlacement_full (h : 16 ≤ s.trk.entries.length) (e : TrackEntry) :
    s.requestPlacement e = s.refusePlacement := if_pos (by simpa [State.trackFull] using h)

/-- What an unexpected G_OUT can change: no fleet record, and no order but those whose NOTE gives its place up. -/
theorem gOutUnexpected_plain : ChangesOnly s (.trk :: .ddu :: Part.ofCause) s.gOutUnexpected := by
  have hrequest : ∀ e, ChangesOnly s (.trk :: .ddu :: Part.ofCause) (s.requestPlacement e) := fun e =>
    .ite refusePlacement_frame (place_frame e).weaken
  exact ChangesOnly.then (.ite (hrequest _) (.refl _ _)) (journal_changes ..)

theorem gOutUnexpected_asksFor : s.AsksFor s.gOutUnexpected 1 := by
  have hrequest : ∀ e, s.AsksFor (s.requestPlacement e) 1 := fun e =>
    .ite refusePlacement_asksFor (State.AsksFor.trans (n := 1) ⟨0, .refl, by omega⟩ (place_asksFor e))
  have hnone : s.AsksFor s 1 := ⟨0, .refl, by omega⟩
  exact State.AsksFor.frame (.ite (hrequest _) hnone) (journal_changes ..)

theorem refusePlacement_insertion : s.refusePlacement.lch.insertion = s.lch.insertion := by
  have hover : s.lch.SameGate s.trackOverflowed.lch :=
    (raiseOnce_sameGate s .trackOverflow .fast 0).trans (raiseCause_sameGate ((s.raiseOnce .trackOverflow .fast 0).updTrk _) ..)
  have hleft : s.SameGate s.trackLeft := by
    have h : s.SameGate (s.trackOverflowed.endAllOverdue (s.raiseOnce .trackOverflow .fast 0).trk.entries) :=
      State.SameGate.endAllOverdue hover
    exact h.trans (.of_eq (journal_changes ..).lch_eq)
  exact (hleft.trans (gateAtLost_closes (s := s.trackLeft)).sameGate).insertion

theorem gOutUnexpected_insertion : s.gOutUnexpected.lch.insertion = s.lch.insertion := by
  have hrequest : ∀ e, (s.requestPlacement e).lch.insertion = s.lch.insertion := fun e => by
    unfold State.requestPlacement
    split
    · exact refusePlacement_insertion
    · obtain ⟨k, b, h⟩ := place_sameTest (s := s) e
      exact h.insertion
  rw [State.gOutUnexpected, journal_lch]
  split
  · exact hrequest _
  · rfl

theorem inserted_frame : ChangesOnly s (.trk :: .fleet :: Part.ofCause) (s.inserted i) :=
  ((setFleetState_changes s ..).weaken.then (place_frame _)).then (journal_changes ..)

theorem inserted_asksFor : s.AsksFor (s.inserted i) 0 :=
  ((State.AsksFor.refl.frame (setFleetState_changes s ..)).trans (place_asksFor _)).frame (journal_changes ..)

theorem inserted_trk : (s.inserted i).trk =
    { s.trk with entries := s.placedInZ3 i.cabin, nextUid := s.trk.nextUid + 1 } := by
  have hframe := setFleetState_changes s i.cabin .inTerminal
  have hplaced : (s.setFleetState i.cabin .inTerminal).placedInZ3 i.cabin = s.placedInZ3 i.cabin := by
    simp only [State.placedInZ3, newEntry_congr hframe.trk_eq hframe.rpm_eq, hframe.trk_eq]
  rw [State.inserted, (journal_changes ..).trk_eq, place_placedInZ3, hplaced, hframe.trk_eq]

/-- The same count, limit and causes before and after the cabin's record is written. -/
theorem inserted_below (hcount : s.lch.z3Count = s.countZ3) (hlimit : s.countZ3 < s.sst.active.zone.queueLimit)
    (hfull : s.lch.queueFull = false) : ChangesOnly s [.trk, .fleet, .lch, .journal, .news] (s.inserted i) := by
  have hframe := setFleetState_changes s i.cabin .inTerminal
  have hz3 : (s.setFleetState i.cabin .inTerminal).countZ3 = s.countZ3 := by
    simp only [State.countZ3, hframe.trk_eq]
  refine ChangesOnly.then (hframe.weaken.then (place_below ?_ ?_ ?_)) (journal_changes ..)
  · rw [hframe.lch_eq, hz3, hcount]
  · rw [hframe.sst_eq, hz3]
    exact hlimit
  · rw [hframe.lch_eq, hfull]

theorem inserted_atLimit (hcount : s.lch.z3Count = s.countZ3) (hlimit : s.sst.active.zone.queueLimit ≤ s.countZ3)
    (hfull : s.lch.queueFull = false) (hroom : s.msv.causes.length < 31) :
    (s.inserted i).lch.queueFull = true ∧ (s.inserted i).Lists .launchQueueFull 0 .activeUnacked := by
  have hframe := setFleetState_changes s i.cabin .inTerminal
  have hz3 : (s.setFleetState i.cabin .inTerminal).countZ3 = s.countZ3 := by
    simp only [State.countZ3, hframe.trk_eq]
  obtain ⟨hqueue, hlist⟩ := place_atLimit (s := s.setFleetState i.cabin .inTerminal) (cabin := i.cabin)
    (by rw [hframe.lch_eq, hz3, hcount]) (by rw [hframe.sst_eq, hz3]; exact hlimit) (by rw [hframe.lch_eq, hfull])
    (by rw [hframe.msv_eq]; exact hroom)
  unfold State.inserted State.Lists
  rw [journal_lch, (journal_changes ..).msv_eq]
  exact ⟨hqueue, hlist⟩

/-- What a refused placement has left, seen past changes elsewhere. -/
theorem refusePlacement_lost {t : State} (htrk : t.trk = s.refusePlacement.trk) (hmsv : t.msv = s.refusePlacement.msv) :
    t.trk.state = .lost ∧ t.trk.entries.map (·.uid) = s.trk.entries.map (·.uid) ∧ t.trk.window = none ∧
      (s.msv.causes.length < 30 → s.CausesOk → t.Lists .trackOverflow 0 .clearedUnacked ∧
        t.Lists .trackLost 0 .activeUnacked) ∧
      (s.CausesOk → t.msv.state ≠ .run ∧ t.msv.state ≠ .stoppingService) := by
  obtain ⟨hstate, huids, hwindow⟩ := refusePlacement_trk (s := s)
  unfold State.Lists
  rw [htrk, hmsv]
  exact ⟨hstate, huids, hwindow, fun hroom hok => refusePlacement_lists hok hroom, refusePlacement_stopped⟩

/-! ## The clauses of O30 -/

section
variable {slip n k : Nat}

/-- RELEASE_CABIN of a garaged cabin (R82). -/
theorem releaseCabin_armed (hwf : Memory.wf s.mem = true) (hslip : slip < 32) (hfree : s.freeContext? = some k)
    (hlow : 1 ≤ n) (hhigh : n ≤ 96) (hstate : s.msv.state = .run ∨ s.msv.state = .held)
    (htracking : s.trk.state = .tracking) (hgaraged : (s.fleetRec n).state = .garaged) (hnone : s.lch.insertion = none) :
    let t := finish s (s.dispatch slip (.releaseCabin n))
    t.slipState slip = 2 ∧ SlipOnly slip s t ∧
      t.context k = some ⟨s.slipTicket slip, slip, .releaseCabin n, s.clockTime⟩ ∧
      t.lch = { s.lch with insertion := some ⟨n, k, s.now + 60000⟩ } ∧ ChangesOnly s [.lch, .contexts, .mem] t := by
  intro t
  let u := s.takeContext k slip (.releaseCabin n)
  have hu : ChangesOnly s [.contexts, .mem] u := takeContext_changes ..
  have hrefusal : s.releaseRefusal n = none := by
    unfold State.releaseRefusal
    rw [if_neg (by simp [cabinOk, hlow, hhigh]), if_neg (not_not.mpr hstate), if_neg (by simp [htracking]),
      if_neg (by simp [hgaraged]), if_neg (by simp [hnone])]
  have hstandby : s.msv.state ≠ .standby := by rcases hstate with h | h <;> rw [h] <;> exact SupState.noConfusion
  have hrun : s.dispatch slip (.releaseCabin n) = u.startRelease k n := dispatch_long rfl (.inl hstandby) hfree hrefusal
  have hv : ChangesOnly u [.lch] (s.dispatch slip (.releaseCabin n)) := by
    rw [hrun]
    exact startRelease_changes ..
  refine ⟨?_, fun a ha => ?_, ?_, ?_, (hu.weaken.then hv).finish⟩
  · rw [slipState_congr (finish_mem ..), slipState_congr hv.mem_eq, takeContext_slipState hslip hwf]
  · rw [finish_mem, hv.mem_eq]
    exact takeContext_slipOnly a ha
  · rw [context_congr (finish_obc_contexts ..), context_congr hv.contexts_eq, takeContext_context hfree]
  · have hlch : (u.startRelease k n).lch = { u.lch with insertion := some ⟨n, k, u.now + 60000⟩ } := rfl
    rw [finish_lch, hrun, hlch, hu.lch_eq, hu.now_eq]

theorem finish_answered {u : State} {r : OrderResult} (h : u.Answered slip r) : (finish s u).Answered slip r :=
  h.of_mem (finish_mem ..)

theorem finish_slipOnly {u : State} (h : SlipOnly slip s u) : SlipOnly slip s (finish s u) := fun a ha => by
  rw [finish_mem]
  exact h a ha

theorem finish_context {u : State} (h : u.context k = none) : (finish s u).context k = none := by
  rw [context_congr (finish_obc_contexts ..), h]

/-- An order that ends after a run with room for its TRIP frames still finds its context and slip. -/
theorem State.Pending.asksFor {t : State} {m : Nat} (h : s.Pending k x) (hasks : s.AsksFor t m)
    (hroom : s.lnc.queue.length + (m + 1) ≤ 16) : t.Pending k x := by
  obtain ⟨j, hj, hle⟩ := hasks.asks
  exact h.frame (hj.quiet (by omega)).1

end
end

/-- Settles O30: RELEASE_CABIN, the timeout, and G_OUT by its cases. -/
theorem releaseReturnsGaragedCabin : Obligations.ReleaseReturnsGaragedCabin := by
  intro s slip n k hwf placed lost
  refine ⟨fun hslip hfree hlow hhigh hstate htracking hgaraged hnone =>
      ⟨_, rfl, releaseCabin_armed hwf hslip hfree hlow hhigh hstate htracking hgaraged hnone⟩,
    fun i hi x hx hslip htaken hticket => ?_, fun hnone => ⟨fun hlost => ?_, fun htracking hroom hcount => ?_,
      fun htracking hfull => ?_⟩⟩
  · have hpending : s.Pending i.context x := ⟨hwf, hx, hslip, htaken, hticket⟩
    refine ⟨⟨finish s s.insertionExpires, rfl, ?_⟩, fun hgaraged htracking hroom hpos hlen hcount =>
      ⟨finish s s.gOut, rfl, ?_⟩, fun hgaraged hlost => ⟨finish s s.gOut, rfl, ?_⟩,
      fun hgaraged htracking hfull => ⟨finish s s.gOut, rfl, ?_⟩, fun hnot => ⟨finish s s.gOut, rfl, ?_⟩⟩
    · rw [insertionExpires_some hi]
      obtain ⟨hanswer, honly⟩ := hpending.endInsertion (r := refusal .timeout)
      exact ⟨endInsertion_lch .., finish_context (endInsertion_context ..), finish_answered hanswer,
        finish_slipOnly honly, ChangesOnly.finish (hpending.endInsertion_frame _).weaken⟩
    · rw [gOut_placed hi hgaraged htracking hroom]
      have hframe := inserted_frame (s := s) (i := i)
      have hend := endInsertion_changes (s.inserted i) i resultOk
      have htrk : (finish s ((s.inserted i).endInsertion i resultOk)).trk =
          { s.trk with entries := s.placedInZ3 i.cabin, nextUid := s.trk.nextUid + 1 } := by
        rw [finish_trk, hend.trk_eq, inserted_trk]
      have hfleet : (finish s ((s.inserted i).endInsertion i resultOk)).fleet = (s.setFleetState i.cabin .inTerminal).fleet := by
        rw [finish_fleet, hend.fleet_eq, State.inserted, journal_fleet, (place_frame _).fleet_eq]
      refine ⟨?_, ?_, fun j hj => ?_, htrk, countZ3_of_placedInZ3 htrk, finish_context (endInsertion_context ..),
        fun hqueue => ?_, fun hlimit hnotFull => ?_, fun hlimit hnotFull hcauses => ?_,
        ChangesOnly.finish (hframe.weaken.then hend)⟩
      · rw [finish_lch, endInsertion_lch]
      · rw [fleetRec_congr hfleet, State.setFleetState, fleetRec_updFleetRec_same _ _ hpos hlen]
      · rw [fleetRec_congr hfleet, State.setFleetState, fleetRec_updFleetRec_ne _ _ hj]
      · exact finish_answered (hpending.asksFor inserted_asksFor (by omega)).endInsertion.1
      · have hbelow := inserted_below (i := i) hcount hlimit hnotFull
        obtain ⟨hanswer, honly⟩ := (hpending.frame hbelow).endInsertion (r := resultOk)
        refine ⟨finish_answered hanswer, finish_slipOnly fun a ha => ?_, ChangesOnly.finish (hbelow.weaken.then hend)⟩
        rw [honly a ha, hbelow.mem_eq]
      · obtain ⟨hqueue, hlist⟩ := inserted_atLimit (i := i) hcount hlimit hnotFull hcauses
        refine ⟨?_, State.Lists.finish ?_⟩
        · rw [finish_lch, endInsertion_lch]
          exact hqueue
        · unfold State.Lists
          rw [hend.msv_eq]
          exact hlist
    · rw [gOut_lost hi hgaraged hlost]
      have hset := setFleetState_changes s i.cabin .unplaced
      obtain ⟨hanswer, honly⟩ := (hpending.frame hset).endInsertion (r := refusal .trackLost)
      refine ⟨?_, finish_context (endInsertion_context ..), finish_answered hanswer, finish_slipOnly fun a ha => ?_,
        fun hpos hlen => ?_, ChangesOnly.finish (hset.weaken.then ((hpending.frame hset).endInsertion_frame _))⟩
      · rw [finish_lch, endInsertion_lch, hset.lch_eq]
      · rw [honly a ha, hset.mem_eq]
      · rw [fleetRec_congr ((finish_fleet ..).trans (endInsertion_changes ..).fleet_eq), State.setFleetState,
          fleetRec_updFleetRec_same _ _ hpos hlen]
    · rw [gOut_full hi hgaraged htracking hfull]
      have hrefuse := refusePlacement_frame (s := s)
      have hset := setFleetState_changes s.refusePlacement i.cabin .unplaced
      have hend := endInsertion_changes (s.refusePlacement.setFleetState i.cabin .unplaced) i (refusal .full)
      refine ⟨?_, finish_context (endInsertion_context ..), refusePlacement_lost ?_ ?_, fun hqueue => ?_,
        fun hpos hlen => ?_, ChangesOnly.finish ((hrefuse.weaken.then hset).then hend)⟩
      · rw [finish_lch, endInsertion_lch]
      · rw [finish_trk, hend.trk_eq, hset.trk_eq]
      · rw [finish_msv, hend.msv_eq, hset.msv_eq]
      · exact finish_answered ((hpending.asksFor refusePlacement_asksFor (by omega)).frame hset).endInsertion.1
      · rw [fleetRec_congr ((finish_fleet ..).trans hend.fleet_eq), State.setFleetState,
          fleetRec_updFleetRec_same _ _ hpos (by rw [hrefuse.fleet_eq]; exact hlen)]
    · rw [gOut_wrongState hi hnot]
      have hend := endInsertion_changes s i (refusal .wrongState)
      have hplain := gOutUnexpected_plain (s := s.endInsertion i (refusal .wrongState))
      obtain ⟨j, hasks, -⟩ := (gOutUnexpected_asksFor (s := s.endInsertion i (refusal .wrongState))).asks
      have hkeeps := hasks.keepsAnswer (slip := x.slip) (k := i.context)
      refine ⟨?_, finish_context (hkeeps.context (endInsertion_context ..)), ?_,
        finish_answered (hkeeps.answered _ hpending.endInsertion.1), ChangesOnly.finish (hend.weaken.then hplain)⟩
      · rw [finish_lch, gOutUnexpected_insertion, endInsertion_lch]
      · rw [finish_fleet, hplain.fleet_eq, hend.fleet_eq]
  · refine ⟨finish s s.gOut, rfl, ?_⟩
    rw [gOut_none hnone, gOutUnexpected_lost hlost]
    exact (journal_changes ..).finish
  · refine ⟨finish s s.gOut, rfl, ?_⟩
    rw [gOut_none hnone, gOutUnexpected_tracking htracking, requestPlacement_room hroom]
    have hnote := journal_changes (s.place (s.newEntry 0 3 .unknown)) .fleetMismatch .lch 0 [Config.garageBoundary true]
    have htrk : (finish s ((s.place (s.newEntry 0 3 .unknown)).journal .fleetMismatch .lch 0
        [Config.garageBoundary true])).trk = { s.trk with entries := s.placedInZ3 0, nextUid := s.trk.nextUid + 1 } := by
      rw [finish_trk, hnote.trk_eq, place_placedInZ3]
    refine ⟨htrk, countZ3_of_placedInZ3 htrk, fun hlimit hnotFull => ?_, fun hlimit hnotFull hcauses => ?_,
      ChangesOnly.finish ((place_frame _).then hnote)⟩
    · exact ChangesOnly.finish ((place_below hcount hlimit hnotFull).weaken.then hnote)
    · obtain ⟨hqueue, hlist⟩ := place_atLimit (cabin := 0) hcount hlimit hnotFull hcauses
      refine ⟨?_, State.Lists.finish ?_⟩
      · rw [finish_lch, hnote.lch_eq]
        exact hqueue
      · unfold State.Lists
        rw [hnote.msv_eq]
        exact hlist
  · refine ⟨finish s s.gOut, rfl, ?_⟩
    rw [gOut_none hnone, gOutUnexpected_tracking htracking, requestPlacement_full hfull]
    have hnote := journal_changes s.refusePlacement .fleetMismatch .lch 0 [Config.garageBoundary true]
    refine ⟨refusePlacement_lost ?_ ?_, ChangesOnly.finish (refusePlacement_frame.weaken.then hnote)⟩
    · rw [finish_trk, hnote.trk_eq]
    · rw [finish_msv, hnote.msv_eq]

end Sys2Proof.Machine
end

section
/-! PROOF. Attempts on the line, their outcomes, and breaks (O33, O34, O36; R90, R91, R95, R96, R99, R102, R103). -/

namespace Sys2Proof.Machine

-- One lemma at a time, as in Laws/State.lean.
set_option Elab.async false

open Sys2Proof

/-! ## O33: attempts and receptions -/

section
variable {s : State}

theorem transmit_cons {f : TxFrame} (hidle : s.lnc.state = .idle) (hfront : s.lnc.queue.head? = some f) :
    s.transmit = s.updLnc fun l => { l with
      state := .transmitting, attempts := l.attempts + 1, attempt := some ⟨f.fid, f.kind, f.dest, s.payloadOf f⟩
      queue := { f with renewed := false } :: s.lnc.queue.tail } := by
  rw [State.transmit, if_pos hidle]
  cases hq : s.lnc.queue with
  | nil => simp [hq] at hfront
  | cons g rest =>
    rw [hq, List.head?_cons, Option.some.injEq] at hfront
    rw [hfront, List.tail_cons]

theorem transmit_none (h : s.lnc.state ≠ .idle ∨ s.lnc.queue = []) : s.transmit = s := by
  unfold State.transmit
  split
  · next hidle => rw [h.resolve_left (not_not.mpr hidle)]
  · rfl

/-- What an edge of another sender begins (R91). -/
theorem startBit_lnc (recessive : Nat) : ChangesOnly s [.lnc] (s.startBit recessive) := by
  unfold State.startBit
  split
  · exact updLnc_changes ..
  · exact .ite (updLnc_changes ..) (updLnc_changes ..)
  · exact .refl _ _

theorem bitErrorCut_eq (h : s.lnc.state = .transmitting) : s.bitErrorCut = (s.updLnc fun l =>
    { l with bitErrors := l.bitErrors + 1, cut := l.attempt.map (·.fid), attempt := none
             cutLimit := s.sst.active.line.retryLimit }).enterLine .gap 0 0 := if_pos h

end

/-- Settles O33: each event by the state of the line. -/
theorem attemptsKeepTheQueue : Obligations.AttemptsKeepTheQueue := by
  intro s recessive
  refine ⟨fun f hfront hidle => ⟨finish s s.transmit, rfl, ?_, ?_⟩,
    fun h => ⟨finish s s.transmit, rfl, ?_⟩,
    finish s s.loseArbitration, rfl, finish s s.bitErrorCut, rfl, finish s (s.startBit recessive), rfl,
    ?_, fun h => ?_, fun h => ?_, ?_, ?_, ?_, (startBit_lnc recessive).finish⟩
  · rw [finish_lnc, transmit_cons hidle hfront]
    refine congrArg (fun p => { s.lnc with
      state := .transmitting, attempts := s.lnc.attempts + 1, attempt := some ⟨f.fid, f.kind, f.dest, p⟩
      queue := { f with renewed := false } :: s.lnc.queue.tail }) ?_
    unfold State.payloadOf
    cases f.kind
    case status => cases s.msv.chainOut <;> rfl
    case time => cases s.sst.clock.valid <;> rfl
    all_goals rfl
  · rw [transmit_cons hidle hfront]
    exact (updLnc_changes s _).finish
  · rw [transmit_none h]
    exact (ChangesOnly.refl s []).finish
  · rw [finish_lnc]
    unfold State.loseArbitration
    split <;> rfl
  · rw [finish_lnc, bitErrorCut_eq h]
    exact ⟨rfl, rfl, rfl, rfl, rfl, rfl, rfl⟩
  · rw [finish_lnc, State.bitErrorCut, if_neg h]
  · rw [finish_lnc]
    unfold State.startBit
    cases s.lnc.state
    case gap => dsimp only; split <;> rfl
    all_goals rfl
  · exact (ChangesOnly.ite (updLnc_changes s _) (.refl _ _)).finish
  · exact (ChangesOnly.ite ((updLnc_changes s _).then (enterLine_changes ..)) (.refl _ _)).finish

/-! ## O34: outcomes -/

/-- A periodic frame that stays, its mark cleared (R103). -/
def keptFrames (q : List TxFrame) (f : TxFrame) : List TxFrame :=
  q.map fun g => if g.fid = f.fid then { g with renewed := false } else g

/-- The queue after a failed attempt that counts (R102, R103). -/
def failedFrames (q : List TxFrame) (f : TxFrame) (limit : Nat) : List TxFrame :=
  if f.kind.periodic then (if f.renewed then keptFrames q f else q.filter (·.fid ≠ f.fid))
  else if f.retry < limit then q.map fun g => if g.fid = f.fid then { g with retry := g.retry + 1 } else g
  else q.filter (·.fid ≠ f.fid)

/-- An end of an attempt leaves the line controller but for the queue and its counts. -/
structure Lnc.SameState (l m : Lnc) : Prop where
  state : m.state = l.state
  attempt : m.attempt = l.attempt
  cut : m.cut = l.cut

section
variable {s : State} {f : TxFrame}

theorem periodicEnd_lnc (s : State) (f : TxFrame) : (s.periodicEnd f).lnc = { s.lnc with
    queue := if f.renewed then keptFrames s.lnc.queue f else s.lnc.queue.filter (·.fid ≠ f.fid) } := by
  unfold State.periodicEnd
  split <;> rfl

/-- A dropped frame's order is answered last (R105). -/
def State.dropped (s : State) (f : TxFrame) : State :=
  (((s.unqueue f.fid).when (addressOk f.dest) (·.updStation f.dest fun r =>
    { r with undelivered := r.undelivered + 1 })).journal .lineUndelivered .lnc 0
      [byteOf f.kind.code, byteOf f.dest, byteOf (f.retry + 1), 1]).pairUndelivered f.kind

theorem dropUndelivered_eq (s : State) (f : TxFrame) : s.dropUndelivered f =
    f.context.elim (s.dropped f) fun k => (s.dropped f).completeOrder k (refusal .undelivered) := by
  unfold State.dropUndelivered
  cases f.context <;> rfl

theorem dropped_frame (s : State) (f : TxFrame) :
    ChangesOnly (s.unqueue f.fid) [.stn, .cal, .news, .journal] (s.dropped f) :=
  ((ChangesOnly.when (updStation_changes ..)).weaken.then (journal_changes ..)).then (pairUndelivered_changes ..)

/-- A completion after an end of an attempt. -/
theorem elim_completeOrder_frame (u : State) (c : Option Nat) (r : OrderResult) :
    ChangesOnly u completionParts (c.elim u fun k => u.completeOrder k r) := by
  cases c with
  | none => exact .refl _ _
  | some k => exact completeOrder_changes ..

theorem dropUndelivered_lnc (s : State) (f : TxFrame) :
    (s.dropUndelivered f).lnc = { s.lnc with queue := s.lnc.queue.filter (·.fid ≠ f.fid) } := by
  rw [dropUndelivered_eq, (elim_completeOrder_frame ..).lnc_eq, (dropped_frame s f).lnc_eq]
  rfl

theorem attemptFailed_lnc (s : State) (f : TxFrame) (limit : Nat) :
    (s.attemptFailed f limit).lnc = { s.lnc with queue := failedFrames s.lnc.queue f limit } := by
  unfold State.attemptFailed failedFrames
  split
  · exact periodicEnd_lnc s f
  split
  · rfl
  · exact dropUndelivered_lnc s f

/-- A failed attempt that keeps the frame, or drops a periodic one, changes the line alone. -/
theorem attemptFailed_frame {limit : Nat} (h : f.kind.periodic = true ∨ f.retry < limit) :
    ChangesOnly s [.lnc] (s.attemptFailed f limit) := by
  unfold State.attemptFailed
  split
  · exact periodicEnd_changes ..
  · next hnot => rw [if_pos (h.resolve_left hnot)]; exact updLnc_changes ..

/-- The line after a delivered attempt, before the order of a NOTE is answered. -/
def State.delivered (s : State) (f : TxFrame) : State :=
  if f.kind.periodic then (s.updLnc fun l => { l with sent := l.sent + 1 }).periodicEnd f
  else (s.updLnc fun l => { l with sent := l.sent + 1 }).unqueue f.fid

theorem attemptDelivered_eq (s : State) (f : TxFrame) : s.attemptDelivered f =
    f.context.elim (s.delivered f) fun k => (s.delivered f).completeOrder k resultOk := by
  unfold State.attemptDelivered
  cases f.context <;> rfl

theorem delivered_frame (s : State) (f : TxFrame) : ChangesOnly s [.lnc] (s.delivered f) :=
  .ite ((updLnc_changes s _).then (periodicEnd_changes ..)) ((updLnc_changes s _).then (unqueue_changes ..))

theorem attemptDelivered_lnc (s : State) (f : TxFrame) : (s.attemptDelivered f).lnc = { s.lnc with
    sent := s.lnc.sent + 1
    queue := if f.kind.periodic ∧ f.renewed then keptFrames s.lnc.queue f else s.lnc.queue.filter (·.fid ≠ f.fid) } := by
  rw [attemptDelivered_eq, (elim_completeOrder_frame ..).lnc_eq, State.delivered]
  split
  · next h => rw [periodicEnd_lnc]; simp [h]
  · next h => simp [h, State.unqueue]

/-! Answers of a NOTE (R105). -/

variable {k : Nat} {x : OrderCtx}

theorem attemptDelivered_answer (h : s.Pending k x) (hf : f.context = some k) :
    (s.attemptDelivered f).Answered x.slip resultOk ∧ SlipOnly x.slip s (s.attemptDelivered f) := by
  have hpending := h.frame (delivered_frame s f)
  rw [attemptDelivered_eq, hf, Option.elim_some]
  refine ⟨hpending.answered, fun a ha => ?_⟩
  rw [hpending.slipOnly _ a ha, (delivered_frame s f).mem_eq]

theorem attemptFailed_answer (h : s.Pending k x) (hf : f.context = some k) (hkind : f.kind.periodic = false)
    {limit : Nat} (hlimit : limit ≤ f.retry) : (s.attemptFailed f limit).Answered x.slip (refusal .undelivered) ∧
      SlipOnly x.slip s (s.attemptFailed f limit) := by
  have hframe : ChangesOnly s [.lnc, .stn, .cal, .news, .journal] (s.dropped f) :=
    (unqueue_changes s f.fid).weaken.then (dropped_frame s f)
  have hpending := h.frame hframe
  have hfail : s.attemptFailed f limit = (s.dropped f).completeOrder k (refusal .undelivered) := by
    rw [State.attemptFailed, hkind, if_neg (by simp), if_neg (Nat.not_lt.mpr hlimit), dropUndelivered_eq, hf,
      Option.elim_some]
  rw [hfail]
  refine ⟨hpending.answered, fun a ha => ?_⟩
  rw [hpending.slipOnly _ a ha, hframe.mem_eq]

/-! The ends of attempts, as the events bring them. -/

/-- The line after an attempt has ended (R91). -/
def State.attemptEnded (s : State) : State := (s.updLnc fun l => { l with attempt := none }).enterLine .gap 0 0

theorem attemptEnded_frame (s : State) : ChangesOnly s [.lnc] s.attemptEnded :=
  (updLnc_changes s _).then (enterLine_changes ..)

theorem ackOutcome_some (b : Bool) (hstate : s.lnc.state = .transmitting)
    (hattempt : s.lnc.attempt.map (·.fid) = some f.fid) (hf : s.lnc.queue.find? (·.fid = f.fid) = some f) :
    s.ackOutcome b = if b then s.attemptEnded.attemptDelivered f
      else s.attemptEnded.attemptFailed f s.sst.active.line.retryLimit := by
  have hqueued : s.queued f.fid = some f := hf
  rw [State.ackOutcome, if_pos hstate]
  dsimp only
  rw [hattempt, Option.bind_some, hqueued]
  cases b <;> rfl

/-- The line after an IDLE has been reached (R91). -/
def State.idleReached (s : State) : State := (s.enterLine .idle 11 0).updLnc fun l => { l with cut := none }

theorem idleGap_some (hstate : s.lnc.state = .gap) (hcut : s.lnc.cut = some f.fid)
    (hf : s.lnc.queue.find? (·.fid = f.fid) = some f) : s.idleGap = s.idleReached.attemptFailed f s.lnc.cutLimit := by
  have hqueued : s.queued f.fid = some f := hf
  rw [State.idleGap, if_pos hstate]
  dsimp only
  rw [hcut, Option.bind_some, hqueued]
  rfl

theorem idleGap_none (hstate : s.lnc.state = .gap) (hcut : s.lnc.cut = none) : s.idleGap = s.idleReached := by
  rw [State.idleGap, if_pos hstate]
  dsimp only
  rw [hcut]
  rfl

end

/-- Settles O34: the queue after each outcome, and the answer of a NOTE that leaves it. -/
theorem attemptOutcomeDecidesFrame : Obligations.AttemptOutcomeDecidesFrame := by
  intro s f hf retried without kept failed
  refine ⟨fun hstate hattempt => ⟨finish s (s.ackOutcome true), rfl, finish s (s.ackOutcome false), rfl, ?_⟩,
    fun hstate hcut => ⟨finish s s.idleGap, rfl, ?_⟩, fun hstate hcut => ⟨finish s s.idleGap, rfl, ?_⟩⟩
  · have hdone := ackOutcome_some true hstate hattempt hf
    have hfail := ackOutcome_some false hstate hattempt hf
    rw [if_pos rfl] at hdone
    rw [if_neg Bool.false_ne_true] at hfail
    have hframe := attemptEnded_frame s
    have hstn : (s.attemptEnded.attemptDelivered f).stn = s.stn := by
      rw [attemptDelivered_eq, (elim_completeOrder_frame ..).stn_eq, (delivered_frame ..).stn_eq, hframe.stn_eq]
    have hd := attemptDelivered_lnc s.attemptEnded f
    have hu := attemptFailed_lnc s.attemptEnded f s.sst.active.line.retryLimit
    rw [finish_lnc, finish_lnc, finish_stn, finish_stn, hdone, hfail, hd, hu]
    refine ⟨rfl, rfl, rfl, rfl, hstn, rfl, rfl, rfl, rfl, fun hkeep => ?_, fun hnote hwf k hk x hx hslip htaken hticket => ?_,
      ChangesOnly.finish ?_, ChangesOnly.finish ?_⟩
    · have hline : ChangesOnly s [.lnc] (s.attemptEnded.attemptFailed f s.sst.active.line.retryLimit) :=
        hframe.then (attemptFailed_frame hkeep)
      exact ⟨hline.stn_eq, hline.finish⟩
    · have hpending : s.attemptEnded.Pending k x := State.Pending.frame ⟨hwf, hx, hslip, htaken, hticket⟩ hframe
      have hmem : s.attemptEnded.mem = s.mem := hframe.mem_eq
      obtain ⟨hanswer, honly⟩ := attemptDelivered_answer hpending hk
      have hperiodic : f.kind.periodic = false := by rw [hnote]; rfl
      refine ⟨finish_answered hanswer, finish_slipOnly fun a ha => by rw [honly a ha, hmem], fun hlimit => ?_⟩
      obtain ⟨hanswer', honly'⟩ := attemptFailed_answer hpending hk hperiodic hlimit
      exact ⟨finish_answered hanswer', finish_slipOnly fun a ha => by rw [honly' a ha, hmem]⟩
    · exact hframe.weaken.then (attemptDelivered_changes ..)
    · exact hframe.weaken.then (attemptFailed_changes ..)
  · have hrun := idleGap_some hstate hcut hf
    have hframe : ChangesOnly s [.lnc] s.idleReached := (enterLine_changes ..).then (updLnc_changes ..)
    rw [finish_lnc, hrun, attemptFailed_lnc]
    exact ⟨rfl, rfl, rfl, ChangesOnly.finish (hframe.weaken.then (attemptFailed_changes ..))⟩
  · rw [finish_lnc, idleGap_none hstate hcut]
    exact ⟨rfl, rfl, ((enterLine_changes ..).then (updLnc_changes ..)).finish⟩

/-! ## O36: breaks -/

/-- Requests for frames leave the line controller but for the queue and the next name. -/
def Lnc.SameLine (l m : Lnc) : Prop := m = { l with queue := m.queue, nextFid := m.nextFid }

theorem Lnc.SameLine.refl (l : Lnc) : l.SameLine l := rfl

theorem Lnc.SameLine.of_eq {l m : Lnc} (h : m = l) : l.SameLine m := by rw [h]; rfl

theorem Lnc.SameLine.trans {l m n : Lnc} (h1 : l.SameLine m) (h2 : m.SameLine n) : l.SameLine n := by
  unfold Lnc.SameLine at *
  rw [h2, h1]

section
variable {l m : Lnc} (h : l.SameLine m)
include h

theorem Lnc.SameLine.state : m.state = l.state := by rw [h]
theorem Lnc.SameLine.attempt : m.attempt = l.attempt := by rw [h]
theorem Lnc.SameLine.cut : m.cut = l.cut := by rw [h]
theorem Lnc.SameLine.breaks : m.breaks = l.breaks := by rw [h]
theorem Lnc.SameLine.statusTimer : m.statusTimer = l.statusTimer := by rw [h]
theorem Lnc.SameLine.timeTimer : m.timeTimer = l.timeTimer := by rw [h]
theorem Lnc.SameLine.received : m.received = l.received := by rw [h]
end

section
variable {s t : State}

theorem queueFull_sameLine (kind : FrameKind) (dest : Nat) (context : Option Nat) :
    s.lnc.SameLine (s.queueFull kind dest context).lnc := .of_eq (queueFull_lnc ..)

theorem askFrame_sameLine (kind : FrameKind) (dest : Nat) (p : List Byte) (b : Block) (c : Option Nat) :
    s.lnc.SameLine (s.askFrame kind dest p b c).lnc := by
  unfold State.askFrame
  split
  · rfl
  split
  · next f _ =>
    have h1 : s.lnc.SameLine (s.unqueue f.fid).lnc := rfl
    exact (h1.trans (queueFull_sameLine (s := s.unqueue f.fid) f.kind f.dest f.context)).trans rfl
  · exact queueFull_sameLine ..

theorem askTrip_sameLine (code : CauseCode) : s.lnc.SameLine (s.askTrip code).lnc := by
  unfold State.askTrip
  dsimp only
  split
  · rfl
  split
  · rfl
  split
  · next f _ =>
    have h1 : s.lnc.SameLine (s.unqueue f.fid).lnc := rfl
    exact (h1.trans (queueFull_sameLine (s := s.unqueue f.fid) f.kind f.dest f.context)).trans rfl
  · exact queueFull_sameLine ..

theorem State.Asks.sameLine {n : Nat} (h : s.Asks t n) : s.lnc.SameLine t.lnc := by
  induction h with
  | refl => exact .refl _
  | off _ hc ih => exact ih.trans (.of_eq hc.lnc_eq)
  | trip code _ ih => exact ih.trans (askTrip_sameLine code)

theorem announcePair_cal (s : State) : ∃ x, s.announcePair.cal = { s.cal with reannounce := x } := by
  unfold State.announcePair
  split
  · exact pairFrame_cal ..
  · exact pairFrame_cal ..

theorem announcePair_sameLine : s.lnc.SameLine s.announcePair.lnc := by
  have hpair : ∀ k d p, s.lnc.SameLine (s.pairFrame k d p).lnc := fun k d p => by
    unfold State.pairFrame
    split
    · exact .refl _
    · exact askFrame_sameLine ..
  unfold State.announcePair
  split
  · exact hpair ..
  · exact hpair ..

/-- With a place for each TRIP, every queued frame stays (R101). -/
theorem State.Asks.mem_queue {n : Nat} (h : s.Asks t n) (hroom : s.lnc.queue.length + n ≤ 16) {f : TxFrame}
    (hf : f ∈ s.lnc.queue) : f ∈ t.lnc.queue := by
  induction h with
  | refl => exact hf
  | off _ hc ih => rw [hc.lnc_eq]; exact ih hroom
  | @trip t n code h ih =>
    have hlen := (h.quiet (by omega)).2
    unfold State.askTrip
    dsimp only
    rw [if_pos (by omega : t.lnc.queue.length < 16)]
    split
    · exact ih (by omega)
    · exact mem_insertFrame.mpr (.inr (ih (by omega)))

/-- The line in BREAK, before anything is told of it (R99). -/
def State.inBreak (s : State) : State := (s.updLnc fun l =>
  { l with attempt := none, cut := none, breaks := l.breaks + 1 }).enterLine .inBreak 0 32

/-- What is told of a break once LINE_BREAK is raised (R113, R135). -/
def State.breakTold (s : State) (receiving : Bool) (sender : Option Nat) : State :=
  ((s.when receiving (·.countReceiveError sender)).stationsBreakBegin).callsBreakBegin

theorem beginBreak_eq (h : s.lnc.state ≠ .inBreak) (sender : Option Nat) : s.beginBreak sender =
    (s.inBreak.raiseCause .lineBreak .fast 0).breakTold (decide (s.lnc.state = .receiving)) sender := if_neg h

theorem breakTold_frame (b : Bool) (sender : Option Nat) : ChangesOnly s [.stn, .lnc, .cal] (s.breakTold b sender) :=
  ((ChangesOnly.when (countReceiveError_changes ..)).weaken.then (stationsBreakBegin_changes _)).then
    (callsBreakBegin_changes _)

theorem countReceiveError_lnc (sender : Option Nat) : ∃ n, (s.countReceiveError sender).lnc = { s.lnc with unattributed := n } := by
  unfold State.countReceiveError
  split
  · split
    · exact ⟨_, rfl⟩
    · exact ⟨_, rfl⟩
  · exact ⟨_, rfl⟩

theorem breakTold_lnc (b : Bool) (sender : Option Nat) :
    ∃ n, (s.breakTold b sender).lnc = { s.lnc with unattributed := n } := by
  cases b
  · exact ⟨_, rfl⟩
  · exact countReceiveError_lnc sender

end

/-- Settles O36: both events in a break and outside one. -/
theorem breakStopsTheLine : Obligations.BreakStopsTheLine := by
  intro s sender hok
  refine ⟨fun h => ⟨⟨finish s (s.beginBreak sender), rfl, ?_⟩, finish s s.endBreak, rfl, ?_⟩,
    fun h => ⟨⟨finish s s.endBreak, rfl, ?_⟩, finish s (s.beginBreak sender), rfl, ?_⟩⟩
  · rw [State.beginBreak, if_pos h]
    exact (ChangesOnly.refl s []).finish
  · let u := (s.enterLine .idle 11 0).endCause .lineBreak 0
    have hrun : s.endBreak = ((u.stationsBreakEnd).updCal fun c =>
        { c with breakMark := false, reannounce := none }).announcePair := if_pos h
    have hu : ChangesOnly (s.enterLine .idle 11 0) supervisorParts u := endCause_changes ..
    have hstations : ChangesOnly u [.stn, .cal] (u.stationsBreakEnd.updCal fun c =>
        { c with breakMark := false, reannounce := none }) := (stationsBreakEnd_changes u).weaken.then (updCal_changes ..)
    have hannounce := announcePair_changes (u.stationsBreakEnd.updCal fun c =>
      { c with breakMark := false, reannounce := none })
    have hline := announcePair_sameLine (s := u.stationsBreakEnd.updCal fun c =>
      { c with breakMark := false, reannounce := none })
    refine ⟨?_, State.NoneActive.finish ?_, ?_, ?_, ChangesOnly.finish (endBreak_changes s)⟩
    · rw [finish_lnc, hrun, hline.state, hstations.lnc_eq, hu.lnc_eq]
      rfl
    · unfold State.NoneActive
      rw [hrun, hannounce.msv_eq, hstations.msv_eq]
      exact endCause_noneActive (hok.of_msv_eq rfl)
    · obtain ⟨x, hx⟩ := announcePair_cal (u.stationsBreakEnd.updCal fun c =>
        { c with breakMark := false, reannounce := none })
      rw [finish_cal, hrun, hx]
      rfl
    · rw [finish_lnc, hrun, hline.breaks, hstations.lnc_eq, hu.lnc_eq]
      rfl
  · rw [State.endBreak, if_neg h]
    exact (ChangesOnly.refl s []).finish
  · let u := s.inBreak.raiseCause .lineBreak .fast 0
    obtain ⟨m, hasks, hle⟩ := (raiseCause_asksFor (s := s.inBreak) (code := .lineBreak) (category := .fast) (index := 0)
      rfl).asks
    have hline : s.inBreak.lnc.SameLine u.lnc := hasks.sameLine
    have htold := breakTold_frame (s := u) (decide (s.lnc.state = .receiving)) sender
    obtain ⟨n, hlnc⟩ := breakTold_lnc (s := u) (decide (s.lnc.state = .receiving)) sender
    have hfast := raiseCause_fast_state (s := s.inBreak) (code := .lineBreak) (index := 0) (hok.of_msv_eq rfl)
    have hnot : u.msv.state ≠ .run ∧ u.msv.state ≠ .stoppingService := by
      rw [hfast]
      split
      · exact ⟨SupState.noConfusion, SupState.noConfusion⟩
      · next hmoving => exact not_or.mp hmoving
    have hframe : ChangesOnly s (.stn :: Part.ofCause) (s.beginBreak sender) := beginBreak_changes ..
    rw [beginBreak_eq h] at hframe ⊢
    refine ⟨?_, ?_, ?_, ?_, rfl, fun r hr => ?_, ?_, ?_, fun hroom => State.Lists.finish ?_, fun hroom f hf => ?_,
      hframe.finish⟩
    · rw [finish_lnc, hlnc]
      exact hline.state
    · rw [finish_lnc, hlnc]
      exact hline.attempt
    · rw [finish_lnc, hlnc]
      exact hline.cut
    · rw [finish_lnc, hlnc]
      exact hline.breaks
    · obtain ⟨x, -, rfl⟩ := List.mem_map.mp hr
      rfl
    · rw [finish_msv, htold.msv_eq]
      exact hnot.1
    · rw [finish_msv, htold.msv_eq]
      exact hnot.2
    · unfold State.Lists
      rw [htold.msv_eq]
      exact raiseCause_lists hroom
    · rw [finish_lnc, hlnc]
      refine hasks.mem_queue ?_ hf
      have hle' : m ≤ 2 := hle
      have hlen : s.inBreak.lnc.queue.length = s.lnc.queue.length := rfl
      omega

end Sys2Proof.Machine
end

section
/-! PROOF. Journal entries, refusals of orders, and frames received (O35, O50, O51; R97, R98, R106, R110, R114, R119, R171 to
R175). -/

namespace Sys2Proof.Machine

-- One lemma at a time, as in Laws/State.lean.
set_option Elab.async false

open Sys2Proof

/-! ## O51: the journal -/

section
variable (s : State) (kind : JKind) (block : Block) (cabin : Nat) (detail : List Byte)

/-- The entry that a request writes at W (R174). -/
def State.entryOf (s : State) (kind : JKind) (block : Block) (cabin : Nat) (detail : List Byte) : JEntry :=
  { seq := s.obc.written, time := s.clockTime, clockInvalid := !s.sst.clock.valid, kind := kind, block := block
    index := Config.journalIndex kind.code, cabin := cabin, detail := detail }

variable {s}

/-- With room and nothing missed, an entry is written at W (R174). -/
theorem journal_written (hspan : s.obc.span < 256) (hmask : s.obc.missedMask = 0) (hcount : s.obc.missedCount = 0) :
    (s.journal kind block cabin detail).obc.written = s.obc.written + 1 ∧
    (s.journal kind block cabin detail).obc.journal =
      (s.entryOf kind block cabin detail :: s.obc.journal).take 256 := by
  unfold State.journal State.journalAt
  rw [if_pos hspan]
  simp only [hmask, hcount, bne_self_eq_false, Bool.or_self, Bool.false_eq_true, if_false, if_pos hspan]
  exact ⟨rfl, rfl⟩

theorem span_succ {w t : DWord} (h : (w - t).toNat < 255) : (w + 1 - t).toNat < 256 := by bv_omega

/-- After missed entries, JOURNAL_GAP comes first (R175). -/
theorem journal_gap (hspan : s.obc.span < 255) (hmissed : s.obc.missedMask ≠ 0 ∨ s.obc.missedCount ≠ 0) :
    s.journal kind block cabin detail = s.appendGap.appendEntry kind block (Config.journalIndex kind.code) cabin detail := by
  have hgap : s.appendGap.obc.span < 256 := span_succ hspan
  have hany : (s.obc.missedMask != 0 || s.obc.missedCount != 0) = true := by simpa using hmissed
  unfold State.journal State.journalAt
  rw [if_pos (Nat.lt_succ_of_lt hspan), hany]
  exact if_pos hgap

/-- A full journal counts the entry as missed (R175). -/
theorem journal_missed (hspan : 256 ≤ s.obc.span) : s.journal kind block cabin detail = s.missEntry kind := by
  unfold State.journal State.journalAt
  rw [if_neg (Nat.not_lt.mpr hspan)]

end

/-- Settles O51: the three cases of a request. -/
theorem journalWritesOrCounts : Obligations.JournalWritesOrCounts := by
  intro s hdivert
  refine ⟨finish s s.gIn, rfl, ?_⟩
  rw [gIn_none hdivert]
  refine ⟨(journal_changes s ..).finish, fun hspan hnot => ?_, fun hspan hmissed => ?_, fun hspan => ?_⟩
  · obtain ⟨hmask, hcount⟩ := not_or.mp hnot
    obtain ⟨hwritten, hjournal⟩ := journal_written .fleetMismatch .lch 0 [Config.garageBoundary false] hspan
      (not_not.mp hmask) (not_not.mp hcount)
    rw [finish_obc_written, finish_obc_journal, hwritten, hjournal]
    exact ⟨rfl, rfl, rfl⟩
  · rw [journal_gap .fleetMismatch .lch 0 [Config.garageBoundary false] hspan hmissed]
    have hwritten : s.obc.written + 1 + 1 = s.obc.written + 2 := BitVec.add_assoc ..
    exact ⟨hwritten, rfl, rfl, rfl, _, rfl, rfl, rfl, rfl⟩
  · rw [journal_missed .fleetMismatch .lch 0 [Config.garageBoundary false] hspan]
    exact ⟨rfl, rfl, rfl, satInc_eq_min ..⟩

/-! ## O50: refusals before an order reaches its block, and lost slips -/

section
variable {s : State} {slip : Nat} {o : Order}

/-- In STANDBY an order that is not taken there goes to no block (R171). -/
theorem dispatch_notStarted (hstandby : s.msv.state = .standby) (hnot : o.takenInStandby = false) :
    s.dispatch slip o = s.writeResult slip (refusal .notStarted) := by
  unfold State.dispatch
  rw [if_pos ⟨hstandby, by simp [hnot]⟩]

/-- A refused order changes its slip alone. -/
theorem refused_effect {c : ResultCode} (hslip : slip < 32) (hwf : Memory.wf s.mem = true)
    (hrun : s.dispatch slip o = s.writeResult slip (refusal c)) :
    (finish s (s.dispatch slip o)).Answered slip (refusal c) ∧ SlipOnly slip s (finish s (s.dispatch slip o)) ∧
      ChangesOnly s [.mem, .news] (finish s (s.dispatch slip o)) := by
  rw [hrun]
  exact ⟨finish_answered (writeResult_answered s slip (refusal c) hslip (Nat.zero_le _) hwf).1,
    finish_slipOnly (writeResult_slipOnly s slip (refusal c)), (writeResult_changes ..).finish⟩

theorem freeContext?_eq_none (h : s.obc.contexts.all (·.isSome) = true) : s.freeContext? = none := by
  unfold State.freeContext?
  rw [List.findIdx?_eq_none_iff]
  intro c hc
  have := List.all_eq_true.mp h c hc
  simpa using this

/-- A long order whose slip is no longer its own is journalled (R173). -/
theorem completeOrder_orphaned {k : Nat} {x : OrderCtx} {r : OrderResult} (hx : s.context k = some x)
    (hlost : ¬ (s.slipState x.slip = 2 ∧ s.slipTicket x.slip = x.ticket)) : s.completeOrder k r =
      (s.journal .orderOrphaned .obc 0 (le16 x.ticket.toNat ++ [byteOf x.slip, byteOf x.order.code,
        byteOf (if r.done then 3 else 4), byteOf r.code.code] ++ r.data.take 8)).freeContext k := by
  unfold State.completeOrder
  rw [hx]
  exact congrArg (State.freeContext · k) (if_neg hlost)

end

/-- Settles O50: the two refusals, order by order, and the end of an insertion whose slip was lost. -/
theorem ordersAreRefusedOrOrphaned : Obligations.OrdersAreRefusedOrOrphaned := by
  intro s slip a b w text hslip hwf
  refine ⟨fun hstandby i hi => ?_, fun hstandby hfull i hi => ?_, fun i hi x hx hlost hspan hmask hcount => ?_⟩
  · obtain ⟨o, hnot, hexec⟩ : ∃ o : Order, o.takenInStandby = false ∧
        exec i s = .next (finish s (s.dispatch slip o)) := by
      simp only [List.mem_cons, List.not_mem_nil, or_false] at hi
      rcases hi with rfl | rfl | rfl | rfl | rfl | rfl | rfl | rfl | rfl <;> exact ⟨_, rfl, rfl⟩
    exact ⟨_, hexec, refused_effect hslip hwf (dispatch_notStarted hstandby hnot)⟩
  · obtain ⟨o, hlong, hexec⟩ : ∃ o : Order, o.isLong = true ∧ exec i s = .next (finish s (s.dispatch slip o)) := by
      simp only [List.mem_cons, List.not_mem_nil, or_false] at hi
      rcases hi with rfl | rfl | rfl | rfl | rfl <;> exact ⟨_, rfl, rfl⟩
    exact ⟨_, hexec, refused_effect hslip hwf (dispatch_long_full hlong (.inl hstandby) (freeContext?_eq_none hfull))⟩
  · let u := s.updLch fun l => { l with insertion := none }
    have hu : ChangesOnly s [.lch] u := updLch_changes ..
    have hrun : s.insertionExpires = (u.journal .orderOrphaned .obc 0 (le16 x.ticket.toNat ++
        [byteOf x.slip, byteOf x.order.code, byteOf 4, byteOf ResultCode.timeout.code] ++ [])).freeContext i.context := by
      rw [insertionExpires_some hi]
      exact completeOrder_orphaned (s := u) hx hlost
    refine ⟨finish s s.insertionExpires, rfl, finish_context ?_, ?_, ?_, ?_⟩
    · rw [insertionExpires_some hi]
      exact endInsertion_context ..
    · rw [finish_obc_journal, hrun]
      have hjournal := (journal_written (s := u) .orderOrphaned .obc 0 (le16 x.ticket.toNat ++
        [byteOf x.slip, byteOf x.order.code, byteOf 4, byteOf ResultCode.timeout.code] ++ []) hspan hmask hcount).2
      have hfree : ∀ v : State, (v.freeContext i.context).obc.journal = v.obc.journal := fun _ => rfl
      rw [hfree, hjournal]
      rfl
    · rw [finish_mem, hrun, (freeContext_changes ..).mem_eq, journal_mem, hu.mem_eq]
    · rw [hrun]
      exact ((hu.weaken.then (journal_changes ..)).then (freeContext_changes ..)).finish

end Sys2Proof.Machine
end

section
/-! PROOF. Station records, and frames received (O35; R97, R98, R106, R110, R111, R114, R119). -/

namespace Sys2Proof.Machine

-- One lemma at a time, as in Laws/State.lean.
set_option Elab.async false

open Sys2Proof

/-! ## Station records -/

section
variable {s t u : State} {a k : Nat}

theorem stationRec_congr (h : t.stn = s.stn) (a : Nat) : t.stationRec a = s.stationRec a := by
  simp only [State.stationRec, h]

theorem stationRec_updStation_same (f : StationRec → StationRec) (ha : a < s.stn.records.length) :
    (s.updStation a f).stationRec a = f (s.stationRec a) := by
  simp only [State.stationRec, State.updStation, State.updStn_stn, List.getElem?_modify_eq,
    List.getElem?_eq_getElem ha, Option.map_eq_map, Option.map_some, Option.getD_some]

theorem stationRec_updStation_ne (f : StationRec → StationRec) (h : k ≠ a) :
    (s.updStation a f).stationRec k = s.stationRec k := by
  simp only [State.stationRec, State.updStation, State.updStn_stn, List.getElem?_modify_ne f s.stn.records (Ne.symm h)]

/-- A run that changes no other record than that of one address. -/
structure State.OnlyStation (s t : State) (a : Nat) : Prop where
  others : ∀ k, k ≠ a → t.stationRec k = s.stationRec k
  length : t.stn.records.length = s.stn.records.length

theorem State.OnlyStation.refl : s.OnlyStation s a := ⟨fun _ _ => rfl, rfl⟩

theorem State.OnlyStation.trans (h1 : s.OnlyStation t a) (h2 : t.OnlyStation u a) : s.OnlyStation u a :=
  ⟨fun k hk => (h2.others k hk).trans (h1.others k hk), h2.length.trans h1.length⟩

theorem State.OnlyStation.of_stn (h : s.OnlyStation t a) (hstn : u.stn = t.stn) : s.OnlyStation u a :=
  h.trans ⟨fun k _ => stationRec_congr hstn k, by rw [hstn]⟩

theorem State.OnlyStation.frame {ps : List Part} (h : s.OnlyStation t a) (hc : ChangesOnly t ps u)
    (hp : .stn ∉ ps := by decide) : s.OnlyStation u a := h.of_stn (hc.stn_eq hp)

theorem State.OnlyStation.updStation (h : s.OnlyStation t a) {f : StationRec → StationRec} :
    s.OnlyStation (t.updStation a f) a :=
  h.trans ⟨fun _ hk => stationRec_updStation_ne f hk, List.length_modify ..⟩

theorem State.OnlyStation.ite {b : Prop} [Decidable b] (h1 : s.OnlyStation t a) (h2 : s.OnlyStation u a) :
    s.OnlyStation (if b then t else u) a := by
  split <;> assumption

/-! ## A change of state (R111) -/

variable {new : StationState} {ev : StationEvent}

/-- The record as a change of state leaves it (R111, R112). -/
def State.stationEntered (s : State) (a : Nat) (new : StationState) : State := s.updStation a fun r =>
  { r with state := new, timer := s.silencePeriod a new
           upSince := upSinceAfter (s.stationRec a).state new s.sst.clock.seconds r.upSince }

/-- The change of state as it is told, before STATION_SILENT follows it (R111, R134). -/
def State.stationTold (s : State) (a : Nat) (new : StationState) (ev : StationEvent) : State :=
  ((s.stationEntered a new).journal .stationState .stn 0
    [byteOf a, byteOf (s.stationRec a).state.code, byteOf new.code, byteOf ev.code]).tellStation a new

theorem setStation_eq (s : State) (a : Nat) (new : StationState) (ev : StationEvent) :
    s.setStation a new ev = (s.stationTold a new ev).silentCause a (s.stationRec a).state new := rfl

theorem stationTold_frame : ChangesOnly (s.stationEntered a new) [.lnc, .cal, .mem, .news, .journal, .contexts]
    (s.stationTold a new ev) :=
  (journal_changes ..).weaken.then (tellStation_changes ..)

theorem setStation_stn : (s.setStation a new ev).stn = (s.stationEntered a new).stn := by
  rw [setStation_eq, (silentCause_changes ..).stn_eq, stationTold_frame.stn_eq]

theorem State.OnlyStation.setStation (h : s.OnlyStation t a) : s.OnlyStation (t.setStation a new ev) a :=
  State.OnlyStation.of_stn (State.OnlyStation.updStation h) setStation_stn

theorem setStation_rec (ha : a < s.stn.records.length) : (s.setStation a new ev).stationRec a =
    { s.stationRec a with
      state := new, timer := s.silencePeriod a new
      upSince := upSinceAfter (s.stationRec a).state new s.sst.clock.seconds (s.stationRec a).upSince } := by
  rw [stationRec_congr setStation_stn, State.stationEntered, stationRec_updStation_same _ ha]

/-- A station that comes to life, not from SILENT, tells only the journal of it (R111). -/
theorem setStation_live_frame (h : (s.stationRec a).state ≠ .silent) :
    ChangesOnly s [.stn, .journal, .news] (s.setStation a .live ev) := by
  have htold : ChangesOnly s [.stn, .journal, .news] (s.stationTold a .live ev) :=
    (updStation_changes ..).weaken.then (journal_changes ..)
  rw [setStation_eq, State.silentCause, if_neg StationState.noConfusion, if_neg h]
  exact htold

/-! ## Frames handed to the station table (R110, R114, R119) -/

variable {report : Bool}

theorem hear_stn : (s.hear a).stn = (s.updStation a fun r =>
    { r with frames := r.frames + 1, lastHeard := some s.clockTime }).stn := rfl

theorem hear_rec (ha : a < s.stn.records.length) : (s.hear a).stationRec a =
    { s.stationRec a with frames := (s.stationRec a).frames + 1, lastHeard := some s.clockTime } := by
  rw [stationRec_congr hear_stn, stationRec_updStation_same _ ha]

theorem State.OnlyStation.hear : s.OnlyStation (s.hear a) a :=
  State.OnlyStation.of_stn (State.OnlyStation.updStation .refl) hear_stn

theorem State.OnlyStation.frameState : s.OnlyStation (s.frameState a report) a := by
  unfold State.frameState
  split
  · exact State.OnlyStation.setStation .refl
  · exact State.OnlyStation.updStation .refl
  · exact .ite (State.OnlyStation.setStation .refl) .refl
  · exact .refl

theorem State.OnlyStation.noteUnexpected : s.OnlyStation (s.noteUnexpected a) a :=
  .ite .refl (State.OnlyStation.frame (State.OnlyStation.updStation .refl) (journal_changes ..))

theorem State.OnlyStation.stationFrame : s.OnlyStation (s.stationFrame a report) a :=
  State.OnlyStation.trans .hear (.ite .frameState .noteUnexpected)

/-- A frame that is no STATUS raises and ends no cause (R114). -/
theorem frameState_unreported : ChangesOnly s [.stn, .journal, .news] (s.frameState a false) := by
  unfold State.frameState
  split
  · next h => exact setStation_live_frame (by rw [h]; exact StationState.noConfusion)
  · exact (updStation_changes ..).weaken
  · exact .refl _ _
  · exact .refl _ _

theorem stationFrame_unreported : ChangesOnly s [.stn, .journal, .news] (s.stationFrame a false) :=
  (hear_changes ..).weaken.then (.ite frameState_unreported (noteUnexpected_changes ..))

/-- A frame of a LIVE station restarts its timer alone (R112, R114). -/
theorem stationFrame_live (hpresent : s.present a = true) (hlive : ((s.hear a).stationRec a).state = .live) :
    ChangesOnly s [.stn] (s.stationFrame a report) := by
  have hhear := hear_changes s a
  have hpresent' : (s.hear a).present a = true := by simpa only [State.present, hhear.sst_eq] using hpresent
  unfold State.stationFrame
  dsimp only
  rw [show s.present a = true from hpresent, if_pos rfl]
  unfold State.frameState
  rw [hlive]
  exact hhear.then (updStation_changes ..)

theorem noteUnexpected_rec (ha : a < s.stn.records.length) : ∃ b, (s.noteUnexpected a).stationRec a =
    { s.stationRec a with unexpected := b } := by
  unfold State.noteUnexpected
  split
  · exact ⟨_, rfl⟩
  · exact ⟨true, by rw [stationRec_congr (journal_stn ..), stationRec_updStation_same _ ha]⟩

/-- A frame leaves what it does not tell of the record as it was (R114, R119). -/
theorem frameState_rec (ha : a < s.stn.records.length) : ∃ st timer up, (s.frameState a report).stationRec a =
    { s.stationRec a with state := st, timer := timer, upSince := up } := by
  unfold State.frameState
  split
  · exact ⟨_, _, _, setStation_rec ha⟩
  · exact ⟨(s.stationRec a).state, _, (s.stationRec a).upSince, stationRec_updStation_same _ ha⟩
  · split
    · exact ⟨_, _, _, setStation_rec ha⟩
    · exact ⟨_, _, _, rfl⟩
  · exact ⟨_, _, _, rfl⟩

theorem stationFrame_heard (ha : a < s.stn.records.length) :
    ((s.stationFrame a report).stationRec a).frames = (s.stationRec a).frames + 1 ∧
      ((s.stationFrame a report).stationRec a).lastHeard = some s.clockTime := by
  have hlen : a < (s.hear a).stn.records.length := by rw [State.OnlyStation.hear.length]; exact ha
  have hhear := hear_rec ha
  unfold State.stationFrame
  dsimp only
  split
  · obtain ⟨st, timer, up, h⟩ := frameState_rec (report := report) hlen
    rw [h, hhear]
    exact ⟨rfl, rfl⟩
  · obtain ⟨b, h⟩ := noteUnexpected_rec hlen
    rw [h, hhear]
    exact ⟨rfl, rfl⟩

/-! ## Receptions (R97, R98) -/

theorem endReception_lnc : ∃ st rate r d, s.endReception.lnc =
    { s.lnc with state := st, bitRate := rate, recessive := r, dominantRun := d } := by
  unfold State.endReception
  split
  · exact ⟨_, _, _, _, rfl⟩
  · exact ⟨_, _, _, _, rfl⟩

theorem endReception_state : s.endReception.lnc.state = if s.lnc.state = .receiving then .gap else s.lnc.state := by
  unfold State.endReception
  split <;> rfl

/-- A frame to be counted: the count, the station's record, the contents, the end (R97, R98). -/
def State.received (s : State) (a : Nat) (report : Bool) : State :=
  (s.updLnc fun l => { l with received := l.received + 1 }).stationFrame a report

theorem receive_counted {f : RxFrame} {contents : State → State} (hlen : f.payload.length ≤ 16)
    (hsender : addressOk f.sender = true) (hdest : f.dest ≠ 14) : s.receive f report contents =
      ((s.received f.sender (report && frameForUs f)).when (frameForUs f) contents).endReception := by
  rw [State.receive, if_neg (not_or.mpr ⟨Nat.not_lt.mpr hlen, not_not.mpr hsender⟩), if_neg hdest]
  rfl

theorem receive_ignored {f : RxFrame} {contents : State → State} (hlen : f.payload.length ≤ 16)
    (hsender : addressOk f.sender = true) (hdest : f.dest = 14) : s.receive f report contents = s.endReception := by
  rw [State.receive, if_neg (not_or.mpr ⟨Nat.not_lt.mpr hlen, not_not.mpr hsender⟩), if_pos hdest]

theorem received_frame : ChangesOnly s [.stn, .lnc, .journal, .news] (s.received a false) :=
  (updLnc_changes s _).weaken.then stationFrame_unreported

theorem received_lnc : (s.received a false).lnc = { s.lnc with received := s.lnc.received + 1 } :=
  (stationFrame_unreported (s := s.updLnc _)).lnc_eq

theorem State.OnlyStation.received : s.OnlyStation (s.received a report) a :=
  (State.OnlyStation.refl.frame (updLnc_changes s _)).trans .stationFrame

theorem received_heard (ha : a < s.stn.records.length) :
    ((s.received a report).stationRec a).frames = (s.stationRec a).frames + 1 ∧
      ((s.received a report).stationRec a).lastHeard = some s.clockTime :=
  stationFrame_heard (s := s.updLnc fun l => { l with received := l.received + 1 }) ha

theorem received_live (ha : a < s.stn.records.length) (hpresent : s.present a = true)
    (hlive : (s.stationRec a).state = .live) : ChangesOnly s [.stn, .lnc] (s.received a report) := by
  have hlive' : (((s.updLnc fun l => { l with received := l.received + 1 }).hear a).stationRec a).state = .live := by
    rw [hear_rec (s := s.updLnc fun l => { l with received := l.received + 1 }) ha]
    exact hlive
  exact (updLnc_changes s _).weaken.then (stationFrame_live hpresent hlive')

end

/-- Settles O35: errors, frames of any kind, and a NOTE. -/
theorem receivedFramesAreCounted : Obligations.ReceivedFramesAreCounted := by
  intro s sender kind dest payload hlow hhigh hlen
  have ha : sender < s.stn.records.length := by omega
  have hok : addressOk sender = true := by simp [addressOk, hlow, hhigh]
  refine ⟨⟨finish s (s.receiveError (some sender)), rfl, ?_⟩, ⟨finish s (s.receiveError none), rfl, ?_⟩,
    fun hpayload => ⟨fun hdest => ?_, fun hdest => ⟨?_, fun b0 b1 text hp htext hus hlive hpresent hspan hmask hcount => ?_⟩⟩⟩
  · have hcount : s.countReceiveError (some sender) = s.updStation sender fun r =>
        { r with crcErrors := r.crcErrors + 1 } := if_pos hok
    have hend := endReception_changes (s.countReceiveError (some sender))
    obtain ⟨st, rate, r, d, hline⟩ := endReception_lnc (s := s.countReceiveError (some sender))
    have hstn : (finish s (s.receiveError (some sender))).stn = (s.updStation sender fun r =>
        { r with crcErrors := r.crcErrors + 1 }).stn := by
      rw [finish_stn, State.receiveError, hend.stn_eq, hcount]
    refine ⟨?_, fun a ha' => ?_, ?_, ?_, ?_⟩
    · rw [stationRec_congr hstn, stationRec_updStation_same _ ha]
    · rw [stationRec_congr hstn, stationRec_updStation_ne _ ha']
    · rw [finish_lnc, State.receiveError, hline, hcount]
      rfl
    · rw [finish_lnc, State.receiveError, endReception_state, hcount]
      rfl
    · exact ((countReceiveError_changes s _).then hend).finish
  · obtain ⟨st, rate, r, d, hline⟩ := endReception_lnc (s := s.countReceiveError none)
    refine ⟨?_, ((updLnc_changes s _).then (endReception_changes _)).finish⟩
    rw [finish_lnc, State.receiveError, hline]
    rfl
  · refine ⟨finish s (s.receive ⟨sender, dest, payload⟩ false id), rfl, ?_⟩
    rw [receive_ignored hpayload hok hdest]
    obtain ⟨st, rate, r, d, hline⟩ := endReception_lnc (s := s)
    exact ⟨by rw [finish_lnc, hline], (endReception_changes s).finish⟩
  · refine ⟨finish s (s.receive ⟨sender, dest, payload⟩ false id), rfl, ?_⟩
    have hwhen : ((s.received sender (false && frameForUs ⟨sender, dest, payload⟩)).when
        (frameForUs ⟨sender, dest, payload⟩) id) = s.received sender false := by
      unfold State.when
      split <;> rfl
    rw [receive_counted hpayload hok hdest, hwhen]
    have hend := endReception_changes (s.received sender false)
    obtain ⟨st, rate, r, d, hline⟩ := endReception_lnc (s := s.received sender false)
    have hstn : (finish s (s.received sender false).endReception).stn = (s.received sender false).stn :=
      (finish_stn ..).trans hend.stn_eq
    refine ⟨?_, ?_, ?_, fun a ha' => ?_, fun hlive hpresent => ?_, ?_⟩
    · rw [finish_lnc, hline, received_lnc]
    · rw [stationRec_congr hstn, (received_heard ha).1]
    · rw [stationRec_congr hstn, (received_heard ha).2]
    · rw [stationRec_congr hstn, State.OnlyStation.received.others a ha']
    · exact ((received_live ha hpresent hlive).then hend).finish
    · exact (received_frame.weaken.then hend).finish
  · refine ⟨finish s (s.receiveNote ⟨sender, dest, payload⟩), rfl, ?_⟩
    have hforUs : frameForUs ⟨sender, dest, payload⟩ = true := by simpa [frameForUs] using hus
    let detail : List Byte := [byteOf sender, b1, b0, byteOf text.length] ++ text
    have hnote : s.receiveNote ⟨sender, dest, payload⟩ =
        ((s.received sender false).journal .noteReceived .lnc 0 detail).endReception := by
      subst hp
      unfold State.receiveNote
      dsimp only
      rw [receive_counted hpayload hok hdest, hforUs]
      exact congrArg State.endReception (if_pos htext)
    have hlive' := received_live (report := false) ha hpresent hlive
    have hjournal := hlive'.same .journal (by decide)
    obtain ⟨hwritten, hmask', hcount', hlist⟩ := hjournal
    have htaken : (s.received sender false).obc.taken = s.obc.taken := (hlive'.same .port (by decide)).2.2.2
    have hspan' : (s.received sender false).obc.span < 256 := by rw [Obc.span, hwritten, htaken]; exact hspan
    obtain ⟨hw, hj⟩ := journal_written .noteReceived .lnc 0 detail hspan' (hmask'.trans hmask) (hcount'.trans hcount)
    have hend := endReception_changes ((s.received sender false).journal .noteReceived .lnc 0 detail)
    obtain ⟨hew, -, -, hej⟩ := hend.same .journal (by decide)
    obtain ⟨st, rate, r, d, hline⟩ := endReception_lnc (s := (s.received sender false).journal .noteReceived .lnc 0 detail)
    have hclock : (s.received sender false).clockTime = s.clockTime := by
      simp only [State.clockTime, State.clockMs, hlive'.sst_eq, hlive'.now_eq]
    rw [hnote]
    refine ⟨?_, ?_, ?_, ((hlive'.weaken.then (journal_changes ..)).then hend).finish⟩
    · rw [finish_lnc, hline, journal_lnc, received_lnc]
    · rw [finish_obc_written, hew, hw, hwritten]
    · rw [finish_obc_journal, hej, hj]
      simp only [List.take_succ_cons, List.head?_cons, Option.map_some, State.entryOf, hwritten, hclock]
      rfl

end Sys2Proof.Machine
end

section
/-! PROOF. The transmit queue (O32; R100, R101, R103, R105, R171). -/

namespace Sys2Proof.Machine

-- One lemma at a time, as in Laws/State.lean.
set_option Elab.async false

open Sys2Proof

/-- The place of a frame: behind every frame of its priority or a more urgent one (R100). -/
theorem insertFrame_eq (f : TxFrame) (q : List TxFrame) : insertFrame f q =
    q.takeWhile (·.kind.priority ≤ f.kind.priority) ++ [f] ++ q.dropWhile (·.kind.priority ≤ f.kind.priority) := by
  induction q with
  | nil => rfl
  | cons g rest ih =>
    unfold insertFrame
    split
    · next h => rw [ih, List.takeWhile_cons_of_pos (by simpa using h), List.dropWhile_cons_of_pos (by simpa using h)]; rfl
    · next h => rw [List.takeWhile_cons_of_neg (by simpa using h), List.dropWhile_cons_of_neg (by simpa using h)]; rfl

section
variable {s : State} {kind : FrameKind}

/-- A NOTE that waits off the line (R101). -/
def State.noteWaits (s : State) (f : TxFrame) : Bool := f.kind = .note && !s.lnc.onLine f

theorem noteWaits_eq (s : State) (f : TxFrame) :
    s.noteWaits f = (f.kind = .note && decide (s.lnc.attempt.map (·.fid) ≠ some f.fid)) := by
  unfold State.noteWaits Lnc.onLine
  cases s.lnc.attempt <;> simp

theorem askFrame_place (h : ordinaryPlace s.lnc.queue = true) (dest : Nat) (p : List Byte) (b : Block) (c : Option Nat) :
    s.askFrame kind dest p b c = s.enqueue kind dest p b c := if_pos h

/-- A frame without a place, with no NOTE to give way (R101). -/
theorem askFrame_none (h : ordinaryPlace s.lnc.queue = false) (hnone : youngest s.noteWaits s.lnc.queue = none)
    (dest : Nat) (p : List Byte) (b : Block) (c : Option Nat) : s.askFrame kind dest p b c = s.queueFull kind dest c := by
  unfold State.askFrame
  rw [if_neg (by simp [h])]
  have hy : youngest (fun f => f.kind = .note && !s.lnc.onLine f) s.lnc.queue = none := hnone
  rw [hy]

/-- A frame in the place of the youngest NOTE that waits (R101). -/
theorem askFrame_displaces {g : TxFrame} (h : ordinaryPlace s.lnc.queue = false)
    (hsome : youngest s.noteWaits s.lnc.queue = some g) (dest : Nat) (p : List Byte) (b : Block) (c : Option Nat) :
    s.askFrame kind dest p b c = ((s.unqueue g.fid).queueFull g.kind g.dest g.context).enqueue kind dest p b c := by
  unfold State.askFrame
  rw [if_neg (by simp [h])]
  have hy : youngest (fun f => f.kind = .note && !s.lnc.onLine f) s.lnc.queue = some g := hsome
  rw [hy]

/-- The queue marked renewed (R103). -/
def renewedFrames (q : List TxFrame) (kind : FrameKind) : List TxFrame :=
  q.map fun f => if f.kind = kind then { f with renewed := true } else f

/-- At a period a queued frame serves, or a new one is queued (R103). -/
theorem askPeriodic_queue (h : ordinaryPlace s.lnc.queue = true) : (s.askPeriodic kind).lnc =
    if s.lnc.queue.any (·.kind = kind) then { s.lnc with queue := renewedFrames s.lnc.queue kind }
    else { s.lnc with
      queue := insertFrame ⟨s.lnc.nextFid, kind, 15, [], 0, .lnc, none, false⟩ s.lnc.queue
      nextFid := s.lnc.nextFid + 1 } := by
  unfold State.askPeriodic
  split
  · rfl
  · rw [askFrame_place h]
    rfl

theorem askPeriodic_frame (h : ordinaryPlace s.lnc.queue = true) : ChangesOnly s [.lnc] (s.askPeriodic kind) := by
  unfold State.askPeriodic
  rw [askFrame_place h]
  exact .ite (updLnc_changes ..) (enqueue_changes ..)

/-- One step of the search for the youngest frame. -/
def youngerOf (p : TxFrame → Bool) (best : Option TxFrame) (f : TxFrame) : Option TxFrame :=
  if p f then best.elim (some f) fun g => if g.fid < f.fid then some f else best else best

theorem youngest_eq_foldl (p : TxFrame → Bool) (q : List TxFrame) : youngest p q = q.foldl (youngerOf p) none := by
  have hstep : ∀ best f, (if p f = true then
      match best with
      | none => some f
      | some g => if g.fid < f.fid then some f else best
    else best) = youngerOf p best f := fun best f => by
    unfold youngerOf
    cases best <;> rfl
  unfold youngest
  exact congrArg (fun h => q.foldl h none) (funext fun best => funext fun f => hstep best f)

/-- The search never goes back to an older frame. -/
theorem foldl_youngerOf (p : TxFrame → Bool) (q : List TxFrame) (best : Option TxFrame) :
    (∀ b, best = some b → ∃ g, q.foldl (youngerOf p) best = some g ∧ b.fid ≤ g.fid) ∧
    ∀ f ∈ q, p f = true → ∃ g, q.foldl (youngerOf p) best = some g ∧ f.fid ≤ g.fid := by
  induction q generalizing best with
  | nil => exact ⟨fun b hb => ⟨b, hb, Nat.le_refl _⟩, fun f hf => absurd hf List.not_mem_nil⟩
  | cons x rest ih =>
    obtain ⟨hbest, hrest⟩ := ih (youngerOf p best x)
    refine ⟨fun b hb => ?_, fun f hf hp => ?_⟩
    · have hstep : ∃ b', youngerOf p best x = some b' ∧ b.fid ≤ b'.fid := by
        rw [hb, youngerOf, Option.elim_some]
        split_ifs with hp hlt
        · exact ⟨x, rfl, Nat.le_of_lt hlt⟩
        · exact ⟨b, rfl, Nat.le_refl _⟩
        · exact ⟨b, rfl, Nat.le_refl _⟩
      obtain ⟨b', hb', hle⟩ := hstep
      obtain ⟨g, hg, hle'⟩ := hbest b' hb'
      exact ⟨g, hg, hle.trans hle'⟩
    · rcases List.mem_cons.mp hf with rfl | hf
      · have hstep : ∃ b', youngerOf p best f = some b' ∧ f.fid ≤ b'.fid := by
          rw [youngerOf, if_pos hp]
          cases best with
          | none => exact ⟨f, rfl, Nat.le_refl _⟩
          | some b =>
            rw [Option.elim_some]
            split_ifs with hlt
            · exact ⟨f, rfl, Nat.le_refl _⟩
            · exact ⟨b, rfl, Nat.not_lt.mp hlt⟩
        obtain ⟨b', hb', hle⟩ := hstep
        obtain ⟨g, hg, hle'⟩ := hbest b' hb'
        exact ⟨g, hg, hle.trans hle'⟩
      · exact hrest f hf hp

theorem youngest_none {p : TxFrame → Bool} {q : List TxFrame} (h : q.filter p = []) : youngest p q = none := by
  cases hy : youngest p q with
  | none => rfl
  | some g =>
    obtain ⟨hmem, hp⟩ := youngest_eq_some hy
    exact absurd hp (List.filter_eq_nil_iff.mp h g hmem)

/-- The youngest frame with a property, by the names of the frames. -/
theorem youngest_of_max {p : TxFrame → Bool} {q : List TxFrame} {g : TxFrame} (hg : g ∈ q.filter p)
    (hmax : ∀ f ∈ q.filter p, f.fid ≤ g.fid) (hnodup : (q.map (·.fid)).Nodup) : youngest p q = some g := by
  obtain ⟨hmem, hp⟩ := List.mem_filter.mp hg
  obtain ⟨y, hy, hle⟩ := (foldl_youngerOf p q none).2 g hmem hp
  rw [← youngest_eq_foldl] at hy
  obtain ⟨hymem, hyp⟩ := youngest_eq_some hy
  have hfid : y.fid = g.fid := Nat.le_antisymm (hmax y (List.mem_filter.mpr ⟨hymem, hyp⟩)) hle
  rw [hy, List.inj_on_of_nodup_map hnodup hymem hmem hfid]

theorem queueFull_note_some (dest k : Nat) : s.queueFull .note dest (some k) = s.completeOrder k (refusal .lineBusy) := rfl

theorem queueFull_status (dest : Nat) (c : Option Nat) : s.queueFull .status dest c =
    s.journal .lineUndelivered .lnc 0 [byteOf FrameKind.status.code, byteOf dest, 0, 0] := rfl

end

/-! ## O32 -/

section
variable {s : State} {slip k dest : Nat} {code : Word} {text : List Byte}

/-- The address of a SEND_NOTE is in range (R105). -/
theorem noteRefusal_eq (htext : text.length ≤ 12) (hdest : dest = 15 ∨ (1 ≤ dest ∧ dest ≤ 13 ∧ s.present dest = true)) :
    s.noteRefusal dest text = if ordinaryPlace s.lnc.queue then none else some .lineBusy := by
  unfold State.noteRefusal
  rw [if_neg (by omega), if_neg]
  · cases ordinaryPlace s.lnc.queue <;> rfl
  · rintro ⟨hne, habsent⟩
    rcases hdest with h | ⟨-, -, h⟩
    · exact hne h
    · exact habsent h

/-- A SEND_NOTE with a place (R100, R105). -/
theorem sendNote_queued (hplace : ordinaryPlace s.lnc.queue = true) (hslip : slip < 32) (hwf : Memory.wf s.mem = true)
    (hfree : s.freeContext? = some k) (htext : text.length ≤ 12)
    (hdest : dest = 15 ∨ (1 ≤ dest ∧ dest ≤ 13 ∧ s.present dest = true)) :
    let t := finish s (s.dispatch slip (.sendNote dest code text))
    t.slipState slip = 2 ∧ SlipOnly slip s t ∧
      t.context k = some ⟨s.slipTicket slip, slip, .sendNote dest code text, s.clockTime⟩ ∧
      t.lnc = { s.lnc with
        queue := insertFrame ⟨s.lnc.nextFid, .note, dest, be16 code.toNat ++ text, 0, .obc, some k, false⟩ s.lnc.queue
        nextFid := s.lnc.nextFid + 1 } ∧
      ChangesOnly s [.lnc, .contexts, .mem] t := by
  intro t
  let u := s.takeContext k slip (.sendNote dest code text)
  have hu : ChangesOnly s [.contexts, .mem] u := takeContext_changes ..
  have hrefusal : s.longRefusal (.sendNote dest code text) = none :=
    (noteRefusal_eq htext hdest).trans (if_pos hplace)
  have hrun : s.dispatch slip (.sendNote dest code text) = u.startNote k dest code text :=
    dispatch_long rfl (.inr rfl) hfree hrefusal
  have hv : ChangesOnly u [.lnc] (s.dispatch slip (.sendNote dest code text)) := by
    rw [hrun]
    exact enqueue_changes ..
  refine ⟨?_, fun a ha => ?_, ?_, ?_, (hu.weaken.then hv).finish⟩
  · rw [slipState_congr (finish_mem ..), slipState_congr hv.mem_eq, takeContext_slipState hslip hwf]
  · rw [finish_mem, hv.mem_eq]
    exact takeContext_slipOnly a ha
  · rw [context_congr (finish_obc_contexts ..), context_congr hv.contexts_eq, takeContext_context hfree]
  · have hlnc : (u.startNote k dest code text).lnc = { u.lnc with
        queue := insertFrame ⟨u.lnc.nextFid, .note, dest, be16 code.toNat ++ text, 0, .obc, some k, false⟩ u.lnc.queue
        nextFid := u.lnc.nextFid + 1 } := rfl
    rw [finish_lnc, hrun, hlnc, hu.lnc_eq]

/-- The line at the beginning of a status period (R103). -/
def State.statusDue (s : State) : State :=
  s.updLnc fun l => { l with statusTimer := s.now + s.sst.active.line.statusPeriod }

theorem statusPeriod_eq (s : State) : s.statusPeriod = s.statusDue.askPeriodic .status := rfl

theorem statusPeriod_unplaced (hany : s.lnc.queue.any (·.kind = .status) = false) :
    s.statusPeriod = s.statusDue.askFrame .status 15 [] .lnc none := by
  have hany' : s.statusDue.lnc.queue.any (·.kind = .status) = false := hany
  rw [statusPeriod_eq, State.askPeriodic, hany']
  rfl

end

/-- Settles O32: SEND_NOTE with and without a place, and the periods with a place, without one, and in place of a NOTE. -/
theorem framesQueueByPriority : Obligations.FramesQueueByPriority := by
  intro s slip k dest code text
  refine ⟨fun hplace hslip hwf hfree htext hdest => ?_, fun hplace => ?_,
    fun hfull hslip hwf hfree htext hdest => ⟨finish s (s.dispatch slip (.sendNote dest code text)), rfl, ?_⟩, ?_⟩
  · obtain ⟨hstate, honly, hcontext, hlnc, hframe⟩ :=
      sendNote_queued (code := code) hplace hslip hwf hfree htext hdest
    refine ⟨_, rfl, hstate, honly, hcontext, hlnc.trans ?_, hframe⟩
    rw [insertFrame_eq]
    rfl
  · have htimer : ChangesOnly s [.lnc] (s.updLnc fun l => { l with timeTimer := s.now + 60000 }) := updLnc_changes ..
    have hst := askPeriodic_queue (s := s.statusDue) (kind := .status) hplace
    have htm := askPeriodic_queue (s := s.updLnc fun l => { l with timeTimer := s.now + 60000 }) (kind := .time) hplace
    refine ⟨finish s s.statusPeriod, rfl, finish s s.timePeriod, rfl, ?_, ?_, ⟨?_, ?_⟩,
      ChangesOnly.finish ((updLnc_changes s _).then (askPeriodic_frame (s := s.statusDue) hplace)),
      ChangesOnly.finish (htimer.then (askPeriodic_frame hplace))⟩
    · rw [finish_lnc, statusPeriod_eq, hst]
      split <;> rfl
    · rw [finish_lnc, State.timePeriod, htm]
      split <;> rfl
    · rw [finish_lnc, statusPeriod_eq, hst, insertFrame_eq]
      split
      · next h => exact (if_pos h).symm
      · next h => exact (if_neg h).symm
    · rw [finish_lnc, State.timePeriod, htm, insertFrame_eq]
      split
      · next h => exact (if_pos h).symm
      · next h => exact (if_neg h).symm
  · have hrefusal : s.longRefusal (.sendNote dest code text) = some .lineBusy :=
      (noteRefusal_eq htext hdest).trans (if_neg (by simp [hfull]))
    exact refused_effect hslip hwf (dispatch_long_refused rfl (.inr rfl) hfree hrefusal)
  · intro hfull hany waits
    refine ⟨fun hnone => ⟨finish s s.statusPeriod, rfl, ?_⟩,
      fun g hg hmax hnodup => ⟨finish s s.statusPeriod, rfl, ?_⟩⟩
    · have hyoung : youngest s.noteWaits s.lnc.queue = none := by
        rw [funext (noteWaits_eq s)]
        exact youngest_none hnone
      have hrun : s.statusPeriod = s.statusDue.journal .lineUndelivered .lnc 0
          [byteOf FrameKind.status.code, byteOf 15, 0, 0] :=
        (statusPeriod_unplaced hany).trans (askFrame_none (s := s.statusDue) hfull hyoung ..)
      rw [hrun]
      refine ⟨?_, ?_, ((updLnc_changes s _).weaken.then (journal_changes ..)).finish⟩
      · rw [finish_lnc, journal_lnc]
        rfl
      · rw [finish_lnc, journal_lnc]
        rfl
    · have hyoung : youngest s.noteWaits s.lnc.queue = some g := by
        rw [funext (noteWaits_eq s)]
        exact youngest_of_max hg hmax hnodup
      have hnote : g.kind = .note := by
        have := (List.mem_filter.mp hg).2
        simp only [Bool.and_eq_true, decide_eq_true_eq] at this
        exact this.1
      let u := s.statusDue.unqueue g.fid
      have hu : ChangesOnly s [.lnc] u := (updLnc_changes s _).then (unqueue_changes ..)
      have hrun : s.statusPeriod = (u.queueFull .note g.dest g.context).enqueue .status 15 [] .lnc none := by
        rw [← hnote]
        exact (statusPeriod_unplaced hany).trans (askFrame_displaces (s := s.statusDue) hfull hyoung ..)
      have hfullLnc : (u.queueFull .note g.dest g.context).lnc = u.lnc := queueFull_lnc ..
      have hline : s.statusPeriod.lnc = { u.lnc with
          queue := insertFrame ⟨u.lnc.nextFid, .status, 15, [], 0, .lnc, none, false⟩ u.lnc.queue
          nextFid := u.lnc.nextFid + 1 } := by
        have henq : ∀ v : State, (v.enqueue .status 15 [] .lnc none).lnc = { v.lnc with
          queue := insertFrame ⟨v.lnc.nextFid, .status, 15, [], 0, .lnc, none, false⟩ v.lnc.queue
          nextFid := v.lnc.nextFid + 1 } := fun _ => rfl
        rw [hrun, henq, hfullLnc]
      refine ⟨?_, fun hwf c hc x hx hslip htaken hticket => ?_, ?_⟩
      · rw [finish_lnc, hline, insertFrame_eq]
        rfl
      · have hpending : u.Pending c x := State.Pending.frame ⟨hwf, hx, hslip, htaken, hticket⟩ hu
        have hcomplete : s.statusPeriod = (u.completeOrder c (refusal .lineBusy)).enqueue .status 15 [] .lnc none := by
          rw [hrun, hc]
          rfl
        have henq := enqueue_changes (u.completeOrder c (refusal .lineBusy)) .status 15 [] .lnc none
        rw [hcomplete]
        refine ⟨finish_answered (hpending.answered.of_mem henq.mem_eq), finish_slipOnly fun a ha => ?_, finish_context ?_⟩
        · rw [henq.mem_eq, hpending.slipOnly _ a ha, hu.mem_eq]
        · rw [context_congr henq.contexts_eq, completeOrder_context _ _ (.inr rfl)]
      · have hgive : ChangesOnly u completionParts (u.queueFull .note g.dest g.context) := by
          cases g.context with
          | none => exact .refl _ _
          | some c => exact completeOrder_changes ..
        rw [hrun]
        exact ((hu.weaken.then hgive).then (enqueue_changes ..)).finish

end Sys2Proof.Machine
end

section
/-! PROOF. A STATUS of a station (O37; R114, R115, R116, R118). -/

namespace Sys2Proof.Machine

-- One lemma at a time, as in Laws/State.lean.
set_option Elab.async false

open Sys2Proof

section
variable {s t u : State} {a i : Nat} {report : SheaveState}

/-! ## One sheave (R115) -/

/-- The mark of a sheave's condition, before the cause follows it. -/
def State.sheaveMarked (s : State) (a i : Nat) (report : SheaveState) : State :=
  s.updStation a fun r => { r with sheaveActive := r.sheaveActive.set i (decide (report ≠ .ok)) }

theorem sheaveFollow_eq (s : State) (a i : Nat) (report : SheaveState) : s.sheaveFollow a i report =
    if report ≠ .ok ∧ ¬ ((s.stationRec a).sheaveActive[i]?).getD false = true then
      (s.sheaveMarked a i report).raiseCause .rpdRemote .fast (4 * a + i)
    else if ((s.stationRec a).sheaveActive[i]?).getD false = true ∧ report = .ok then
      (s.sheaveMarked a i report).endCause .rpdRemote (4 * a + i)
    else s.sheaveMarked a i report := by
  unfold State.sheaveFollow State.sheaveMarked sheaveIndex
  simp only [decide_eq_true_eq, not_not]

theorem sheaveFollow_stn : (s.sheaveFollow a i report).stn = (s.sheaveMarked a i report).stn := by
  rw [sheaveFollow_eq]
  split
  · exact (raiseCause_changes ..).stn_eq
  split
  · exact (endCause_changes ..).stn_eq
  · rfl

theorem sheaveFollow_rec (ha : a < s.stn.records.length) : (s.sheaveFollow a i report).stationRec a =
    { s.stationRec a with sheaveActive := (s.stationRec a).sheaveActive.set i (decide (report ≠ .ok)) } := by
  rw [stationRec_congr sheaveFollow_stn, State.sheaveMarked, stationRec_updStation_same _ ha]

theorem State.OnlyStation.sheaveFollow (h : s.OnlyStation t a) : s.OnlyStation (t.sheaveFollow a i report) a :=
  State.OnlyStation.of_stn (State.OnlyStation.updStation h) sheaveFollow_stn

theorem sheaveFollow_raises : s.Raises (s.sheaveFollow a i report) 1 := by
  have hmark : s.Raises (s.sheaveMarked a i report) 0 := (State.Raises.refl s).frame (updStation_changes ..)
  rw [sheaveFollow_eq]
  exact .ite hmark.raiseCause (.ite (hmark.endCause.mono (Nat.zero_le 1)) (hmark.mono (Nat.zero_le 1)))

theorem sheaveFollow_sameCause {code : CauseCode} {index : Nat} (hne : ¬ (code = .rpdRemote ∧ index = 4 * a + i)) :
    s.SameCause (s.sheaveFollow a i report) code index := by
  have hmark : s.SameCause (s.sheaveMarked a i report) code index := (State.SameCause.refl s).frame (updStation_changes ..)
  rw [sheaveFollow_eq]
  exact .ite (hmark.raiseCause hne) (.ite (hmark.endCause hne) hmark)

/-- A sheave that stops being OK raises its cause (R115). -/
theorem sheaveFollow_lists (hwas : (s.stationRec a).sheaveActive[i]? = some false) (hbad : report ≠ .ok)
    (hroom : s.msv.causes.length < 31) : (s.sheaveFollow a i report).Lists .rpdRemote (4 * a + i) .activeUnacked := by
  rw [sheaveFollow_eq, if_pos ⟨hbad, by simp [hwas]⟩]
  exact raiseCause_lists hroom

/-- A sheave that is OK again ends it (R115). -/
theorem sheaveFollow_ended (hok : s.CausesOk) (hwas : (s.stationRec a).sheaveActive[i]? = some true) (hgood : report = .ok) :
    (s.sheaveFollow a i report).NoneActive .rpdRemote (4 * a + i) := by
  rw [sheaveFollow_eq, if_neg (fun h => h.1 hgood), if_pos ⟨by simp [hwas], hgood⟩]
  exact endCause_noneActive (hok.of_msv_eq rfl)

/-! ## The sheaves of a report, from sheave 1 up (R115) -/

/-- The sheaves of a report, each followed in turn. -/
def State.followSheaves (s : State) (a : Nat) (l : List (Nat × SheaveState)) : State :=
  l.foldl (fun t p => t.sheaveFollow a p.1 p.2) s

variable {l : List (Nat × SheaveState)}

theorem State.OnlyStation.followSheaves (h : s.OnlyStation t a) : s.OnlyStation (t.followSheaves a l) a := by
  induction l generalizing t with
  | nil => exact h
  | cons p rest ih => exact ih h.sheaveFollow

/-- The report changes no field of the record but the marks of the sheaves. -/
theorem followSheaves_rec (ha : a < s.stn.records.length) : ∃ marks,
    (s.followSheaves a l).stationRec a = { s.stationRec a with sheaveActive := marks } ∧
      marks.length = (s.stationRec a).sheaveActive.length := by
  induction l generalizing s with
  | nil => exact ⟨_, rfl, rfl⟩
  | cons p rest ih =>
    have hstep := sheaveFollow_rec (i := p.1) (report := p.2) ha
    obtain ⟨marks, hrec, hlen⟩ := ih (s := s.sheaveFollow a p.1 p.2) (by
      rw [(State.OnlyStation.sheaveFollow .refl).length]; exact ha)
    refine ⟨marks, ?_, ?_⟩
    · rw [State.followSheaves, List.foldl_cons]
      refine hrec.trans ?_
      rw [hstep]
    · rw [hlen, hstep, List.length_set]

theorem followSheaves_raises : s.Raises (s.followSheaves a l) l.length := by
  induction l generalizing s with
  | nil => exact .refl s
  | cons p rest ih => exact (sheaveFollow_raises.trans ih).mono (by simp [Nat.add_comm])

theorem followSheaves_sameCause {code : CauseCode} {index : Nat}
    (hne : ¬ (code = .rpdRemote ∧ ∃ p ∈ l, index = 4 * a + p.1)) : s.SameCause (s.followSheaves a l) code index := by
  induction l generalizing s with
  | nil => exact .refl s
  | cons p rest ih =>
    have hstep : s.SameCause (s.sheaveFollow a p.1 p.2) code index :=
      sheaveFollow_sameCause fun h => hne ⟨h.1, p, List.mem_cons_self, h.2⟩
    exact hstep.trans (ih fun ⟨hc, q, hq, hi⟩ => hne ⟨hc, q, List.mem_cons_of_mem _ hq, hi⟩)

theorem sheaveFollow_mark_ne {j : Nat} (ha : a < s.stn.records.length) (hne : i ≠ j) :
    ((s.sheaveFollow a i report).stationRec a).sheaveActive[j]? = (s.stationRec a).sheaveActive[j]? := by
  rw [sheaveFollow_rec ha]
  exact List.getElem?_set_ne hne

/-- Every sheave of the report has its mark (R115). -/
theorem followSheaves_marks (ha : a < s.stn.records.length) (hnodup : (l.map (·.1)).Nodup) :
    (∀ j, (∀ p ∈ l, p.1 ≠ j) → ((s.followSheaves a l).stationRec a).sheaveActive[j]? =
      (s.stationRec a).sheaveActive[j]?) ∧
    ∀ p ∈ l, p.1 < (s.stationRec a).sheaveActive.length →
      ((s.followSheaves a l).stationRec a).sheaveActive[p.1]? = some (decide (p.2 ≠ .ok)) := by
  induction l generalizing s with
  | nil => exact ⟨fun _ _ => rfl, fun p hp => absurd hp List.not_mem_nil⟩
  | cons x rest ih =>
    obtain ⟨hx, hrest⟩ := List.nodup_cons.mp hnodup
    have hstep := sheaveFollow_rec (i := x.1) (report := x.2) ha
    have hlen : a < (s.sheaveFollow a x.1 x.2).stn.records.length := by
      rw [(State.OnlyStation.sheaveFollow .refl).length]; exact ha
    obtain ⟨hother, hmark⟩ := ih hlen hrest
    refine ⟨fun j hj => ?_, fun p hp hlt => ?_⟩
    · refine (hother j fun p hp => hj p (List.mem_cons_of_mem _ hp)).trans ?_
      exact sheaveFollow_mark_ne ha (hj x List.mem_cons_self)
    · rcases List.mem_cons.mp hp with rfl | hp
      · refine (hother p.1 fun q hq heq => hx (List.mem_map.mpr ⟨q, hq, heq⟩)).trans ?_
        rw [hstep]
        exact List.getElem?_set_self hlt
      · refine hmark p hp ?_
        rw [hstep, List.length_set]
        exact hlt

/-- Every sheave of the report has its cause raised or ended (R115). -/
theorem followSheaves_causes (ha : a < s.stn.records.length) (hnodup : (l.map (·.1)).Nodup) (hok : s.CausesOk)
    (hroom : s.msv.causes.length + l.length ≤ 31) : ∀ p ∈ l,
      ((s.stationRec a).sheaveActive[p.1]? = some false → p.2 ≠ .ok →
        (s.followSheaves a l).Lists .rpdRemote (4 * a + p.1) .activeUnacked) ∧
      ((s.stationRec a).sheaveActive[p.1]? = some true → p.2 = .ok →
        (s.followSheaves a l).NoneActive .rpdRemote (4 * a + p.1)) := by
  induction l generalizing s with
  | nil => exact fun p hp => absurd hp List.not_mem_nil
  | cons x rest ih =>
    obtain ⟨hx, hrest⟩ := List.nodup_cons.mp hnodup
    rw [List.length_cons] at hroom
    have hraise := sheaveFollow_raises (s := s) (a := a) (i := x.1) (report := x.2)
    have hlen : a < (s.sheaveFollow a x.1 x.2).stn.records.length := by
      rw [(State.OnlyStation.sheaveFollow .refl).length]; exact ha
    intro p hp
    rcases List.mem_cons.mp hp with rfl | hp
    · have hsame : (s.sheaveFollow a p.1 p.2).SameCause (s.followSheaves a (p :: rest)) .rpdRemote (4 * a + p.1) :=
        followSheaves_sameCause fun ⟨_, q, hq, hi⟩ => hx (List.mem_map.mpr ⟨q, hq, (Nat.add_left_cancel hi).symm⟩)
      refine ⟨fun hwas hbad => hsame.lists.mpr (sheaveFollow_lists hwas hbad (by omega)), fun hwas hgood => ?_⟩
      exact hsame.noneActive.mpr (sheaveFollow_ended hok hwas hgood)
    · have hne : x.1 ≠ p.1 := fun heq => hx (List.mem_map.mpr ⟨p, hp, heq.symm⟩)
      have := ih hlen hrest (hraise.ok hok) (by have := hraise.length; omega) p hp
      rwa [sheaveFollow_mark_ne ha hne] at this

/-! ## The requests of a report (R116) -/

/-- The reported request takes the place of the active ones (R116). -/
def State.requestsFollow (s : State) (a : Nat) (wasService wasFast service fast : Bool) : State :=
  (((s.requestRaise a .service wasService service).requestRaise a .fast wasFast fast).requestEnd a .service wasService
    service).requestEnd a .fast wasFast fast

variable {category : Category} {was wanted : Bool}

theorem requestRaise_raises (hc : category ∈ CauseCode.remoteTrip.categories := by decide) :
    s.Raises (s.requestRaise a category was wanted) 1 :=
  .ite (State.Raises.raiseCause (State.Raises.refl s) hc) ((State.Raises.refl s).mono (Nat.zero_le 1))

theorem requestEnd_raises : s.Raises (s.requestEnd a category was wanted) 0 :=
  .ite (State.Raises.endCause (State.Raises.refl s)) (State.Raises.refl s)

theorem requestRaise_sameCause {code : CauseCode} {index : Nat}
    (hne : ¬ (code = .remoteTrip ∧ index = remoteIndex a category)) :
    s.SameCause (s.requestRaise a category was wanted) code index :=
  .ite (State.SameCause.raiseCause (.refl s) hne) (.refl s)

theorem requestEnd_sameCause {code : CauseCode} {index : Nat}
    (hne : ¬ (code = .remoteTrip ∧ index = remoteIndex a category)) :
    s.SameCause (s.requestEnd a category was wanted) code index :=
  .ite (State.SameCause.endCause (.refl s) hne) (.refl s)

theorem requestRaise_of_was (h : was = true) : s.requestRaise a category was wanted = s :=
  if_neg fun hb => hb.2 h

theorem requestRaise_unwanted (h : wanted = false) : s.requestRaise a category was wanted = s :=
  if_neg (by simp [h])

theorem requestEnd_of_wanted (h : wanted = true) : s.requestEnd a category was wanted = s :=
  if_neg fun hb => hb.2 h

theorem requestEnd_of_not_was (h : was = false) : s.requestEnd a category was wanted = s :=
  if_neg (by simp [h])

theorem requestRaise_lists (hwas : was = false) (hwanted : wanted = true) (hroom : s.msv.causes.length < 31) :
    (s.requestRaise a category was wanted).Lists .remoteTrip (remoteIndex a category) .activeUnacked := by
  rw [State.requestRaise, if_pos ⟨hwanted, by simp [hwas]⟩]
  exact raiseCause_lists hroom

theorem requestEnd_noneActive (hok : s.CausesOk) (hwas : was = true) (hwanted : wanted = false) :
    (s.requestEnd a category was wanted).NoneActive .remoteTrip (remoteIndex a category) := by
  rw [State.requestEnd, if_pos ⟨hwas, by simp [hwanted]⟩]
  exact endCause_noneActive hok

variable {wasService wasFast service fast : Bool}

theorem remoteIndex_ne : remoteIndex a .service ≠ remoteIndex a .fast := by
  have h1 : remoteIndex a .service = a := rfl
  have h2 : remoteIndex a .fast = 16 + a := rfl
  omega

theorem requestsFollow_frame : ChangesOnly s Part.ofCause (s.requestsFollow a wasService wasFast service fast) :=
  (((requestRaise_changes s ..).then (requestRaise_changes ..)).then (requestEnd_changes ..)).then
    (requestEnd_changes ..)

theorem requestsFollow_sameCause {code : CauseCode} {index : Nat} (hne : code ≠ .remoteTrip) :
    s.SameCause (s.requestsFollow a wasService wasFast service fast) code index :=
  (((requestRaise_sameCause fun h => hne h.1).trans (requestRaise_sameCause fun h => hne h.1)).trans
    (requestEnd_sameCause fun h => hne h.1)).trans (requestEnd_sameCause fun h => hne h.1)

/-- What the reported request does to the causes of both categories (R116). -/
theorem requestsFollow_causes (hok : s.CausesOk) (hroom : s.msv.causes.length < 30) :
    (wasFast = false → fast = true →
      (s.requestsFollow a wasService wasFast service fast).Lists .remoteTrip (16 + a) .activeUnacked) ∧
    (wasFast = true → fast = false →
      (s.requestsFollow a wasService wasFast service fast).NoneActive .remoteTrip (16 + a)) ∧
    (wasService = false → service = true →
      (s.requestsFollow a wasService wasFast service fast).Lists .remoteTrip a .activeUnacked) ∧
    (wasService = true → service = false →
      (s.requestsFollow a wasService wasFast service fast).NoneActive .remoteTrip a) := by
  let s1 := s.requestRaise a .service wasService service
  let s2 := s1.requestRaise a .fast wasFast fast
  let s3 := s2.requestEnd a .service wasService service
  have h1 : s.Raises s1 1 := requestRaise_raises
  have h2 : s.Raises s2 2 := h1.trans requestRaise_raises
  have h3 : s.Raises s3 2 := h2.trans requestEnd_raises
  have hraised : s1.msv.causes.length < 31 := Nat.lt_of_le_of_lt h1.length (by omega)
  have hfast : s3.SameCause (s.requestsFollow a wasService wasFast service fast) .remoteTrip (remoteIndex a .service) :=
    requestEnd_sameCause fun h => remoteIndex_ne h.2
  refine ⟨fun hwas hfast => ?_, fun hwas hfast => ?_, fun hwas hservice => ?_, fun hwas hservice => ?_⟩
  · have hend : s.requestsFollow a wasService wasFast service fast = s3 := requestEnd_of_not_was hwas
    have hsame : s2.SameCause s3 .remoteTrip (remoteIndex a .fast) :=
      requestEnd_sameCause fun h => remoteIndex_ne h.2.symm
    rw [hend]
    exact hsame.lists.mpr (requestRaise_lists hwas hfast hraised)
  · exact requestEnd_noneActive (h3.ok hok) hwas hfast
  · have hend : s3 = s2 := requestEnd_of_not_was hwas
    have hsame : s1.SameCause s2 .remoteTrip (remoteIndex a .service) :=
      requestRaise_sameCause fun h => remoteIndex_ne h.2
    refine hfast.lists.mpr ?_
    rw [hend]
    exact hsame.lists.mpr (requestRaise_lists hwas hservice (by omega))
  · exact hfast.noneActive.mpr (requestEnd_noneActive (h2.ok hok) hwas hservice)

/-! ## The frame and its record (R112, R114) -/

theorem silencePeriod_live (ha : 1 ≤ a) (hpresent : s.present a = true) : s.silencePeriod a .live =
    if s.lnc.state = .inBreak then none else some (s.now + s.sst.active.line.silence a) := by
  unfold State.silencePeriod
  dsimp only
  simp [hpresent, Nat.ne_of_gt ha]

theorem present_congr (h : t.sst = s.sst) (a : Nat) : t.present a = s.present a := by simp only [State.present, h]

/-- A STATUS makes a station LIVE and restarts its timer (R112, R114). -/
theorem received_report_live (ha : a < s.stn.records.length) (hlow : 1 ≤ a) (hpresent : s.present a = true)
    (hstate : (s.stationRec a).state ≠ .excluded) : ∃ n time up, (s.received a true).stationRec a =
      { s.stationRec a with
        frames := n, lastHeard := time, state := .live, upSince := up
        timer := if s.lnc.state = .inBreak then none else some (s.now + s.sst.active.line.silence a) } := by
  let u := (s.updLnc fun l => { l with received := l.received + 1 }).hear a
  have hu : ChangesOnly s [.lnc, .stn] u := (updLnc_changes s _).weaken.then (hear_changes ..)
  have hlnc : u.lnc.state = s.lnc.state := rfl
  have hrec : u.stationRec a = { s.stationRec a with
    frames := (s.stationRec a).frames + 1, lastHeard := some s.clockTime } := hear_rec (s := s.updLnc _) ha
  have hlen : a < u.stn.records.length := by
    rw [(State.OnlyStation.hear (s := s.updLnc _) (a := a)).length]
    exact ha
  have hpresent' : u.present a = true := (present_congr hu.sst_eq a).trans hpresent
  have htimer := silencePeriod_live hlow hpresent'
  rw [hlnc, hu.now_eq, hu.sst_eq] at htimer
  have hrun : s.received a true = u.frameState a true := by
    have h : s.received a true = if s.present a = true then u.frameState a true else u.noteUnexpected a := rfl
    rw [h, if_pos hpresent]
  have hstate' : (u.stationRec a).state = (s.stationRec a).state := by rw [hrec]
  rw [hrun]
  unfold State.frameState
  split
  · exact ⟨_, _, _, by rw [setStation_rec hlen, htimer, hrec]⟩
  · next hlive =>
    refine ⟨(s.stationRec a).frames + 1, some s.clockTime, (s.stationRec a).upSince, ?_⟩
    rw [stationRec_updStation_same _ hlen, htimer, hrec, ← hlive, hstate']
  · exact ⟨_, _, _, by rw [if_pos rfl, setStation_rec hlen, htimer, hrec]⟩
  · next hex => exact absurd (hstate' ▸ hex) hstate

/-- A STATUS of an EXCLUDED station is heard, and no more (R114). -/
theorem received_excluded (ha : a < s.stn.records.length) (hpresent : s.present a = true)
    (hstate : (s.stationRec a).state = .excluded) (report : Bool) : ∃ n time, (s.received a report).stationRec a =
      { s.stationRec a with frames := n, lastHeard := time } ∧ ChangesOnly s [.stn, .lnc] (s.received a report) := by
  let u := (s.updLnc fun l => { l with received := l.received + 1 }).hear a
  have hu : ChangesOnly s [.stn, .lnc] u := (updLnc_changes s _).weaken.then (hear_changes ..)
  have hrec : u.stationRec a = { s.stationRec a with
    frames := (s.stationRec a).frames + 1, lastHeard := some s.clockTime } := hear_rec (s := s.updLnc _) ha
  have hrun : s.received a report = u := by
    have h : s.received a report = if s.present a = true then u.frameState a report else u.noteUnexpected a := rfl
    have hex : (u.stationRec a).state = .excluded := by rw [hrec]; exact hstate
    rw [h, if_pos hpresent, State.frameState, hex]
  rw [hrun]
  exact ⟨_, _, hrec, hu⟩

theorem setStation_live_raises (ev : StationEvent) : s.Raises (s.setStation a .live ev) 0 := by
  have htold : s.Raises (s.stationTold a .live ev) 0 :=
    ((State.Raises.refl s).frame (updStation_changes ..)).frame stationTold_frame
  rw [setStation_eq, State.silentCause, if_neg StationState.noConfusion]
  exact .ite htold.endCause htold

/-- A frame raises no cause. -/
theorem received_raises (reported : Bool) : s.Raises (s.received a reported) 0 := by
  have hframe : ∀ t : State, t.Raises (t.frameState a reported) 0 := fun t => by
    unfold State.frameState
    split
    · exact setStation_live_raises ..
    · exact (State.Raises.refl t).frame (updStation_changes ..)
    · exact .ite (setStation_live_raises ..) (.refl t)
    · exact .refl t
  have hheard := ((State.Raises.refl s (n := 0)).frame (updLnc_changes s fun l => { l with received := l.received + 1 })).frame
    (hear_changes _ a)
  exact State.Raises.trans (n := 0) hheard (.ite (hframe _) ((State.Raises.refl _).frame (noteUnexpected_changes ..)))

/-! ## The whole report -/

/-- The reports of the sheaves that the line plan counts. -/
def sheaveReports (count : Nat) (b0 : Byte) : List (Nat × SheaveState) :=
  ((List.range 4).zip (reportedSheaves b0)).take count

theorem takeStatus_excluded {b0 b1 : Byte} (hpresent : s.present a = true) (h : (s.stationRec a).state = .excluded) :
    s.takeStatus a b0 b1 = s.updStation a (recordStatus (s.sst.active.line.sheaveCount a) b0 b1) := by
  unfold State.takeStatus
  dsimp only
  rw [if_neg (by simp [hpresent]), if_pos h]

/-- A report of a station that is not EXCLUDED, recorded, then followed by the causes (R114 to R116, R118). -/
theorem takeStatus_followed {b0 b1 : Byte} (hpresent : s.present a = true) (h : (s.stationRec a).state ≠ .excluded) :
    s.takeStatus a b0 b1 =
      ((((s.updStation a (recordStatus (s.sst.active.line.sheaveCount a) b0 b1)).followSheaves a
        (sheaveReports (s.sst.active.line.sheaveCount a) b0)).requestsFollow a (s.stationRec a).reqService
          (s.stationRec a).reqFast (decide (reportedRequest b1 = 1)) (decide (2 ≤ reportedRequest b1)))).faultChange a
            (s.stationRec a).fault (decide (b1.toNat / 16 % 2 = 1)) := by
  unfold State.takeStatus
  dsimp only
  rw [if_neg (by simp [hpresent]), if_neg h]
  rfl

/-! The bytes of a report (R193). -/

theorem reportedSheaves_getElem? (b0 : Byte) (hi : i < 4) :
    (reportedSheaves b0)[i]? = some (sheaveOf (b0.toNat / 4 ^ (3 - i) % 4)) := by
  have hlt := b0.isLt
  have htop : b0.toNat / 64 % 4 = b0.toNat / 64 := Nat.mod_eq_of_lt (by omega)
  interval_cases i
  · rw [show 4 ^ (3 - 0) = 64 from rfl, htop]
    rfl
  · rfl
  · rfl
  · simp [reportedSheaves]

theorem recordSheaves_getElem? (old : List SheaveState) (count : Nat) (b0 : Byte) (hi : i < 4) :
    (recordSheaves count old (reportedSheaves b0))[i]? =
      if i < count then some (sheaveOf (b0.toNat / 4 ^ (3 - i) % 4)) else old[i]? := by
  have hlen : (reportedSheaves b0).length = 4 := rfl
  unfold recordSheaves
  split
  · next h =>
    rw [List.getElem?_append_left (by rw [List.length_take, hlen]; omega), List.getElem?_take_of_lt h,
      reportedSheaves_getElem? b0 hi]
  · next h =>
    rw [List.getElem?_append_right (by rw [List.length_take, hlen]; omega), List.length_take, hlen, List.getElem?_drop]
    congr 1
    omega

theorem sheaveReports_mem {count : Nat} (b0 : Byte) (hi : i < 4) (hcount : i < count) :
    (i, sheaveOf (b0.toNat / 4 ^ (3 - i) % 4)) ∈ sheaveReports count b0 := by
  refine List.mem_of_getElem? (i := i) ?_
  rw [sheaveReports, List.getElem?_take_of_lt hcount, List.getElem?_zip_eq_some]
  exact ⟨List.getElem?_range hi, reportedSheaves_getElem? b0 hi⟩

theorem sheaveReports_nodup (count : Nat) (b0 : Byte) : ((sheaveReports count b0).map (·.1)).Nodup := by
  have hall : ((List.range 4).zip (reportedSheaves b0)).map (·.1) = [0, 1, 2, 3] := rfl
  rw [sheaveReports, List.map_take, hall]
  exact (List.take_sublist ..).nodup (by decide)

theorem sheaveReports_length (count : Nat) (b0 : Byte) : (sheaveReports count b0).length ≤ 4 :=
  List.length_take_le' ..

end

/-- Settles O37: the record by its fields, then the causes of a station that is not EXCLUDED. -/
theorem statusReportsStation : Obligations.StatusReportsStation := by
  intro s a dest b0 b1 rest hlow hhigh hdest hrest1 hrest2 hlen hpresent hmarks hsheaves count sheave
  have ha : a < s.stn.records.length := by omega
  have hok : addressOk a = true := by simp [addressOk, hlow, hhigh]
  let f : RxFrame := ⟨a, dest, b0 :: b1 :: rest⟩
  let v := s.received a true
  have hforUs : frameForUs f = true := by simpa [frameForUs, f] using hdest
  have hrun : s.receiveStatus f = (v.takeStatus a b0 b1).endReception := by
    obtain ⟨x, tail, rfl⟩ : ∃ x tail, rest = x :: tail := List.exists_cons_of_length_pos hrest1
    have hcounted := receive_counted (s := s) (f := f) (report := true) (contents := (·.takeStatus a b0 b1))
      (by simp only [f, List.length_cons] at hrest2 ⊢; omega) hok (by rcases hdest with h | h <;> simp [f, h])
    rw [hforUs] at hcounted
    exact hcounted
  have hv : s.OnlyStation v a := State.OnlyStation.received
  have hvlen : a < v.stn.records.length := by rw [hv.length]; exact ha
  have hvsst : v.sst = s.sst :=
    ((updLnc_changes s _).weaken.then (stationFrame_changes _ a true) : ChangesOnly s (.stn :: Part.ofCause) v).sst_eq
  have hvpresent : v.present a = true := (present_congr hvsst a).trans hpresent
  have hcount : v.sst.active.line.sheaveCount a = count := by rw [hvsst]
  have hend := endReception_changes (v.takeStatus a b0 b1)
  have hstn : (finish s (s.receiveStatus f)).stn = (v.takeStatus a b0 b1).stn := by
    rw [finish_stn, hrun, hend.stn_eq]
  have hmsv : (s.receiveStatus f).msv = (v.takeStatus a b0 b1).msv := by rw [hrun, hend.msv_eq]
  have hfields : ∀ r x, (v.takeStatus a b0 b1).stationRec a = { recordStatus count b0 b1 r with sheaveActive := x } →
      r.sheaves = (s.stationRec a).sheaves →
      let t := finish s (s.receiveStatus f)
      (∀ i, i < 4 → (t.stationRec a).sheaves[i]? = if i < count then some (sheave i) else (s.stationRec a).sheaves[i]?) ∧
      (t.stationRec a).reqService = decide (b1.toNat / 64 = 1) ∧ (t.stationRec a).reqFast = decide (2 ≤ b1.toNat / 64) ∧
      (t.stationRec a).hook = (if b1.toNat / 32 % 2 = 1 then .offHook else .onHook) ∧
      (t.stationRec a).fault = decide (b1.toNat / 16 % 2 = 1) := fun r x hrec hr => by
    intro t
    rw [stationRec_congr hstn, hrec]
    refine ⟨fun i hi => ?_, rfl, rfl, rfl, rfl⟩
    rw [← hr]
    exact recordSheaves_getElem? r.sheaves count b0 hi
  refine ⟨finish s (s.receiveStatus f), rfl, ChangesOnly.finish (receiveStatus_changes s f), ?_⟩
  by_cases hex : (s.stationRec a).state = .excluded
  · obtain ⟨n, time, hrec, hframe⟩ := received_excluded ha hpresent hex true
    have htake := takeStatus_excluded (s := v) (a := a) (b0 := b0) (b1 := b1) hvpresent (by rw [hrec]; exact hex)
    rw [hcount] at htake
    have hrec' : (v.takeStatus a b0 b1).stationRec a = recordStatus count b0 b1 (v.stationRec a) := by
      rw [htake, stationRec_updStation_same _ hvlen]
    obtain ⟨h1, h2, h3, h4, h5⟩ := hfields (v.stationRec a) (v.stationRec a).sheaveActive hrec' (by rw [hrec])
    refine ⟨fun x hx => ?_, h1, h2, h3, h4, h5, fun _ => ⟨?_, ?_⟩, fun h => absurd hex h⟩
    · rw [stationRec_congr hstn, htake, (State.OnlyStation.updStation hv).others x hx]
    · rw [stationRec_congr hstn, hrec', hrec]
      exact hex
    · rw [hrun, htake]
      exact ((hframe.then (updStation_changes ..)).then (endReception_changes _)).finish
  · obtain ⟨n, time, up, hrec⟩ := received_report_live ha hlow hpresent hex
    have hlive : (v.stationRec a).state ≠ .excluded := by rw [hrec]; exact StationState.noConfusion
    let w := v.updStation a (recordStatus count b0 b1)
    let x := w.followSheaves a (sheaveReports count b0)
    let y := x.requestsFollow a (s.stationRec a).reqService (s.stationRec a).reqFast (decide (reportedRequest b1 = 1))
      (decide (2 ≤ reportedRequest b1))
    have htake : v.takeStatus a b0 b1 = y.faultChange a (s.stationRec a).fault (decide (b1.toNat / 16 % 2 = 1)) := by
      rw [takeStatus_followed hvpresent hlive, hcount, hrec]
    have hwlen : a < w.stn.records.length := by rw [(State.OnlyStation.updStation hv).length]; exact ha
    have hwrec : w.stationRec a = recordStatus count b0 b1 (v.stationRec a) := stationRec_updStation_same _ hvlen
    have hwmarks : (w.stationRec a).sheaveActive = (s.stationRec a).sheaveActive := by rw [hwrec, hrec]; rfl
    obtain ⟨marks, hxrec, -⟩ := followSheaves_rec (l := sheaveReports count b0) hwlen
    have hyfault := faultChange_changes y a (s.stationRec a).fault (decide (b1.toNat / 16 % 2 = 1))
    have hystn : (v.takeStatus a b0 b1).stn = x.stn := by
      rw [htake, hyfault.stn_eq, requestsFollow_frame.stn_eq]
    have hymsv : (v.takeStatus a b0 b1).msv = y.msv := by rw [htake, hyfault.msv_eq]
    have hrec' : (v.takeStatus a b0 b1).stationRec a =
        { recordStatus count b0 b1 (v.stationRec a) with sheaveActive := marks } := by
      rw [stationRec_congr hystn, hxrec, hwrec]
    obtain ⟨h1, h2, h3, h4, h5⟩ := hfields (v.stationRec a) marks hrec' (by rw [hrec])
    obtain ⟨-, hxmarks⟩ := followSheaves_marks hwlen (sheaveReports_nodup count b0)
    refine ⟨fun k hk => ?_, h1, h2, h3, h4, h5, fun h => absurd h hex, fun _ => ⟨?_, ?_, fun i hcounted hi => ?_,
      fun hcauses hroom => ?_⟩⟩
    · rw [stationRec_congr hstn, stationRec_congr hystn,
        (State.OnlyStation.followSheaves (State.OnlyStation.updStation hv)).others k hk]
    · rw [stationRec_congr hstn, hrec', hrec]
      rfl
    · rw [stationRec_congr hstn, hrec', hrec]
      rfl
    · rw [stationRec_congr hstn, stationRec_congr hystn]
      exact hxmarks _ (sheaveReports_mem b0 hi hcounted) (by rw [hwmarks, hmarks]; exact hi)
    · have hvraises : s.Raises v 0 := received_raises true
      have hwraises : s.Raises w 0 := hvraises.frame (updStation_changes ..)
      have hxraises : s.Raises x (0 + (sheaveReports count b0).length) := hwraises.trans followSheaves_raises
      have hreports := sheaveReports_length count b0
      have hsheave := followSheaves_causes (l := sheaveReports count b0) hwlen (sheaveReports_nodup count b0)
        (hwraises.ok hcauses) (by have := hwraises.length; omega)
      obtain ⟨hf1, hf2, hs1, hs2⟩ := requestsFollow_causes (s := x) (a := a) (wasService := (s.stationRec a).reqService)
        (wasFast := (s.stationRec a).reqFast) (service := decide (reportedRequest b1 = 1))
        (fast := decide (2 ≤ reportedRequest b1)) (hxraises.ok hcauses) (by have := hxraises.length; omega)
      have hsame : ∀ i, x.SameCause y .rpdRemote i := fun i => requestsFollow_sameCause CauseCode.noConfusion
      unfold State.Lists State.NoneActive
      rw [finish_msv, hmsv, hymsv]
      refine ⟨fun i hcounted hi hwas hbad => ?_, fun i hcounted hi hwas hgood => ?_,
        fun hwas hfast => hf1 hwas (decide_eq_true hfast),
        fun hwas hfast => hf2 hwas (decide_eq_false (Nat.not_le.mpr hfast)),
        fun hwas hservice => hs1 hwas (decide_eq_true hservice),
        fun hwas hservice => hs2 hwas (decide_eq_false hservice)⟩
      · exact (hsame _).lists.mpr ((hsheave _ (sheaveReports_mem b0 hi hcounted)).1 (by rw [hwmarks]; exact hwas) hbad)
      · exact (hsame _).noneActive.mpr
          ((hsheave _ (sheaveReports_mem b0 hi hcounted)).2 (by rw [hwmarks]; exact hwas) hgood)

end Sys2Proof.Machine
end

section
/-! PROOF. A step, the state after power-up, and the bits of a line frame (O55, O56, O60). -/

namespace Sys2Proof.Machine

-- One lemma at a time, as in Laws/State.lean.
set_option Elab.async false

open Sys2Proof

/-- Settles O55: both clauses are the definition of a step. -/
theorem stepRunsFrontCommand : Obligations.StepRunsFrontCommand := by
  refine ⟨fun c rest s => rfl, fun s hpending => ⟨s.idle, by rw [step, hpending], rfl⟩⟩

/-- The target of the part after power-up is the default ceiling, since no limit applies (R156). -/
theorem reset_ceilingTarget : State.reset.msv.target = State.reset.ceilingTarget := by decide

theorem reset_obeys : State.reset.Obeys where
  chain := rfl
  fast := by decide
  latched := by decide
  target := reset_ceilingTarget
  ceiling := by decide
  speedRef := by decide

theorem reset_causesOk : State.reset.CausesOk := ⟨by decide, by decide⟩

theorem reset_sized : State.reset.Sized where
  track := by decide
  fleet := List.length_replicate
  queue := by decide
  calls := by decide
  causes := by decide
  contexts := List.length_replicate
  journal := by decide
  stations := by decide
  sheaves := by decide
  revisions := List.length_replicate
  locks := List.length_replicate

theorem reset_named : State.reset.Named where
  entries := List.nodup_nil
  fresh := fun _ he => absurd he List.not_mem_nil
  z3 := by decide
  calls := List.nodup_nil
  nextCall := ⟨by decide, by decide, fun _ hr => absurd hr List.not_mem_nil⟩
  callRange := fun _ hr => absurd hr List.not_mem_nil
  waiting := fun _ hr => absurd hr List.not_mem_nil
  speed := by decide

theorem reset_consistent : State.reset.Consistent := ⟨by decide, by decide, by decide⟩

/-- Settles O56: the state is written out, so each clause is read off it. -/
theorem resetIsInOrder : Obligations.ResetIsInOrder := by
  refine ⟨reset_mem_wf, reset_obeys, reset_causesOk, reset_sized, reset_named, reset_consistent, rfl, rfl, ?_, rfl,
    rfl, rfl, rfl, rfl⟩
  exact ⟨_, List.mem_singleton_self _, by decide, rfl⟩

/-! # Fields of a frame as bits (R92) -/

section
variable {n width : Nat} {rest : List Bool}

@[simp] theorem length_bitsMsb : (bitsMsb width n).length = width := by
  induction width with
  | zero => rfl
  | succ width ih => simp [bitsMsb, ih]

theorem foldl_bitsMsb (start : Nat) : (bitsMsb width n).foldl (fun n b => 2 * n + flagNat b) start =
    start * 2 ^ width + n % 2 ^ width := by
  induction width generalizing start with
  | zero => simp [bitsMsb, Nat.mod_one]
  | succ width ih =>
    have hbit : flagNat (n / 2 ^ width % 2 == 1) = n / 2 ^ width % 2 := by
      rcases Nat.mod_two_eq_zero_or_one (n / 2 ^ width) with h | h <;> simp [h, flagNat]
    have hsplit : n % 2 ^ (width + 1) = n % 2 ^ width + 2 ^ width * (n / 2 ^ width % 2) := by
      rw [Nat.pow_succ, Nat.mod_mul]
    rw [bitsMsb, List.foldl_cons, ih, hbit, hsplit, Nat.pow_succ]
    ring

theorem numberOf_bitsMsb (h : n < 2 ^ width) : numberOf (bitsMsb width n) = n := by
  rw [numberOf, foldl_bitsMsb, Nat.zero_mul, Nat.zero_add, Nat.mod_eq_of_lt h]

theorem take_bitsMsb : (bitsMsb width n ++ rest).take width = bitsMsb width n := by
  simp

theorem drop_bitsMsb : (bitsMsb width n ++ rest).drop width = rest := by
  simp

end

@[simp] theorem length_payloadBits (payload : List Byte) : (payloadBits payload).length = 8 * payload.length := by
  induction payload with
  | nil => rfl
  | cons b rest ih => simp only [payloadBits, List.length_append, length_bitsMsb, ih, List.length_cons]; omega

theorem bytesOf_payloadBits (payload : List Byte) (rest : List Bool) :
    bytesOf payload.length (payloadBits payload ++ rest) = payload := by
  induction payload with
  | nil => rfl
  | cons b bs ih =>
    rw [List.length_cons, bytesOf, payloadBits, List.append_assoc, take_bitsMsb, drop_bitsMsb, ih,
      numberOf_bitsMsb b.isLt, BitVec.ofNat_toNat, BitVec.setWidth_eq]

theorem length_message (f : LineFrame) : f.message.length = 21 + 8 * f.payload.length := by
  simp [LineFrame.message]
  omega

/-! # Stuffing (R94) -/

/-- Destuffing follows the runs that stuffing made: below six, both have seen the same run. -/
theorem unstuffFrom_stuffFrom (bits : List Bool) : ∀ (last : Bool) (run : Nat), run < 6 →
    unstuffFrom last run (stuffFrom last run bits) = some bits := by
  induction bits with
  | nil => intros; rfl
  | cons b rest ih =>
    intro last run hrun
    have hne : run ≠ 6 := by omega
    by_cases hb : b = last
    · subst hb
      by_cases hfull : run + 1 = 6
      · have hstuff : (!b) ≠ b := by cases b <;> decide
        simp [stuffFrom, unstuffFrom, hfull, hne, hstuff, ih]
      · simp [stuffFrom, unstuffFrom, hfull, hne, ih b (run + 1) (by omega)]
    · simp [stuffFrom, unstuffFrom, hb, hne, ih]

theorem unstuff_stuff (bits : List Bool) : unstuff (stuff bits) = some bits :=
  unstuffFrom_stuffFrom bits true 0 (by decide)

/-! # The checks of a receiver (R97) -/

/-- The fields behind the start bit, in the order in which a receiver cuts them off. -/
theorem LineFrame.fields (f : LineFrame) : f.message ++ bitsMsb 16 (crcOf f.message).toNat =
    bitsMsb 4 f.priority ++ (bitsMsb 4 f.sender ++ (bitsMsb 4 f.dest ++ (bitsMsb 4 f.kind ++
      (bitsMsb 5 f.payload.length ++ (payloadBits f.payload ++ bitsMsb 16 (crcOf f.message).toNat))))) := by
  conv_lhs => arg 1; rw [LineFrame.message]
  simp only [List.append_assoc]

section
variable {f : LineFrame}

theorem checkRegion_region (hpriority : f.priority < 16) (hlow : 1 ≤ f.sender) (hhigh : f.sender ≤ 13)
    (hdest : f.dest < 16) (hother : f.dest ≠ 14) (hkind : f.kind < 16) (hlength : f.payload.length ≤ 16) :
    checkRegion f.region = .valid f := by
  have hcheck : (crcOf f.message).toNat < 2 ^ 16 := (crcOf f.message).isLt
  have hmessage : (f.message ++ bitsMsb 16 (crcOf f.message).toNat).take (21 + 8 * f.payload.length) = f.message := by
    rw [← length_message, List.take_left]
  have htail : (f.message ++ bitsMsb 16 (crcOf f.message).toNat).drop (21 + 8 * f.payload.length) =
      bitsMsb 16 (crcOf f.message).toNat := by
    rw [← length_message, List.drop_left]
  have h4 : (f.message ++ bitsMsb 16 (crcOf f.message).toNat).drop 4 = _ :=
    (congrArg (List.drop 4) f.fields).trans drop_bitsMsb
  have h8 : (f.message ++ bitsMsb 16 (crcOf f.message).toNat).drop 8 = _ :=
    List.drop_drop.symm.trans ((congrArg (List.drop 4) h4).trans drop_bitsMsb)
  have h12 : (f.message ++ bitsMsb 16 (crcOf f.message).toNat).drop 12 = _ :=
    List.drop_drop.symm.trans ((congrArg (List.drop 4) h8).trans drop_bitsMsb)
  have h16 : (f.message ++ bitsMsb 16 (crcOf f.message).toNat).drop 16 = _ :=
    List.drop_drop.symm.trans ((congrArg (List.drop 4) h12).trans drop_bitsMsb)
  have h21 : (f.message ++ bitsMsb 16 (crcOf f.message).toNat).drop 21 = _ :=
    List.drop_drop.symm.trans ((congrArg (List.drop 5) h16).trans drop_bitsMsb)
  have hfirst : (f.message ++ bitsMsb 16 (crcOf f.message).toNat).take 4 = _ :=
    (congrArg (List.take 4) f.fields).trans take_bitsMsb
  have hpayload : f.payload.length < 2 ^ 5 := by omega
  have hsender : ¬ (f.sender = 0 ∨ f.sender = 14 ∨ f.sender = 15) := by omega
  rw [LineFrame.region, checkRegion]
  simp only [List.drop_succ_cons, List.drop_zero, hfirst, h4, h8, h12, h16, h21, take_bitsMsb,
    numberOf_bitsMsb (width := 4) hpriority, numberOf_bitsMsb (width := 4) (n := f.sender) (by omega),
    numberOf_bitsMsb (width := 4) hdest, numberOf_bitsMsb (width := 4) hkind, numberOf_bitsMsb hpayload,
    hmessage, htail, List.take_of_length_le length_bitsMsb.le, numberOf_bitsMsb hcheck, bytesOf_payloadBits]
  rw [if_neg (by omega), if_neg (fun h => h rfl), if_neg hsender, if_neg hother]

end

/-- Settles O60: stuffing is undone run by run, and the checks cut the region where the frame joined its fields. -/
theorem framesRoundTrip : Obligations.FramesRoundTrip := by
  intro f hpriority hlow hhigh hdest hother hkind hlength
  exact ⟨unstuff_stuff _, checkRegion_region hpriority hlow hhigh hdest hother hkind hlength, rfl⟩

end Sys2Proof.Machine
end

section
/-! PROOF. Two statements of the call unit fail where frame names repeat (O40, O42; R100, R101, R129, R132). The name
counter of the line is not part of any order the statements assume, so a NOTE in the queue may have the name that the
next frame gets. A pair frame that displaces that NOTE then takes the frame queued just before out of the queue with
it. In a queue whose names are distinct and older than the next one this cannot happen. -/

namespace Sys2Proof.Machine

-- One lemma at a time, as in Laws/State.lean.
set_option Elab.async false

open Sys2Proof

/-- A NOTE that waits with the name of the next frame to be queued. -/
def sameNameNote : TxFrame := ⟨0, .note, 15, [], 0, .lnc, none, false⟩

/-- Towers 7 and 11. -/
def twoTowers : LinePlan := { entryCount := 2, stations := [⟨7, 0, 0, 2500⟩, ⟨11, 0, 0, 2500⟩] }

/-- Towers 7 and 11 talk in call 1, tower 7 asks the valley in call 2, and thirteen NOTEs wait: one more frame has an
ordinary place, a second one has not. -/
def crowdedCall : State :=
  { State.reset with
    sst := { active := { line := twoTowers } }
    stn := { records := List.replicate 14 { state := .live } }
    lnc := { queue := List.replicate 13 sameNameNote, nextFid := 0 }
    cal := { nextId := 3
             table := [⟨1, 11, 7, false, .station, none, .talking, [11, 7], {}, 0, {}, none, none, false, 0, 0⟩,
                       ⟨2, 7, 0, false, .station, none, .waiting, [7], {}, 0, {}, some 60000, none, false, 0, 0⟩] } }

/-- The kinds of frame that wait after a command. -/
def kindsAfter (i : Instr) (s : State) : List FrameKind :=
  match exec i s with
  | .next t => t.lnc.queue.map (·.kind)
  | _ => []

theorem kindsAfter_eq {i : Instr} {s t : State} (h : exec i s = .next t) : kindsAfter i s = t.lnc.queue.map (·.kind) := by
  rw [kindsAfter, h]

/-- A frame of a kind that no frame has after a command is not queued. -/
theorem not_queues_of_kindsAfter {i : Instr} {s t : State} {kind : FrameKind} {dest : Nat} {payload : List Byte}
    (h : exec i s = .next t) (hkinds : kind ∉ kindsAfter i s) : ¬ t.Queues kind dest payload := by
  rintro ⟨f, hf, rfl, -, -⟩
  rw [kindsAfter_eq h] at hkinds
  exact hkinds (List.mem_map_of_mem hf)

/-- The hang-up of call 1 by tower 7 queues PAIR_RECALL, and the PAIR_GRANT of call 2 takes it out again. -/
theorem hangUp_kinds : kindsAfter (.hookReceived ⟨7, 0, [1, 0]⟩) crowdedCall = [.pairGrant] := by decide +kernel

/-- An URGENT request of tower 7 to tower 11 preempts call 1: the same loss. -/
theorem preempt_kinds : kindsAfter (.pairReqReceived ⟨7, 0, [11, 1]⟩) crowdedCall = [.pairGrant] := by decide +kernel

/-- Refutes O40: the PAIR_RECALL of the preempted call does not stay queued. -/
theorem not_requestCreatesCall : ¬ Obligations.RequestCreatesCall := by
  intro h
  obtain ⟨hstation, -, -⟩ := h crowdedCall 0 0 7 11 true (by decide) (by decide +kernel) (by decide) (by decide)
    (by decide +kernel) rfl (by decide +kernel) (by decide)
  obtain ⟨-, hpreempt, -⟩ := hstation (by decide) (by decide) rfl
  obtain ⟨t, hexec, -, hrecall, -⟩ := hpreempt _ rfl (by decide) rfl rfl (by decide) (by decide +kernel)
    (by decide +kernel)
  exact not_queues_of_kindsAfter hexec (preempt_kinds ▸ by decide) hrecall

/-- Refutes O42: the PAIR_RECALL of the call that a station hangs up does not stay queued. -/
theorem not_callEndGivesPairOn : ¬ Obligations.CallEndGivesPairOn := by
  intro h
  obtain ⟨-, -, -, -, -, hhang, -⟩ := h crowdedCall 0 7 _ _ (by decide) (by decide +kernel) rfl (by decide +kernel)
    (by decide +kernel)
  obtain ⟨t, hexec, -, hrecall, -⟩ := hhang (by decide) (by decide) (by decide) (by decide +kernel) rfl
    (.inl ⟨rfl, .inl ⟨by decide, by decide⟩⟩)
  exact not_queues_of_kindsAfter hexec (hangUp_kinds ▸ by decide) (hrecall rfl (by decide) (by decide +kernel))

end Sys2Proof.Machine
end

section
/-! PROOF. The call unit's shared operations, the announced pair state, and off-hook (O41, O43; R125, R130, R131, R135,
R136, R139, R141). -/

namespace Sys2Proof.Machine

-- One lemma at a time, as in Laws/State.lean.
set_option Elab.async false

open Sys2Proof

section
variable {s : State} {kind : FrameKind}

/-! ## Queuing (R100, R135) -/

theorem enqueue_queues (s : State) (kind : FrameKind) (dest : Nat) (payload : List Byte) (b : Block) (c : Option Nat) :
    (s.enqueue kind dest payload b c).Queues kind dest payload :=
  ⟨_, mem_insertFrame.mpr (.inl rfl), rfl, rfl, rfl⟩

theorem mem_enqueue {f : TxFrame} (h : f ∈ s.lnc.queue) (dest : Nat) (payload : List Byte) (b : Block) (c : Option Nat) :
    f ∈ (s.enqueue kind dest payload b c).lnc.queue :=
  mem_insertFrame.mpr (.inr h)

theorem length_enqueue (s : State) (kind : FrameKind) (dest : Nat) (payload : List Byte) (b : Block) (c : Option Nat) :
    (s.enqueue kind dest payload b c).lnc.queue.length = s.lnc.queue.length + 1 :=
  length_insertFrame ..

theorem pairFrame_marked (h : s.cal.breakMark = true) (dest : Nat) (payload : List Byte) :
    s.pairFrame kind dest payload = s := if_pos h

theorem pairFrame_place (hmark : s.cal.breakMark = false) (hplace : ordinaryPlace s.lnc.queue = true) (dest : Nat)
    (payload : List Byte) : s.pairFrame kind dest payload = s.enqueue kind dest payload .cal none := by
  rw [State.pairFrame, if_neg (by simp [hmark]), askFrame_place hplace]

/-! ## The holding call (R125, R126, R130) -/

section
variable {c : Cal} {r : CallRec} {rest : List CallRec}

theorem holding_cons (htable : c.table = r :: rest) (h : r.state ≠ .waiting) : c.holding = some r := by
  rw [Cal.holding, htable]
  exact if_neg h

theorem holding_waiting (htable : c.table = r :: rest) (h : r.state = .waiting) : c.holding = none := by
  rw [Cal.holding, htable]
  exact if_pos h

theorem holding_nil (htable : c.table = []) : c.holding = none := by
  rw [Cal.holding, htable]

theorem ringing_of_holding (h : c.holding = some r) : c.ringing = (!r.parties.contains 0 &&
    (r.callee = 0 || (r.callee = 15 && r.caller ≠ 0) || r.origin = .trip)) := by
  rw [Cal.ringing, h]

theorem voice_of_holding (h : c.holding = some r) : c.voice = (decide (r.state = .talking) && r.parties.contains 0) := by
  rw [Cal.voice, h]

theorem valleyHookOff_of_holding (h : c.holding = some r) : c.valleyHookOff =
    (c.table.any (fun r => r.origin = .host && r.caller = 0) || r.parties.contains 0) := by
  rw [Cal.valleyHookOff, h]

end

/-! ## The valley's outputs follow the calls (R125, R130) -/

/-- A run of the call unit that changes at most what the call view shows of the records: every core stays. -/
def Cal.sameCores (c : Cal) (l : List CallRec) : Prop := l.map (·.core) = c.table.map (·.core)

theorem noteRing_cal (s : State) : ∃ l, s.cal.sameCores l ∧ s.noteRing.cal = { s.cal with table := l } := by
  have hsame : s.cal.sameCores s.cal.table := rfl
  unfold State.noteRing
  split
  · exact ⟨_, hsame, rfl⟩
  split
  · next r _ _ =>
    refine ⟨s.cal.table.map fun x => if x.id = r.id then { x with rung := true } else x, ?_, by rw [journal_cal]; rfl⟩
    rw [Cal.sameCores, List.map_map]
    refine List.map_congr_left fun x _ => ?_
    simp only [Function.comp_apply]
    split <;> rfl
  · exact ⟨_, hsame, rfl⟩

/-- The outputs follow; the records keep their cores (R130). -/
theorem refreshValley_cal (s : State) : ∃ l, s.cal.sameCores l ∧ s.refreshValley.cal =
    { s.cal with table := l, valleyOffHook := s.cal.valleyHookOff, ringOut := s.cal.ringing
                 voiceConnect := s.cal.voice } :=
  noteRing_cal (s.updCal fun c => { c with valleyOffHook := c.valleyHookOff, ringOut := c.ringing, voiceConnect := c.voice })

theorem refreshValley_frame (s : State) : ChangesOnly s [.cal, .journal, .news] s.refreshValley := by
  have hring : ∀ t : State, ChangesOnly t [.cal, .journal, .news] t.noteRing := fun t => by
    unfold State.noteRing
    split
    · exact .refl _ _
    · exact .ite ((((updCall_changes t ..).weaken).then (setNews_changes _ _)).then (journal_changes _ ..)) (.refl _ _)
  exact (updCal_changes s _).weaken.then (hring _)

/-! ## O43: the announced pair state -/

theorem announcePair_none (h : s.cal.holding = none) : s.announcePair = s.pairFrame .pairFree 15 [] := by
  rw [State.announcePair, h]

theorem announcePair_some {r : CallRec} (h : s.cal.holding = some r) :
    s.announcePair = s.pairFrame .pairGrant 15 r.grantPayload := by
  rw [State.announcePair, h]

/-- With a place, one frame of either kind is queued. -/
theorem announcePair_place (hmark : s.cal.breakMark = false) (hplace : ordinaryPlace s.lnc.queue = true) :
    ∃ k p, s.announcePair = s.enqueue k 15 p .cal none := by
  cases h : s.cal.holding with
  | none => exact ⟨_, _, (announcePair_none h).trans (pairFrame_place hmark hplace ..)⟩
  | some r => exact ⟨_, _, (announcePair_some h).trans (pairFrame_place hmark hplace ..)⟩

end

/-- Settles O43: the expiry is the announcement with the mark cleared; the second rewrites two shown fields. -/
theorem pairStateIsAnnounced : Obligations.PairStateIsAnnounced := by
  intro s
  refine ⟨fun hnone => ⟨finish s s.reannounceExpires, rfl, ?_⟩, fun hsome hmark hplace => ?_,
    finish s s.callSeconds, rfl, ?_, (callSeconds_changes s).finish⟩
  · rw [State.reannounceExpires, if_neg (by simp [hnone])]
    exact (ChangesOnly.refl s []).finish
  · let u := s.updCal fun c => { c with reannounce := none }
    have hrun : s.reannounceExpires = u.announcePair := if_pos (Option.isSome_iff_ne_none.mpr hsome)
    obtain ⟨k, p, hqueued⟩ := announcePair_place (s := u) hmark hplace
    refine ⟨finish s s.reannounceExpires, rfl, ?_, fun hfree => ?_, fun r hr => ?_, ?_, fun f hf => ?_, ?_⟩
    · rw [finish_cal, hrun, hqueued]
      rfl
    · have hpair : s.reannounceExpires = u.enqueue .pairFree 15 [] .cal none :=
        hrun.trans ((announcePair_none (s := u) hfree).trans (pairFrame_place (s := u) hmark hplace ..))
      rw [hpair]
      exact enqueue_queues u ..
    · have hpair : s.reannounceExpires = u.enqueue .pairGrant 15 r.grantPayload .cal none :=
        hrun.trans ((announcePair_some (s := u) hr).trans (pairFrame_place (s := u) hmark hplace ..))
      rw [hpair]
      have hpayload : r.grantPayload = [BitVec.ofNat 8 r.id, BitVec.ofNat 8 r.caller, BitVec.ofNat 8 r.callee,
          if r.urgent then 1 else 0] := by
        cases hurgent : r.urgent <;> simp [CallRec.grantPayload, hurgent, flagNat, byteOf]
      exact hpayload ▸ enqueue_queues u ..
    · rw [finish_lnc, hrun, hqueued]
      exact length_enqueue u ..
    · rw [finish_lnc, hrun, hqueued]
      exact mem_enqueue (s := u) hf ..
    · rw [hrun, hqueued]
      exact ((updCal_changes s _).weaken.then (enqueue_changes ..)).finish
  · rw [finish_cal]
    refine congrArg (fun l => List.map l s.cal.table) (funext fun r => ?_)
    obtain ⟨_, _, _, _, _, _, _, _, _, _, _, wait, ring, _, _, _⟩ := r
    cases wait <;> cases ring <;> simp [State.remaining]

/-! ## O41: off-hook -/

section
variable {s : State} {r : CallRec} {rest : List CallRec} {a : Nat}

/-- A record as an answering party leaves it (R131, R139). -/
def CallRec.connected (r : CallRec) (party : Nat) (time : ClockTime) : CallRec :=
  { r with parties := r.parties ++ [party], state := .talking, stateTime := time, ringTimer := none, shownRing := 0 }

theorem find_first (htable : s.cal.table = r :: rest) : s.cal.find r.id = some r := by
  simp [Cal.find, htable]

/-- The change of the first record leaves the others. -/
theorem updCall_first (htable : s.cal.table = r :: rest) (hids : ∀ x ∈ rest, x.id ≠ r.id) (f : CallRec → CallRec) :
    (s.updCall r.id f).cal = { s.cal with table := f r :: rest } := by
  have hrest : rest.map (fun x => if x.id = r.id then f x else x) = rest := by
    rw [List.map_congr_left fun x hx => if_neg (hids x hx), List.map_id']
  have hmap : s.cal.table.map (fun x => if x.id = r.id then f x else x) = f r :: rest := by
    rw [htable, List.map_cons, if_pos rfl, hrest]
  exact congrArg (fun l => { s.cal with table := l }) hmap

/-- The answered call, with the outputs that follow. -/
def State.answeredBy (s : State) (r : CallRec) (party : Nat) : State :=
  (s.updCall r.id fun c => c.connected party s.clockTime).refreshValley

theorem answeredBy_frame : ChangesOnly s [.cal, .journal, .news] (s.answeredBy r a) :=
  (updCall_changes s ..).weaken.then (refreshValley_frame _)

theorem answeredBy_breakMark : (s.answeredBy r a).cal.breakMark = s.cal.breakMark := by
  obtain ⟨l, -, h⟩ := refreshValley_cal (s.updCall r.id fun c => c.connected a s.clockTime)
  exact (congrArg Cal.breakMark h).trans rfl

/-- What the answer leaves of the call unit. -/
theorem answeredBy_cal (htable : s.cal.table = r :: rest) (hids : ∀ x ∈ rest, x.id ≠ r.id) :
    (s.answeredBy r a).cal.table.map (·.core) = (r.id, r.caller, r.callee, r.urgent, r.origin, .talking, r.parties ++ [a],
        r.waitTimer, none, r.context) :: rest.map (·.core) ∧
      (s.answeredBy r a).cal.voiceConnect = (r.parties ++ [a]).contains 0 ∧
      ((r.parties ++ [a]).contains 0 = true →
        (s.answeredBy r a).cal.ringOut = false ∧ (s.answeredBy r a).cal.valleyOffHook = true) := by
  obtain ⟨l, hsame, hcal⟩ := refreshValley_cal (s.updCall r.id fun c => c.connected a s.clockTime)
  rw [updCall_first htable hids] at hsame hcal
  unfold State.answeredBy
  rw [hcal]
  have hhold : { s.cal with table := r.connected a s.clockTime :: rest }.holding = some (r.connected a s.clockTime) :=
    holding_cons rfl CallState.noConfusion
  refine ⟨hsame, ?_, fun hvalley => ⟨?_, ?_⟩⟩
  · exact (voice_of_holding hhold).trans (Bool.true_and _)
  · refine (ringing_of_holding hhold).trans ?_
    rw [show (r.connected a s.clockTime).parties.contains 0 = true from hvalley]
    rfl
  · refine (valleyHookOff_of_holding hhold).trans ?_
    rw [show (r.connected a s.clockTime).parties.contains 0 = true from hvalley, Bool.or_true]

theorem hookFrame_answers (htable : s.cal.table = r :: rest) (hstate : r.state = .ringing) (hcallee : r.callee = a) :
    s.hookFrame a r.id true = s.answeredBy r a := by
  unfold State.hookFrame
  rw [find_first htable]
  simp only [hstate]
  rw [if_pos (.inl hcallee.symm)]
  rfl

theorem answerCall_valley (htable : s.cal.table = r :: rest) (hstate : r.state = .ringing) (hout : 0 ∉ r.parties)
    (hcallee : r.callee = 0 ∨ r.callee = 15) :
    s.answerCall r.id = ((s.answeredBy r 0).pairFrame .hook 15 [byteOf r.id, 1], resultOk) := by
  have htalks : r.state = .ringing ∧ (r.callee = 0 ∨ r.callee = 15) := ⟨hstate, hcallee⟩
  have hallowed : ¬ (r.callee ≠ 0 ∧ r.callee ≠ 15 ∧ r.origin ≠ .trip) := by
    rintro ⟨h0, h15, -⟩
    exact hcallee.elim h0 h15
  unfold State.answerCall
  rw [find_first htable]
  dsimp only
  rw [if_neg (by rw [hstate]; exact CallState.noConfusion), if_neg (by simpa using hout), if_neg hallowed]
  simp only [htalks, and_self, if_true]
  rfl

theorem lt_of_live (h : (s.stationRec a).state = .live) : a < s.stn.records.length := by
  by_contra hge
  rw [State.stationRec, List.getElem?_eq_none (Nat.not_lt.mp hge)] at h
  exact StationState.noConfusion h

/-- A HOOK frame of a LIVE station is counted and taken (R97, R131). -/
theorem receiveHook_counted (hlow : 1 ≤ a) (hhigh : a ≤ 13) (id b : Byte) : s.receiveHook ⟨a, 0, [id, b]⟩ =
    ((s.received a false).hookFrame a id.toNat (decide (b = 1))).endReception := by
  have hok : addressOk a = true := by simp [addressOk, hlow, hhigh]
  exact receive_counted (f := ⟨a, 0, [id, b]⟩) (by simp) hok (by simp)

end

/-- Settles O41: both answers connect the call that rings; a HOOK frame of another id finds no record. -/
theorem offHookConnectsCall : Obligations.OffHookConnectsCall := by
  intro s slip a r rest hslip hwf htable hstate hid hids hlow hhigh hpresent hlive
  have hheard := received_live (report := false) (lt_of_live hlive) hpresent hlive
  have hcal := hheard.cal_eq
  refine ⟨fun hcallee => ?_, fun hcallee hout => ?_, fun id hnone => ?_⟩
  · have htable' : (s.received a false).cal.table = r :: rest := by rw [hcal, htable]
    have hbyte : (BitVec.ofNat 8 r.id).toNat = r.id := by
      rw [BitVec.toNat_ofNat]
      exact Nat.mod_eq_of_lt (by omega)
    have hrun : s.receiveHook ⟨a, 0, [BitVec.ofNat 8 r.id, 1]⟩ = ((s.received a false).answeredBy r a).endReception := by
      rw [receiveHook_counted hlow hhigh, hbyte]
      exact congrArg State.endReception (hookFrame_answers htable' hstate hcallee)
    obtain ⟨hcores, hvoice, -⟩ := answeredBy_cal (a := a) htable' hids
    have hend : ∀ t : State, t.endReception.cal = t.cal := fun t => (endReception_changes t).cal_eq
    have hne : (0 : Nat) ≠ a := by omega
    refine ⟨finish s (s.receiveHook _), rfl, ?_, ?_, ?_, ?_⟩
    · rw [finish_cal, hrun, hend, hcores]
    · rw [finish_cal, hrun, hend, hvoice]
      simp [hne]
    · obtain ⟨st, rate, n, d, hlnc⟩ := endReception_lnc (s := (s.received a false).answeredBy r a)
      rw [finish_lnc, hrun, hlnc, answeredBy_frame.lnc_eq, received_lnc]
    · rw [hrun]
      exact ((hheard.weaken.then answeredBy_frame).then (endReception_changes _)).finish
  · let u := s.answeredBy r 0
    let v := u.pairFrame .hook 15 [byteOf r.id, 1]
    have hu : ChangesOnly s [.cal, .journal, .news] u := answeredBy_frame
    have hv : ChangesOnly s lineParts v := hu.weaken.then (pairFrame_changes ..)
    obtain ⟨hcores, hvoice, houts⟩ := answeredBy_cal (a := 0) htable hids
    have hvalley : (r.parties ++ [0]).contains 0 = true := by simp
    obtain ⟨hring, hhook⟩ := houts hvalley
    obtain ⟨x, hvcal⟩ := pairFrame_cal u .hook 15 [byteOf r.id, 1]
    have hrun : s.dispatch slip (.answer r.id) = v.writeResult slip resultOk := by
      rw [dispatch_short rfl (.inr rfl)]
      exact congrArg (fun p : State × OrderResult => p.1.writeResult slip p.2)
        (answerCall_valley htable hstate hout hcallee)
    have hcal' : (s.dispatch slip (.answer r.id)).cal = { u.cal with reannounce := x } := by
      rw [hrun, (writeResult_changes ..).cal_eq]
      exact hvcal
    refine ⟨finish s (s.dispatch slip (.answer r.id)), rfl, ?_, ?_, ?_, ?_, ?_, ?_, fun hmark hplace => ?_, fun hmark => ⟨?_, ?_⟩⟩
    · rw [hrun]
      exact (hv.then (writeResult_changes ..)).finish
    · rw [finish_cal, hcal']
      exact hcores
    · rw [finish_cal, hcal']
      exact hvoice.trans hvalley
    · rw [finish_cal, hcal']
      exact hring
    · rw [finish_cal, hcal']
      exact hhook
    · exact short_answered hslip hwf hv (by decide) hrun
    · have hmark' : u.cal.breakMark = false := answeredBy_breakMark.trans hmark
      have hplace' : ordinaryPlace u.lnc.queue = true := by rw [hu.lnc_eq]; exact hplace
      have hpair : v = u.enqueue .hook 15 [byteOf r.id, 1] .cal none := pairFrame_place hmark' hplace' ..
      obtain ⟨f, hf, hq⟩ := enqueue_queues u .hook 15 [byteOf r.id, 1] .cal none
      refine ⟨f, ?_, hq⟩
      rw [finish_lnc, hrun, (writeResult_changes ..).lnc_eq, hpair]
      exact hf
    · have hquiet : v = u := pairFrame_marked (answeredBy_breakMark.trans hmark) ..
      refine finish_slipOnly ?_
      rw [hrun, hquiet]
      intro b hb
      rw [writeResult_slipOnly u slip resultOk b hb, hu.mem_eq]
    · have hquiet : v = u := pairFrame_marked (answeredBy_breakMark.trans hmark) ..
      rw [finish_lnc, hrun, (writeResult_changes ..).lnc_eq, hquiet, hu.lnc_eq]
  · have hrun : s.receiveHook ⟨a, 0, [id, 1]⟩ = (s.received a false).endReception := by
      rw [receiveHook_counted hlow hhigh]
      refine congrArg State.endReception ?_
      unfold State.hookFrame
      rw [hcal, hnone]
    refine ⟨finish s (s.receiveHook _), rfl, ?_, ?_⟩
    · rw [finish_cal, hrun, (endReception_changes _).cal_eq, hcal]
    · rw [hrun]
      exact (hheard.then (endReception_changes _)).finish

end Sys2Proof.Machine
end

section
/-! PROOF. A TRIP of a station, and the automatic trip call (O38; R114, R116, R126, R129, R130, R137). -/

namespace Sys2Proof.Machine

-- One lemma at a time, as in Laws/State.lean.
set_option Elab.async false

open Sys2Proof

/-! ## A raise in FAST of an identity that is FAST (R116, R149) -/

section
variable {s : State} {code : CauseCode} {index : Nat}

/-- Where each entry of an identity is FAST, a FAST raise of it leaves a FAST entry. -/
theorem raisedFast_hasFast {m : Msv} {c : Cause} (hfast : c.category = .fast)
    (hold : ∀ y ∈ m.causes, y.isOf c.code c.index = true → y.category = .fast) (now : ClockTime) :
    (m.raised c now).hasFast = true := by
  unfold Msv.hasFast
  by_cases hroom : m.causes.length < 31 ∨ ∃ x ∈ m.causes, x.isOf c.code c.index = true
  · obtain ⟨x, hlisted, hof, -⟩ := raisedList_lists hroom
    have hcategory : x.category = .fast := by
      rcases mem_raisedList hlisted with hx | ⟨-, -, -, hc | ⟨y, hy, hcode, hindex, hc⟩⟩
      · exact hold x hx hof
      · rw [hc, hfast]
      · rw [hc]
        exact hold y hy (Cause.isOf_iff.mpr ⟨hcode, hindex⟩)
    have hmem : x ∈ (m.raised c now).causes := hlisted
    rw [List.any_eq_true.mpr ⟨x, hmem, by simp [hcategory]⟩, Bool.true_or]
  · obtain ⟨hfull, hnone⟩ := not_or.mp hroom
    have hfind : m.causes.find? (·.isOf c.code c.index) = none :=
      List.find?_eq_none.mpr fun x hx hof => hnone ⟨x, hx, hof⟩
    simp [Msv.raised, hfind, hfull]

theorem raiseCause_fast_stopped (hold : ∀ y ∈ s.msv.causes, y.isOf code index = true → y.category = .fast) :
    (s.raiseCause code .fast index).msv.state ≠ .run ∧ (s.raiseCause code .fast index).msv.state ≠ .stoppingService := by
  have hhas : (s.msvRaised code .fast index).hasFast = true := raisedFast_hasFast rfl (by rwa [withLimit_causes]) _
  rw [raiseCause_state, stateAfter]
  split
  · exact ⟨SupState.noConfusion, SupState.noConfusion⟩
  · next hnot =>
    have hmoving := fun h => hnot ⟨hhas, h⟩
    rw [if_neg fun h => hmoving (.inl h.2)]
    exact not_or.mp hmoving

end

/-! ## What a FAST raise tells the call unit (R137, R147) -/

section
variable {s : State} {code : CauseCode} {index : Nat}

theorem askTrip_cal (s : State) (reason : CauseCode) : ∃ x, (s.askTrip reason).cal = { s.cal with reannounce := x } := by
  unfold State.askTrip
  dsimp only
  split
  · exact ⟨_, rfl⟩
  split
  · exact ⟨_, enqueue_cal ..⟩
  split
  · next f _ =>
    obtain ⟨x, hx⟩ := queueFull_cal (s.unqueue f.fid) f.kind f.dest f.context
    exact ⟨x, by rw [enqueue_cal, hx, unqueue_cal]⟩
  · exact queueFull_cal ..

/-- A FAST raise tells the call unit once, after the list and the supervisor have changed. -/
theorem raiseCause_fast_tells (s : State) (code : CauseCode) (index : Nat) : ∃ u x, ChangesOnly s supervisorParts u ∧
    (s.raiseCause code .fast index).cal = { (u.tellFast code index).cal with reannounce := x } := by
  have hlist : ∀ (f : Msv → Msv) (c : Cause) (n : Nat) (after : CauseCode) (i : Nat), ChangesOnly s supervisorParts
      (((s.updMsv f).publishCause .causeRaised c n).afterListChange after i) := fun f c n after i =>
    ((updMsv_changes s f).weaken.then (publishCause_changes ..)).then (afterListChange_changes ..)
  have hplain : s.raiseCause code .fast index = s.listRaise code .fast index .activeUnacked := rfl
  rw [hplain]
  unfold State.listRaise
  split
  · exact ⟨_, _, hlist .., rfl⟩
  split
  · exact ⟨_, _, hlist .., rfl⟩
  · unfold State.raiseOverflow State.publishAggregate
    extract_lets a
    let u := ((s.updMsv fun m => { m with aggregate := some a }).publishCause .causeRaised
      ⟨.causeOverflow, .fast, 0, a.raised, a.repeats, .clearedUnacked⟩ SubState.clearedUnacked.code).afterListChange
        .causeOverflow 0
    have hover : ∃ x, ((u.tellFast code index).when s.msv.aggregate.isNone (·.tellFast .causeOverflow 0)).cal =
        { (u.tellFast code index).cal with reannounce := x } := by
      cases s.msv.aggregate.isNone
      · exact ⟨_, rfl⟩
      · exact askTrip_cal (u.tellFast code index) .causeOverflow
    obtain ⟨x, hx⟩ := hover
    exact ⟨u, x, hlist .., hx⟩

end

/-! ## The automatic trip call into an empty table (R126, R129, R137) -/

section
variable {s : State} {a : Nat}

/-- The record of an automatic trip call. -/
def State.tripRecord (s : State) (a : Nat) : CallRec :=
  { id := s.cal.nextId, caller := 0, callee := a, urgent := true, origin := .trip, context := none, state := .waiting
    parties := [], requestTime := s.clockTime, requestAt := s.now, stateTime := s.clockTime
    waitTimer := some (s.now + 1000 * s.sst.active.line.waitTimeout), ringTimer := none, rung := false
    shownWait := s.sst.active.line.waitTimeout, shownRing := 0 }

/-- The core of the call, granted. -/
def State.tripCore (s : State) (a : Nat) :
    Nat × Nat × Nat × Bool × CallOrigin × CallState × List Nat × Timer × Timer × Option Nat :=
  (s.cal.nextId, 0, a, true, .trip, .ringing, [], none, some (s.now + 1000 * s.sst.active.line.ringTimeout), none)

/-- A grant of the only record of the table. -/
theorem grantCall_only {r : CallRec} (htable : s.cal.table = [r]) (hcontext : r.context = none) :
    (s.grantCall r).cal.table.map (·.core) = [(r.id, r.caller, r.callee, r.urgent, r.origin, .ringing, r.parties, none,
      some (s.now + 1000 * s.sst.active.line.ringTimeout), none)] := by
  unfold State.grantCall
  dsimp only
  rw [hcontext]
  dsimp only
  obtain ⟨l, hsame, hcal⟩ := refreshValley_cal _
  rw [hcal]
  refine hsame.trans ?_
  rw [pairFrame_table, State.updCal_cal, htable, List.filter_cons_of_neg (by simp)]
  rfl

theorem grantIfFree_only {r : CallRec} (htable : s.cal.table = [r]) (hstate : r.state = .waiting) :
    s.grantIfFree = s.grantCall r := by
  have hfirst : s.cal.firstWaiting = some r := by
    rw [Cal.firstWaiting, htable]
    exact List.find?_cons_of_pos (by simpa using hstate)
  rw [State.grantIfFree, holding_waiting htable hstate, hfirst]

theorem createCall_trip (htable : s.cal.table = []) :
    (s.createCall 0 a true .trip none).cal.table.map (·.core) = [s.tripCore a] ∧
      (s.createCall 0 a true .trip none).cal.ringOut = true := by
  let u := (s.updCal fun c =>
    { c with table := insertCall (s.tripRecord a) c.table
             nextId := advanceId (s.tripRecord a :: c.table) (c.table.length + 1) c.nextId }).markParties
  have hcreate : s.createCall 0 a true .trip none = u.grantIfFree.refreshValley := rfl
  have hone : u.cal.table = [s.tripRecord a] := by
    change insertCall (s.tripRecord a) s.cal.table = _
    rw [htable]
    rfl
  have hgrant : u.grantIfFree = u.grantCall (s.tripRecord a) := grantIfFree_only hone rfl
  have hcores : (u.grantCall (s.tripRecord a)).cal.table.map (·.core) = [s.tripCore a] := grantCall_only hone rfl
  obtain ⟨l, hsame, hcal⟩ := refreshValley_cal (u.grantCall (s.tripRecord a))
  rw [hcreate, hgrant, hcal]
  refine ⟨hsame.trans hcores, ?_⟩
  obtain ⟨g, htable', hg⟩ := List.map_eq_singleton_iff.mp hcores
  simp only [CallRec.core, State.tripCore, Prod.mk.injEq] at hg
  obtain ⟨-, -, -, -, horigin, hstate, hparties, -⟩ := hg
  refine (ringing_of_holding (holding_cons htable' (by rw [hstate]; exact CallState.noConfusion))).trans ?_
  simp [hparties, horigin]

end

section
variable {s : State} {a : Nat}

/-- A live station that is in no call gets the trip call at a FAST raise, where the plan enables it (R137). -/
theorem tripCall_live (hlow : 1 ≤ a) (hhigh : a ≤ 13) (hpresent : s.present a = true)
    (hlive : (s.stationRec a).state = .live) (htable : s.cal.table = []) :
    s.tripCall .remoteTrip (16 + a) =
      if s.sst.active.line.tripCallEnable then s.createCall 0 a true .trip none else s := by
  have hstation : tripStation .remoteTrip (16 + a) = some a := congrArg some (Nat.add_sub_cancel_left 16 a)
  have hcase : s.requestCase 0 a = .seekRoom := by
    unfold State.requestCase
    rw [if_neg (by simp), if_neg (by simp), if_neg (by omega), if_neg (by simp [hpresent]), if_neg (by simp [hlive]),
      if_neg (by simp [htable])]
  have hplace : s.placeCall 0 a true .trip none = s.createCall 0 a true .trip none := by
    have hroom : s.cal.roomCase true = .room := by
      unfold Cal.roomCase
      simp [holding_nil htable, htable]
    rw [State.placeCall, hroom]
  unfold State.tripCall
  rw [hstation]
  dsimp only
  rw [hcase, hplace]
  simp only [and_true]

/-- What a FAST raise of a live station's request leaves of an empty call table (R137). -/
theorem raiseCause_trip (hlow : 1 ≤ a) (hhigh : a ≤ 13) (hpresent : s.present a = true)
    (hlive : (s.stationRec a).state = .live) (htable : s.cal.table = []) :
    (s.sst.active.line.tripCallEnable = false → (s.raiseCause .remoteTrip .fast (16 + a)).cal.table = []) ∧
    (s.sst.active.line.tripCallEnable = true → (s.raiseCause .remoteTrip .fast (16 + a)).cal.ringOut = true ∧
      (s.raiseCause .remoteTrip .fast (16 + a)).cal.table.map (·.core) = [s.tripCore a]) := by
  obtain ⟨u, x, hu, hcal⟩ := raiseCause_fast_tells s .remoteTrip (16 + a)
  let v := u.askTrip .remoteTrip
  have hv : ChangesOnly s Part.ofCause v := hu.weaken.then (askTrip_changes ..)
  obtain ⟨y, hy⟩ := askTrip_cal u .remoteTrip
  have hsaid : v.cal = { s.cal with reannounce := y } := by rw [← hu.cal_eq]; exact hy
  have htable' : v.cal.table = [] := (congrArg Cal.table hsaid).trans htable
  have htold : u.tellFast .remoteTrip (16 + a) =
      if v.sst.active.line.tripCallEnable then v.createCall 0 a true .trip none else v :=
    tripCall_live (s := v) hlow hhigh ((present_congr hv.sst_eq a).trans hpresent)
      (by rw [stationRec_congr hv.stn_eq]; exact hlive) htable'
  rw [hv.sst_eq] at htold
  have hcore : v.tripCore a = s.tripCore a := by
    rw [State.tripCore, hsaid, hv.now_eq, hv.sst_eq]
    rfl
  refine ⟨fun hoff => ?_, fun hon => ?_⟩
  · rw [hcal, htold, if_neg (by simp [hoff])]
    exact htable'
  · obtain ⟨hcores, hring⟩ := createCall_trip (a := a) htable'
    rw [hcal, htold, if_pos hon]
    exact ⟨hring, hcore ▸ hcores⟩

/-! ## O38: a TRIP -/

/-- A frame that is no STATUS leaves what a station reported, and whether it is EXCLUDED or LIVE (R114). -/
theorem received_rec (ha : a < s.stn.records.length) (hpresent : s.present a = true) : ∃ n time st timer up,
    (s.received a false).stationRec a = { s.stationRec a with
      frames := n, lastHeard := time, state := st, timer := timer, upSince := up } ∧
    (st = .excluded ↔ (s.stationRec a).state = .excluded) ∧ ((s.stationRec a).state = .live → st = .live) := by
  let u := (s.updLnc fun l => { l with received := l.received + 1 }).hear a
  have hrec : u.stationRec a = { s.stationRec a with
    frames := (s.stationRec a).frames + 1, lastHeard := some s.clockTime } := hear_rec (s := s.updLnc _) ha
  have hlen : a < u.stn.records.length := by
    rw [(State.OnlyStation.hear (s := s.updLnc _) (a := a)).length]
    exact ha
  have hrun : s.received a false = u.frameState a false := by
    have h : s.received a false = if s.present a = true then u.frameState a false else u.noteUnexpected a := rfl
    rw [h, if_pos hpresent]
  have hstate : (u.stationRec a).state = (s.stationRec a).state := by rw [hrec]
  rw [hrun]
  unfold State.frameState
  split
  · next h =>
    refine ⟨_, _, _, _, _, by rw [setStation_rec hlen, hrec], ?_, fun _ => rfl⟩
    rw [← hstate, h]
    exact ⟨StationState.noConfusion, StationState.noConfusion⟩
  · next h =>
    refine ⟨_, _, (s.stationRec a).state, _, _, by rw [stationRec_updStation_same _ hlen, hrec], Iff.rfl, id⟩
  · next h => exact ⟨_, _, (s.stationRec a).state, _, _, hrec, Iff.rfl, id⟩
  · next h => exact ⟨_, _, (s.stationRec a).state, _, _, hrec, Iff.rfl, id⟩

/-- The category of a TRIP: any value but SERVICE is FAST (R116). -/
def tripCategory (b0 : Byte) : Category := if b0 = 1 then .service else .fast

/-- The record with a request added (R116). -/
def StationRec.requesting (r : StationRec) (category : Category) : StationRec :=
  if category = .fast then { r with reqFast := true } else { r with reqService := true }

/-- A request of the record. -/
def StationRec.request (r : StationRec) (category : Category) : Bool :=
  if category = .fast then r.reqFast else r.reqService

theorem requesting_reqService (r : StationRec) (b0 : Byte) :
    (r.requesting (tripCategory b0)).reqService = (r.reqService || decide (b0 = 1)) := by
  unfold tripCategory
  split
  · next h => rw [decide_eq_true h, Bool.or_true]; rfl
  · next h => rw [decide_eq_false h, Bool.or_false]; rfl

theorem requesting_reqFast (r : StationRec) (b0 : Byte) :
    (r.requesting (tripCategory b0)).reqFast = (r.reqFast || decide (b0 ≠ 1)) := by
  unfold tripCategory
  split
  · next h => rw [decide_eq_false (not_not.mpr h), Bool.or_false]; rfl
  · next h => rw [decide_eq_true h, Bool.or_true]; rfl

theorem requesting_state (r : StationRec) (category : Category) : (r.requesting category).state = r.state := by
  unfold StationRec.requesting
  split <;> rfl

/-- The station's record with its request added, before the cause is raised. -/
def State.requestMarked (s : State) (a : Nat) (category : Category) : State :=
  s.updStation a fun r => r.requesting category

theorem addRequest_eq (s : State) (a : Nat) {category : Category} (h : category = .service ∨ category = .fast) :
    s.addRequest a category =
      (s.requestMarked a category).requestRaise a category ((s.stationRec a).request category) true := by
  rcases h with rfl | rfl <;> rfl

theorem tripCategory_cases (b0 : Byte) : tripCategory b0 = .service ∨ tripCategory b0 = .fast := by
  unfold tripCategory
  split
  · exact .inl rfl
  · exact .inr rfl

/-- The journal's record of a TRIP (R118). -/
def State.tripNoted (s : State) (a : Nat) (b0 b1 : Byte) : State :=
  s.journal .stationState .stn 0 [byteOf a, byteOf StationEvent.tripReceived.code, byteOf (tripCategory b0).code, b1]

theorem takeTrip_excluded {b0 b1 : Byte} (hpresent : s.present a = true) (h : (s.stationRec a).state = .excluded) :
    s.takeTrip a b0 b1 = s.tripNoted a b0 b1 := by
  unfold State.takeTrip
  dsimp only
  rw [if_neg (by simp [hpresent]), h]
  rfl

theorem takeTrip_added {b0 b1 : Byte} (hpresent : s.present a = true) (h : (s.stationRec a).state ≠ .excluded) :
    s.takeTrip a b0 b1 = (s.addRequest a (tripCategory b0)).tripNoted a b0 b1 := by
  unfold State.takeTrip
  dsimp only
  rw [if_neg (by simp [hpresent]), decide_eq_true h]
  rfl

theorem State.OnlyStation.takeTrip {b0 b1 : Byte} (hpresent : s.present a = true) :
    s.OnlyStation (s.takeTrip a b0 b1) a := by
  by_cases h : (s.stationRec a).state = .excluded
  · rw [takeTrip_excluded hpresent h]
    exact State.OnlyStation.refl.frame (journal_changes ..)
  · rw [takeTrip_added hpresent h, addRequest_eq s a (tripCategory_cases b0)]
    have hmarked : s.OnlyStation (s.requestMarked a (tripCategory b0)) a := State.OnlyStation.updStation .refl
    exact (hmarked.frame (requestRaise_changes ..)).frame (journal_changes ..)

end

/-- A TRIP of a station to the valley or to all is counted and taken (R97, R116). -/
theorem receiveTrip_counted {s : State} {a dest : Nat} {b0 b1 : Byte} {rest : List Byte} (hlow : 1 ≤ a) (hhigh : a ≤ 13)
    (hdest : dest = 0 ∨ dest = 15) (hlen : rest.length ≤ 14) : s.receiveTrip ⟨a, dest, b0 :: b1 :: rest⟩ =
      ((s.received a false).takeTrip a b0 b1).endReception := by
  have hok : addressOk a = true := by simp [addressOk, hlow, hhigh]
  have hus : frameForUs ⟨a, dest, b0 :: b1 :: rest⟩ = true := by simpa [frameForUs] using hdest
  have hlen' : (b0 :: b1 :: rest).length ≤ 16 := by simp only [List.length_cons]; omega
  have hcounted := receive_counted (s := s) (report := false) (f := ⟨a, dest, b0 :: b1 :: rest⟩)
    (contents := (·.takeTrip a b0 b1)) hlen' hok (by dsimp only; omega)
  rw [hus] at hcounted
  exact hcounted

/-- Settles O38: the frame, the request added to the record, and the raise of a request that was not active. -/
theorem tripRaisesRemoteTrip : Obligations.TripRaisesRemoteTrip := by
  intro s a dest b0 b1 rest hlow hhigh hdest hlen hrecords hpresent
  have ha : a < s.stn.records.length := by omega
  let v := s.received a false
  let w := v.takeTrip a b0 b1
  have hrun : s.receiveTrip ⟨a, dest, b0 :: b1 :: rest⟩ = w.endReception := receiveTrip_counted hlow hhigh hdest hlen
  have hv : ChangesOnly s [.stn, .lnc, .journal, .news] v := received_frame
  have hpresent' : v.present a = true := (present_congr hv.sst_eq a).trans hpresent
  have hav : a < v.stn.records.length := by rw [(State.OnlyStation.received (s := s) (a := a) (report := false)).length]; exact ha
  obtain ⟨n, time, st, timer, up, hrec, hex, hlive⟩ := received_rec ha hpresent
  have hstate : (v.stationRec a).state = st := congrArg StationRec.state hrec
  have hend := endReception_changes w
  refine ⟨finish s (s.receiveTrip _), rfl, ?_, fun x hx => ?_, fun hexcluded => ?_, fun hincluded => ?_⟩
  · rw [hrun]
    exact ((hv.weaken.then (takeTrip_changes ..)).then hend).finish
  · have honly : s.OnlyStation w a := State.OnlyStation.received.trans (.takeTrip hpresent')
    rw [stationRec_congr (finish_stn ..), hrun, stationRec_congr hend.stn_eq]
    exact honly.others x hx
  · rw [hrun]
    have hnoted : w = v.tripNoted a b0 b1 := takeTrip_excluded hpresent' (hstate.trans (hex.mpr hexcluded))
    have hw : ChangesOnly v [.journal, .news] w := hnoted ▸ journal_changes ..
    exact ((hv.then hw).then hend).finish
  · let c := tripCategory b0
    let m := v.requestMarked a c
    let was := (v.stationRec a).request c
    have hwas : was = (s.stationRec a).request c := by
      change (v.stationRec a).request c = _
      rw [hrec]
      rfl
    have hadded : w = (m.requestRaise a c was true).tripNoted a b0 b1 := by
      refine (takeTrip_added hpresent' (hstate ▸ fun h => hincluded (hex.mp h))).trans ?_
      rw [addRequest_eq v a (tripCategory_cases b0)]
    have hraise := requestRaise_changes m a c was true
    have hnote : ChangesOnly (m.requestRaise a c was true) [.journal, .news] w := hadded ▸ journal_changes ..
    have hm : ChangesOnly s [.stn, .lnc, .journal, .news] m := hv.then (updStation_changes ..)
    have hrecm : m.stationRec a = (v.stationRec a).requesting c := stationRec_updStation_same _ hav
    have hrect : (finish s (s.receiveTrip ⟨a, dest, b0 :: b1 :: rest⟩)).stationRec a = (v.stationRec a).requesting c := by
      rw [stationRec_congr (finish_stn ..), hrun, stationRec_congr hend.stn_eq, stationRec_congr hnote.stn_eq,
        stationRec_congr hraise.stn_eq, hrecm]
    have hmsv : (finish s (s.receiveTrip ⟨a, dest, b0 :: b1 :: rest⟩)).msv = (m.requestRaise a c was true).msv := by
      rw [finish_msv, hrun, hend.msv_eq, hnote.msv_eq]
    have hcal : (finish s (s.receiveTrip ⟨a, dest, b0 :: b1 :: rest⟩)).cal = (m.requestRaise a c was true).cal := by
      rw [finish_cal, hrun, hend.cal_eq, hnote.cal_eq]
    refine ⟨?_, ?_, fun hlive' hfast hb htable => ?_, fun hok hconsistent hroom => ⟨fun hservice hb => ?_, fun hfast hb => ?_⟩⟩
    · rw [hrect, hrec]
      exact requesting_reqService ..
    · rw [hrect, hrec]
      exact requesting_reqFast ..
    · have hc : c = .fast := if_neg hb
      have hraised : m.requestRaise a c was true = m.raiseCause .remoteTrip .fast (16 + a) := by
        rw [hwas, hc]
        exact if_pos ⟨rfl, by simp [StationRec.request, hfast]⟩
      have hstatem : (m.stationRec a).state = .live := by
        rw [hrecm, requesting_state, hstate]
        exact hlive hlive'
      obtain ⟨hoff, hon⟩ := raiseCause_trip hlow hhigh ((present_congr hm.sst_eq a).trans hpresent) hstatem
        ((congrArg Cal.table hm.cal_eq).trans htable)
      have hcore : m.tripCore a = s.tripCore a := by rw [State.tripCore, hm.cal_eq, hm.now_eq, hm.sst_eq, State.tripCore]
      rw [hcore, hm.sst_eq] at hon
      rw [hm.sst_eq] at hoff
      rw [hcal, hraised]
      exact ⟨hoff, hon⟩
    · have hc : c = .service := if_pos hb
      have hwas' : was = false := hwas.trans (by rw [hc]; exact hservice)
      have hlists := requestRaise_lists (s := m) (a := a) (category := c) hwas' rfl (by rw [hm.msv_eq]; exact hroom)
      have hraised : m.requestRaise a c was true = m.raiseCause .remoteTrip .service a := by
        rw [hwas', hc]
        rfl
      refine ⟨?_, ?_⟩
      · rw [State.Lists, hmsv]
        rw [hc] at hlists
        exact hc ▸ hlists
      · rw [hmsv, hraised]
        exact raiseCause_not_run (hok.of_msv_eq hm.msv_eq)
    · have hc : c = .fast := if_neg hb
      have hwas' : was = false := hwas.trans (by rw [hc]; exact hfast)
      have hlists := requestRaise_lists (s := m) (a := a) (category := c) hwas' rfl (by rw [hm.msv_eq]; exact hroom)
      have hraised : m.requestRaise a c was true = m.raiseCause .remoteTrip .fast (16 + a) := by
        rw [hwas', hc]
        rfl
      have hold : ∀ y ∈ m.msv.causes, y.isOf .remoteTrip (16 + a) = true → y.category = .fast := by
        rw [hm.msv_eq]
        intro y hy hof
        obtain ⟨hcode, hindex⟩ := Cause.isOf_iff.mp hof
        rw [hconsistent.remote y hy hcode, if_pos (by omega)]
      refine ⟨?_, ?_⟩
      · rw [State.Lists, hmsv]
        rw [hc] at hlists
        exact hc ▸ hlists
      · rw [hmsv, hraised]
        exact raiseCause_fast_stopped hold

end Sys2Proof.Machine
end

section
/-! PROOF. Silence, exclusion and inclusion of stations (O39; R111, R112, R117, R120 to R122). -/

namespace Sys2Proof.Machine

-- One lemma at a time, as in Laws/State.lean.
set_option Elab.async false

open Sys2Proof

section
variable {s t u : State} {a : Nat}

/-! ## Silence (R112, R117) -/

theorem silencePeriod_silent : s.silencePeriod a .silent = none := by
  unfold State.silencePeriod
  dsimp only
  split <;> rfl

theorem silencePeriod_excluded : s.silencePeriod a .excluded = none := by
  unfold State.silencePeriod
  dsimp only
  split <;> rfl

theorem silencePeriod_unheard (ha : 1 ≤ a) (hpresent : s.present a = true) : s.silencePeriod a .unheard =
    if s.lnc.state = .inBreak then none else some (s.now + 2 * s.sst.active.line.silence a) := by
  unfold State.silencePeriod
  dsimp only
  simp [hpresent, Nat.ne_of_gt ha]

/-- A timer that is not reached (R112). -/
theorem silenceExpires_running (h : ∀ d, (s.stationRec a).timer = some d → s.now < d) : s.silenceExpires a = s := by
  refine if_neg fun hreached => ?_
  obtain ⟨d, hd, hle⟩ := timerReached_iff.mp hreached
  exact absurd (h d hd) (by omega)

theorem silenceExpires_reached {d : Nat} (htimer : (s.stationRec a).timer = some d) (hle : d ≤ s.now) :
    s.silenceExpires a = s.setStation a .silent .timeout :=
  if_pos (timerReached_iff.mpr ⟨d, htimer, hle⟩)

theorem stationTold_msv (s : State) (a : Nat) (new : StationState) (ev : StationEvent) :
    (s.stationTold a new ev).msv = s.msv := stationTold_frame.msv_eq

/-- A supervised station that falls silent stops the line fast (R117). -/
theorem setStation_silent_supervised {ev : StationEvent} (h : s.sst.active.line.supervised a = true) :
    s.setStation a .silent ev = (s.stationTold a .silent ev).raiseCause .stationSilent .fast a := by
  have hsst : (s.stationTold a .silent ev).sst = s.sst := stationTold_frame.sst_eq
  rw [setStation_eq, State.silentCause, if_pos rfl, hsst, if_pos h]

/-! ## Exclusion (R120, R122) -/

/-- Conditions that end in order. -/
def State.endEach (s : State) (causes : List (CauseCode × Nat)) : State :=
  causes.foldl (fun t p => t.endCause p.1 p.2) s

/-- The causes that a station holds, in the order in which they end (R120). -/
def stationCauses (a : Nat) : List (CauseCode × Nat) :=
  [(.stationSilent, a), (.rpdRemote, sheaveIndex a 0), (.rpdRemote, sheaveIndex a 1), (.rpdRemote, sheaveIndex a 2),
    (.rpdRemote, sheaveIndex a 3), (.remoteTrip, remoteIndex a .service), (.remoteTrip, remoteIndex a .fast)]

/-- The record with its sheaves unmarked. -/
def State.sheavesCleared (s : State) (a : Nat) : State :=
  s.updStation a fun r => { r with sheaveActive := List.replicate 4 false }

theorem endStationCauses_eq (s : State) (a : Nat) :
    s.endStationCauses a = (s.sheavesCleared a).endEach (stationCauses a) := by
  unfold State.endStationCauses State.endEach stationCauses State.sheavesCleared
  simp only [List.foldl_cons, List.foldl_nil]

theorem endEach_frame (causes : List (CauseCode × Nat)) : ChangesOnly s supervisorParts (s.endEach causes) :=
  ChangesOnly.foldl (f := fun t p => t.endCause p.1 p.2) (fun t p => endCause_changes t p.1 p.2) causes s

theorem endEach_raises (causes : List (CauseCode × Nat)) : s.Raises (s.endEach causes) 0 := by
  induction causes generalizing s with
  | nil => exact .refl s
  | cons p rest ih => exact (State.Raises.refl s).endCause.trans ih

/-- A cause that has ended stays ended while causes end (R144). -/
theorem State.NoneActive.endCause {code : CauseCode} {index : Nat} (h : s.NoneActive code index) (hok : s.CausesOk)
    (other : CauseCode) (i : Nat) : (s.endCause other i).NoneActive code index := by
  by_cases hsame : code = other ∧ index = i
  · obtain ⟨rfl, rfl⟩ := hsame
    exact endCause_noneActive hok
  · exact ((State.SameCause.refl s).endCause hsame).noneActive.mpr h

theorem State.NoneActive.endEach {code : CauseCode} {index : Nat} (h : s.NoneActive code index) (hok : s.CausesOk)
    (causes : List (CauseCode × Nat)) : (s.endEach causes).NoneActive code index := by
  induction causes generalizing s with
  | nil => exact h
  | cons p rest ih => exact ih (h.endCause hok p.1 p.2) hok.endCause

/-- Each of the causes has ended. -/
theorem endEach_noneActive {causes : List (CauseCode × Nat)} {p : CauseCode × Nat} (hok : s.CausesOk) (hp : p ∈ causes) :
    (s.endEach causes).NoneActive p.1 p.2 := by
  induction causes generalizing s with
  | nil => exact absurd hp List.not_mem_nil
  | cons x rest ih =>
    rcases List.mem_cons.mp hp with rfl | hp
    · exact State.NoneActive.endEach (endCause_noneActive hok) hok.endCause rest
    · exact ih hok.endCause hp

theorem endStationCauses_raises : s.Raises (s.endStationCauses a) 0 := by
  rw [endStationCauses_eq]
  exact ((State.Raises.refl s).frame (updStation_changes ..)).trans (endEach_raises _)

theorem endStationCauses_stn : (s.endStationCauses a).stn = (s.sheavesCleared a).stn := by
  rw [endStationCauses_eq, (endEach_frame _).stn_eq]

theorem endStationCauses_noneActive (hok : s.CausesOk) {p : CauseCode × Nat} (hp : p ∈ stationCauses a) :
    (s.endStationCauses a).NoneActive p.1 p.2 := by
  rw [endStationCauses_eq]
  exact endEach_noneActive (hok.of_msv_eq rfl) hp

/-- A change of state that is no silence raises nothing (R117). -/
theorem setStation_raises {new : StationState} {ev : StationEvent} (h : new ≠ .silent) :
    s.Raises (s.setStation a new ev) 0 := by
  have htold : s.Raises (s.stationTold a new ev) 0 :=
    ((State.Raises.refl s).frame (updStation_changes ..)).frame stationTold_frame
  rw [setStation_eq, State.silentCause, if_neg h]
  exact .ite htold.endCause htold

/-- The station EXCLUDED, with its causes ended. -/
def State.excluded (s : State) (a : Nat) : State :=
  (s.setStation a .excluded .excludeStation).endStationCauses a

theorem excludeStation_eq (hlow : 1 ≤ a) (hhigh : a ≤ 13) (hpresent : s.present a = true) (hkey : s.pins.setupKey = true)
    (hstate : s.msv.state = .standby ∨ s.msv.state = .held) (hnot : (s.stationRec a).state ≠ .excluded) :
    s.excludeStation a = (if s.excludedCount = 0 then (s.excluded a).raiseCause .exclusionActive .limit 0
      else s.excluded a, resultOk) := by
  unfold State.excludeStation
  rw [if_neg (by simp [addressOk, hlow, hhigh, hpresent]), if_neg (by simp [hkey]), if_neg (not_not.mpr hstate), if_neg hnot]
  simp only [State.when, decide_eq_true_eq, State.excluded]

theorem excluded_raises : s.Raises (s.excluded a) 0 :=
  (setStation_raises StationState.noConfusion).trans endStationCauses_raises

theorem State.OnlyStation.excluded : s.OnlyStation (s.excluded a) a :=
  State.OnlyStation.trans (.setStation .refl) (State.OnlyStation.of_stn (State.OnlyStation.updStation .refl) endStationCauses_stn)

theorem excluded_rec (ha : a < s.stn.records.length) : ∃ up, (s.excluded a).stationRec a = { s.stationRec a with
    state := .excluded, timer := none, upSince := up, sheaveActive := List.replicate 4 false } := by
  have hlen : a < (s.setStation a .excluded .excludeStation).stn.records.length := by
    rw [(State.OnlyStation.setStation (s := s) (a := a) .refl).length]
    exact ha
  refine ⟨upSinceAfter (s.stationRec a).state .excluded s.sst.clock.seconds (s.stationRec a).upSince, ?_⟩
  rw [State.excluded, stationRec_congr endStationCauses_stn, State.sheavesCleared, stationRec_updStation_same _ hlen,
    setStation_rec ha, silencePeriod_excluded]

theorem excluded_noneActive (hok : s.CausesOk) {p : CauseCode × Nat} (hp : p ∈ stationCauses a) :
    (s.excluded a).NoneActive p.1 p.2 :=
  endStationCauses_noneActive ((setStation_raises StationState.noConfusion).ok hok) hp

/-! ## Inclusion (R121, R122) -/

/-- The station UNHEARD, with its reports cleared. -/
def State.included (s : State) (a : Nat) : State := (s.setStation a .unheard .includeStation).updStation a clearReports

theorem includeStation_eq (hlow : 1 ≤ a) (hhigh : a ≤ 13) (hkey : s.pins.setupKey = true)
    (hex : (s.stationRec a).state = .excluded) : s.includeStation a = ((s.included a).exclusionFollow, resultOk) := by
  unfold State.includeStation
  rw [if_neg (by simp [addressOk, hlow, hhigh]), if_neg (by simp [hkey]), if_neg (not_not.mpr hex)]
  rfl

theorem included_raises : s.Raises (s.included a) 0 :=
  (setStation_raises StationState.noConfusion).frame (updStation_changes ..)

theorem State.OnlyStation.included : s.OnlyStation (s.included a) a :=
  State.OnlyStation.updStation (State.OnlyStation.setStation .refl)

theorem included_rec (ha : a < s.stn.records.length) : ∃ up, (s.included a).stationRec a = clearReports
    { s.stationRec a with state := .unheard, timer := s.silencePeriod a .unheard, upSince := up } := by
  have hlen : a < (s.setStation a .unheard .includeStation).stn.records.length := by
    rw [(State.OnlyStation.setStation (s := s) (a := a) .refl).length]
    exact ha
  refine ⟨upSinceAfter (s.stationRec a).state .unheard s.sst.clock.seconds (s.stationRec a).upSince, ?_⟩
  rw [State.included, stationRec_updStation_same _ hlen, setStation_rec ha]

/-- A change of one record that was EXCLUDED and is not any more. -/
theorem countP_modify_excluded {l : List StationRec} {f : StationRec → StationRec} (ha : a < l.length)
    (hwas : l[a].state = .excluded) (hnow : (f l[a]).state ≠ .excluded) :
    (l.modify a f).countP (·.state = .excluded) = l.countP (·.state = .excluded) - 1 := by
  have hset : l.modify a f = l.set a (f l[a]) := by
    rw [List.modify_eq_set_getElem?, List.getElem?_eq_getElem ha]
    rfl
  rw [hset, List.countP_set ha, if_pos (by simpa using hwas), if_neg (by simpa using hnow), Nat.add_zero]

theorem excludedCount_included (ha : a < s.stn.records.length) (hex : (s.stationRec a).state = .excluded) :
    (s.included a).excludedCount = s.excludedCount - 1 := by
  have hrecord : s.stationRec a = s.stn.records[a] := by
    rw [State.stationRec, List.getElem?_eq_getElem ha, Option.getD_some]
  let f : StationRec → StationRec := fun r => clearReports
    { r with state := .unheard, timer := s.silencePeriod a .unheard
             upSince := upSinceAfter (s.stationRec a).state .unheard s.sst.clock.seconds r.upSince }
  have hrecords : (s.included a).stn.records = s.stn.records.modify a f := by
    have hset : (s.setStation a .unheard .includeStation).stn = _ := setStation_stn
    rw [State.included, State.updStation, State.updStn_stn, hset, State.stationEntered, State.updStation, State.updStn_stn,
      List.modify_modify_eq]
    rfl
  rw [State.excludedCount, hrecords, countP_modify_excluded ha (hrecord ▸ hex) StationState.noConfusion]
  rfl

/-- The end of a LIMIT condition takes its pair from the LIMIT register (R147). -/
theorem not_mem_limits_endCause (s : State) (code : CauseCode) (index : Nat) :
    (code, index) ∉ (s.endCause code index).msv.limits := by
  unfold State.endCause
  split
  · rw [(listEnd_sameList ..).limits, (recomputeCeiling_sameList _).limits]
    simp
  · next h =>
    rw [(listEnd_sameList ..).limits]
    simpa using h

end

/-- Settles O39: a change of the station's state, followed by the causes it raises or ends. -/
theorem stationsLeaveAndRejoin : Obligations.StationsLeaveAndRejoin := by
  intro s slip a hslip hwf hlow hhigh hrecords hpresent hok hroom
  have ha : a < s.stn.records.length := by omega
  refine ⟨fun hrunning => ⟨finish s (s.silenceExpires a), rfl, ?_⟩, fun d htimer hle => ?_, fun hkey hstate hnot => ?_,
    fun hkey hex => ?_⟩
  · rw [silenceExpires_running hrunning]
    exact (ChangesOnly.refl s []).finish
  · have hrun := silenceExpires_reached htimer hle
    have hrec : (s.silenceExpires a).stationRec a = _ := hrun ▸ setStation_rec ha
    refine ⟨finish s (s.silenceExpires a), rfl, (silenceExpires_changes ..).finish, ?_, ?_, fun x hx => ?_, fun hlive => ?_,
      fun hsupervised => ?_⟩
    · rw [stationRec_congr (finish_stn ..), hrec]
    · rw [stationRec_congr (finish_stn ..), hrec]
      exact silencePeriod_silent
    · rw [stationRec_congr (finish_stn ..), hrun]
      exact (State.OnlyStation.setStation .refl).others x hx
    · rw [stationRec_congr (finish_stn ..), hrec, hlive]
      rfl
    · let u := s.stationTold a .silent .timeout
      have hraised : s.silenceExpires a = u.raiseCause .stationSilent .fast a :=
        hrun.trans (setStation_silent_supervised hsupervised)
      have hu : u.msv = s.msv := stationTold_msv ..
      have hfast := raiseCause_fast_state (s := u) (code := .stationSilent) (index := a) (hok.of_msv_eq hu)
      have hlists : (u.raiseCause .stationSilent .fast a).Lists .stationSilent a .activeUnacked :=
        raiseCause_lists (by rw [hu]; omega)
      have hnot : (u.raiseCause .stationSilent .fast a).msv.state ≠ .run ∧
          (u.raiseCause .stationSilent .fast a).msv.state ≠ .stoppingService := by
        rw [hfast]
        split
        · exact ⟨SupState.noConfusion, SupState.noConfusion⟩
        · next hmoving => exact not_or.mp hmoving
      rw [hraised, finish_msv]
      exact ⟨hlists.finish, hnot⟩
  · let u := s.excluded a
    let v := if s.excludedCount = 0 then u.raiseCause .exclusionActive .limit 0 else u
    have horder : s.excludeStation a = (v, resultOk) := excludeStation_eq hlow hhigh hpresent hkey hstate hnot
    have hrun : s.dispatch slip (.excludeStation a) = v.writeResult slip resultOk := by
      rw [dispatch_short rfl (.inr rfl)]
      exact congrArg (fun p : State × OrderResult => p.1.writeResult slip p.2) horder
    have hv : ChangesOnly s stationParts v := by
      have := excludeStation_changes s a
      rwa [horder] at this
    have huv : ChangesOnly u causeParts v := .ite (raiseCause_changes ..) (.refl _ _)
    have hwritten := writeResult_changes v slip resultOk
    have hmsv : (finish s (s.dispatch slip (.excludeStation a))).msv = v.msv := by
      rw [finish_msv, hrun, hwritten.msv_eq]
    have hstn : (finish s (s.dispatch slip (.excludeStation a))).stn = u.stn := by
      rw [finish_stn, hrun, hwritten.stn_eq, huv.stn_eq]
    obtain ⟨up, hrec⟩ := excluded_rec ha
    have hended : ∀ p ∈ stationCauses a, p.1 ≠ .exclusionActive →
        (finish s (s.dispatch slip (.excludeStation a))).NoneActive p.1 p.2 := fun p hp hne => by
      have hsame : u.SameCause v p.1 p.2 := .ite ((State.SameCause.refl u).raiseCause fun h => hne h.1) (.refl u)
      have hnone : v.NoneActive p.1 p.2 := hsame.noneActive.mpr (excluded_noneActive hok hp)
      rwa [State.NoneActive, hmsv]
    refine ⟨finish s (s.dispatch slip _), rfl, ?_, short_answered hslip hwf hv (by decide) hrun, ?_, ?_, ?_, fun x hx => ?_,
      hended (.stationSilent, a) (by simp [stationCauses]) CauseCode.noConfusion,
      hended (.remoteTrip, remoteIndex a .service) (by simp [stationCauses]) CauseCode.noConfusion,
      hended (.remoteTrip, remoteIndex a .fast) (by simp [stationCauses]) CauseCode.noConfusion, fun i hi => ?_, fun hfirst => ?_⟩
    · rw [hrun]
      exact (hv.then hwritten).finish
    · rw [stationRec_congr hstn, hrec]
    · rw [stationRec_congr hstn, hrec]
    · rw [stationRec_congr hstn, hrec]
    · rw [stationRec_congr hstn]
      exact State.OnlyStation.excluded.others x hx
    · exact hended (.rpdRemote, sheaveIndex a i) (by interval_cases i <;> simp [stationCauses]) CauseCode.noConfusion
    · have hraised : v = u.raiseCause .exclusionActive .limit 0 := by simp only [v, if_pos hfirst]
      have hraises : s.Raises u 0 := excluded_raises
      have hlength := hraises.length
      have hlists : (u.raiseCause .exclusionActive .limit 0).Lists .exclusionActive 0 .activeUnacked :=
        raiseCause_lists (Nat.lt_of_le_of_lt hlength (by omega))
      rw [State.Lists, hmsv, hraised]
      exact ⟨hlists, mem_limits_raiseCause u .exclusionActive 0⟩
  · let u := s.included a
    have horder : s.includeStation a = (u.exclusionFollow, resultOk) := includeStation_eq hlow hhigh hkey hex
    have hrun : s.dispatch slip (.includeStation a) = u.exclusionFollow.writeResult slip resultOk := by
      rw [dispatch_short rfl (.inr rfl)]
      exact congrArg (fun p : State × OrderResult => p.1.writeResult slip p.2) horder
    have hv : ChangesOnly s stationParts u.exclusionFollow := by
      have := includeStation_changes s a
      rwa [horder] at this
    have hwritten := writeResult_changes u.exclusionFollow slip resultOk
    have hmsv : (finish s (s.dispatch slip (.includeStation a))).msv = u.exclusionFollow.msv := by
      rw [finish_msv, hrun, hwritten.msv_eq]
    have hstn : (finish s (s.dispatch slip (.includeStation a))).stn = u.stn := by
      rw [finish_stn, hrun, hwritten.stn_eq, (exclusionFollow_changes u).stn_eq]
    obtain ⟨up, hrec⟩ := included_rec ha
    refine ⟨finish s (s.dispatch slip _), rfl, ?_, short_answered hslip hwf hv (by decide) hrun, ?_, ?_, ?_, ?_, ?_, ?_, ?_,
      fun x hx => ?_, fun hlast => ?_⟩
    · rw [hrun]
      exact (hv.then hwritten).finish
    · rw [stationRec_congr hstn, hrec, clearReports]
    · rw [stationRec_congr hstn, hrec, clearReports]
    · rw [stationRec_congr hstn, hrec, clearReports]
    · rw [stationRec_congr hstn, hrec, clearReports]
    · rw [stationRec_congr hstn, hrec, clearReports]
    · rw [stationRec_congr hstn, hrec, clearReports]
    · rw [stationRec_congr hstn, hrec, clearReports]
      exact silencePeriod_unheard hlow hpresent
    · rw [stationRec_congr hstn]
      exact State.OnlyStation.included.others x hx
    · have hcount : u.excludedCount = 0 := by
        have : u.excludedCount = s.excludedCount - 1 := excludedCount_included ha hex
        omega
      have hfollow : u.exclusionFollow = u.endCause .exclusionActive 0 := if_pos hcount
      have hnone : u.exclusionFollow.NoneActive .exclusionActive 0 :=
        hfollow ▸ endCause_noneActive (included_raises.ok hok)
      rw [State.NoneActive, hmsv]
      exact ⟨hnone, hfollow ▸ not_mem_limits_endCause u .exclusionActive 0⟩

end Sys2Proof.Machine
end

section
/-! PROOF. What a raise does to the supervisor, the watch and the line, and the operator's stops (O44; R104, R143, R145,
R149, R151, R154, R156 to R158, R161). -/

namespace Sys2Proof.Machine

-- One lemma at a time, as in Laws/State.lean.
set_option Elab.async false

open Sys2Proof

section
variable {s t : State} {code : CauseCode} {category : Category} {index : Nat} {sub : SubState}

/-! ## Outside RUN -/

/-- Outside RUN the target, the ceiling in force and SPEED_REF are 0 (R156 to R158). -/
theorem State.Obeys.stopped (h : s.Obeys) (hstate : s.msv.state ≠ .run) :
    s.msv.target = 0 ∧ s.msv.ceiling = 0 ∧ s.msv.speedRef = 0 := by
  have htarget : s.msv.target = 0 := h.target.trans (if_pos (.inl hstate))
  have hceiling : s.msv.ceiling = 0 := Nat.le_zero.mp (htarget ▸ h.ceiling)
  exact ⟨htarget, hceiling, by rw [h.speedRef, hceiling, speedRefOf, Nat.zero_mul, Nat.zero_div]⟩

theorem margin_eq (c : Nat) : margin c = max 20 (c / 10) := by
  unfold margin
  omega

/-- The watch of a fall from RUN, by its minimum deceleration (R161, R162). -/
def State.fallWatch (s : State) (decel : Nat) : Watch :=
  let e := s.msv.ceiling + margin s.msv.ceiling
  let e0 := s.msv.watch.elim e fun w => max e (w.envelope s.now)
  { e0 := e0, decel := decel, start := s.now, lastEnvelope := e0 }

/-- A running watch keeps its envelope of the moment through a change of state (R162). -/
theorem watchAtChange_envelope {new : SupState} (hheld : new ≠ .held) (e : Nat) :
    ((s.watchAtChange new).elim e fun w => max e (w.envelope s.now)) =
      s.msv.watch.elim e fun w => max e (w.envelope s.now) := by
  unfold State.watchAtChange
  cases s.msv.watch with
  | none => rfl
  | some w =>
    simp only [if_neg hheld]
    split
    · simp [Watch.envelope]
    · rfl

theorem decreaseWatch_eq (s : State) (old : Nat) : s.decreaseWatch old =
    ⟨s.msv.watch.elim (old + margin old) fun w => max (old + margin old) (w.envelope s.now), s.watchDecel, s.now,
      s.msv.watch.elim (old + margin old) fun w => max (old + margin old) (w.envelope s.now)⟩ := by
  unfold State.decreaseWatch
  cases s.msv.watch <;> rfl

/-- A change of state out of RUN starts the watch of the fall (R157, R161). -/
theorem changeState_watch {new : SupState} (hrun : new ≠ .run) (hheld : new ≠ .held) (hceiling : 0 < s.msv.ceiling)
    (brought : List Byte) : (s.changeState new brought).msv.watch =
      some (s.fallWatch (if new = .stoppingFast then s.sst.active.rope.aFast else s.sst.active.rope.aService)) := by
  let v := ((s.updMsv fun m => { m with state := new, watch := s.watchAtChange new }).journal .stateChange .msv 0
    (byteOf s.msv.state.code :: byteOf new.code :: brought)).setChain new.chainClosed
  have hv : ChangesOnly s [.msv, .journal, .news] v :=
    ((updMsv_changes s _).weaken.then (journal_changes ..)).then (setChain_changes ..)
  have hmsv : v.msv = { s.msv with state := new, watch := s.watchAtChange new, chainOut := new.chainClosed } := by
    simp only [v, setChain_msv, journal_msv, State.updMsv_msv]
  have htarget : v.ceilingTarget = 0 := if_pos (.inl (by rw [hmsv]; exact hrun))
  have hdecel : v.watchDecel = if new = .stoppingFast then s.sst.active.rope.aFast else s.sst.active.rope.aService := by
    rw [State.watchDecel, hmsv, hv.sst_eq]
  have hchange : s.changeState new brought = v.recomputeCeiling.gateEvent := rfl
  rw [hchange, gateEvent_msv, recomputeCeiling_msv]
  dsimp only
  rw [htarget, hmsv, if_pos hceiling, decreaseWatch_eq, hdecel, hmsv, hv.now_eq, watchAtChange_envelope hheld]
  rfl

/-- Where the list takes the line out of RUN, the watch of the fall starts (R149, R161). -/
theorem afterListChange_watch (hrun : s.msv.state = .run) (hlatched : s.msv.hasLatched = true) (hceiling : 0 < s.msv.ceiling) :
    (s.afterListChange code index).msv.watch =
      some (s.fallWatch (if s.msv.hasFast then s.sst.active.rope.aFast else s.sst.active.rope.aService)) := by
  unfold State.afterListChange
  by_cases hfast : s.msv.hasFast = true
  · rw [if_pos ⟨hfast, .inl hrun⟩, changeState_watch SupState.noConfusion SupState.noConfusion hceiling, if_pos rfl,
      if_pos hfast]
  · rw [if_neg (fun h => hfast h.1), if_pos ⟨hlatched, hrun⟩,
      changeState_watch SupState.noConfusion SupState.noConfusion hceiling, if_neg SupState.noConfusion, if_neg hfast]

/-! ## A raise: its list change, the supervisor's reaction, what the line is told (R143, R145, R147) -/

/-- A raise that finds room or repeats an entry. -/
theorem listRaise_room (hroom : s.msv.causes.length < 31 ∨ ∃ c ∈ s.msv.causes, c.isOf code index = true) :
    ∃ u : State, ChangesOnly s [.msv, .journal, .news] u ∧
      u.msv = s.msv.raised ⟨code, category, index, s.clockTime, 0, sub⟩ s.clockTime ∧
      s.listRaise code category index sub =
        (u.afterListChange code index).when (decide (category = .fast)) (·.tellFast code index) := by
  have hframe : ∀ (f : Msv → Msv) (c : Cause) (n : Nat), ChangesOnly s [.msv, .journal, .news]
      ((s.updMsv f).publishCause .causeRaised c n) := fun f c n =>
    (updMsv_changes s f).weaken.then (publishCause_changes ..)
  unfold State.listRaise Msv.raised raisedList
  cases hfind : s.msv.causes.find? (·.isOf code index) with
  | some c => exact ⟨_, hframe .., by simp, rfl⟩
  | none =>
    have hlt : s.msv.causes.length < 31 := hroom.resolve_right fun ⟨x, hx, hof⟩ =>
      absurd hof (List.find?_eq_none.mp hfind x hx)
    simp only [hlt, if_true]
    exact ⟨_, hframe .., by simp, rfl⟩

/-- A raise that finds no room. -/
theorem listRaise_full (hfull : 31 ≤ s.msv.causes.length) (hnone : ∀ c ∈ s.msv.causes, c.isOf code index = false) :
    ∃ u : State, ChangesOnly s [.msv, .journal, .news] u ∧
      u.msv = s.msv.raised ⟨code, category, index, s.clockTime, 0, sub⟩ s.clockTime ∧
      s.listRaise code category index sub =
        ((u.afterListChange .causeOverflow 0).when (decide (category = .fast)) (·.tellFast code index)).when
          s.msv.aggregate.isNone (·.tellFast .causeOverflow 0) := by
  have hfind : s.msv.causes.find? (·.isOf code index) = none :=
    List.find?_eq_none.mpr fun x hx hof => absurd hof (by simp [hnone x hx])
  have hnot : ¬ s.msv.causes.length < 31 := by omega
  unfold State.listRaise Msv.raised raisedList
  simp only [hfind, hnot, if_false, State.raiseOverflow, State.publishAggregate]
  refine ⟨_, (updMsv_changes s _).weaken.then (publishCause_changes ..), ?_, rfl⟩
  simp only [publishCause_msv, State.updMsv_msv]
  cases s.msv.aggregate <;> rfl

/-- The entry of a raise, with its repeat count (R143). -/
theorem raisedList_repeats {l : List Cause} {c : Cause} (hroom : l.length < 31 ∨ ∃ x ∈ l, x.isOf c.code c.index = true) :
    ∃ x ∈ raisedList l c, x.isOf c.code c.index = true ∧ x.sub = c.sub ∧
      x.repeats = ((l.find? (·.isOf c.code c.index)).map fun y => min 255 (y.repeats + 1)).getD c.repeats := by
  unfold raisedList
  cases hfind : l.find? (·.isOf c.code c.index) with
  | some x =>
    have hof : x.isOf c.code c.index = true := by simpa using List.find?_some hfind
    refine ⟨{ x with repeats := satInc 255 x.repeats, sub := c.sub }, ?_, ?_, rfl, satInc_eq_min ..⟩
    · exact List.mem_map.mpr ⟨x, List.mem_of_find?_eq_some hfind, if_pos hof⟩
    · simpa [Cause.isOf] using hof
  | none =>
    have hlt : l.length < 31 := hroom.resolve_right fun ⟨x, hx, hof⟩ =>
      absurd hof (List.find?_eq_none.mp hfind x hx)
    exact ⟨c, by simp [hlt], by simp [Cause.isOf], rfl, rfl⟩

/-- A raise that is no FAST one and finds room makes no FAST entry. -/
theorem raised_not_fast {m : Msv} {c : Cause} (hnot : m.hasFast = false) (hcategory : c.category ≠ .fast)
    (hroom : m.causes.length < 31 ∨ ∃ x ∈ m.causes, x.isOf c.code c.index = true) (now : ClockTime) :
    (m.raised c now).hasFast = false := by
  obtain ⟨hcauses, haggregate⟩ := Bool.or_eq_false_iff.mp hnot
  have hold : ∀ x ∈ m.causes, x.category ≠ .fast := fun x hx => by simpa using List.any_eq_false.mp hcauses x hx
  have hagg : (m.raised c now).aggregate = m.aggregate := by
    refine if_pos (hroom.symm.imp_left fun ⟨x, hx, hof⟩ => ?_)
    exact List.find?_isSome.mpr ⟨x, hx, hof⟩
  refine Bool.or_eq_false_iff.mpr ⟨List.any_eq_false.mpr fun x hx => ?_, hagg ▸ haggregate⟩
  have hx' : x.category ≠ .fast := by
    rcases mem_raisedList hx with hx | ⟨-, -, -, hc | ⟨y, hy, -, -, hc⟩⟩
    · exact hold x hx
    · exact hc ▸ hcategory
    · exact hc ▸ hold y hy
  simpa using hx'

/-! ## The TRIP of a FAST raise (R104, R147) -/

/-- With a place, a TRIP of the reason is queued, a new one or the one that waits. -/
theorem askTrip_queues (hdest : ∀ f ∈ s.lnc.queue, f.kind = .trip → f.dest = 15) (hroom : s.lnc.queue.length < 16) :
    (s.askTrip code).Queues .trip 15 [2, byteOf code.code] ∧
      (∀ f ∈ s.lnc.queue, f ∈ (s.askTrip code).lnc.queue) ∧
      ∀ f ∈ (s.askTrip code).lnc.queue, f.kind = .trip → f.dest = 15 := by
  unfold State.askTrip
  dsimp only
  rw [if_pos hroom]
  split
  · next h =>
    obtain ⟨f, hf, hwaits⟩ := List.any_eq_true.mp h
    simp only [Bool.and_eq_true, decide_eq_true_eq] at hwaits
    exact ⟨⟨f, hf, hwaits.1.1, hdest f hf hwaits.1.1, hwaits.1.2⟩, fun f hf => hf, hdest⟩
  · refine ⟨enqueue_queues .., fun f hf => mem_enqueue hf .., fun f hf hkind => ?_⟩
    rcases mem_insertFrame.mp hf with rfl | hf
    · rfl
    · exact hdest f hf hkind

end

/-! ## O44: STOP and FAST_STOP -/

section
variable {s : State} {code : CauseCode} {category : Category}

/-- The list as an operator's stop leaves it (R143, R151). -/
theorem operatorCause_lists (hroom : s.msv.causes.length < 31 ∨ ∃ c ∈ s.msv.causes, c.isOf code 0 = true) :
    ∃ c ∈ (s.operatorCause code category).msv.causes, c.isOf code 0 = true ∧ c.sub = .clearedUnacked ∧
      c.repeats = ((s.msv.causes.find? (·.isOf code 0)).map fun y => min 255 (y.repeats + 1)).getD 0 := by
  unfold State.operatorCause
  rw [(listRaise_sameList s code category 0 .clearedUnacked).causes]
  exact raisedList_repeats hroom

/-- From RUN, with a ceiling in force, an operator's stop starts the watch of the fall. -/
theorem operatorCause_watch (hok : s.CausesOk) (hrun : s.msv.state = .run) (hceiling : 0 < s.msv.ceiling)
    (hcategory : category ∈ code.categories) (hlatched : .limit ∉ code.categories)
    (hroom : s.msv.causes.length < 31 ∨ ∃ c ∈ s.msv.causes, c.isOf code 0 = true) :
    (s.operatorCause code category).msv.watch = some (s.fallWatch
      (if (s.msv.raised ⟨code, category, 0, s.clockTime, 0, .clearedUnacked⟩ s.clockTime).hasFast then
        s.sst.active.rope.aFast else s.sst.active.rope.aService)) := by
  obtain ⟨u, hu, hmsv, hraise⟩ := listRaise_room (category := category) (sub := .clearedUnacked) hroom
  have hrun' : u.msv.state = .run := by rw [hmsv]; exact hrun
  have hceiling' : 0 < u.msv.ceiling := by rw [hmsv]; exact hceiling
  have hhas : u.msv.hasLatched = true := by
    rw [hmsv]
    exact raised_hasLatched (State.causesOk_iff.mp hok) hlatched hcategory _
  have hfall : ∀ d, u.fallWatch d = s.fallWatch d := fun d => by
    unfold State.fallWatch
    rw [hmsv, hu.now_eq]
    rfl
  rw [State.operatorCause, hraise, when_msv _ (tellFast_msv ..), afterListChange_watch hrun' hhas hceiling', hfall, hu.sst_eq,
    hmsv]

/-- A raise that finds no room leaves the list, and sets the aggregate entry or repeats it (R145). -/
theorem operatorCause_full (hfull : 31 ≤ s.msv.causes.length) (hnone : ∀ c ∈ s.msv.causes, c.isOf code 0 = false) :
    (s.operatorCause code category).msv.causes = s.msv.causes ∧
    (s.operatorCause code category).msv.aggregate = some (s.msv.aggregate.elim ⟨s.clockTime, 0⟩ fun g =>
      { g with repeats := min 255 (g.repeats + 1) }) ∧
    (s.msv.raised ⟨code, category, 0, s.clockTime, 0, .clearedUnacked⟩ s.clockTime).hasFast = true := by
  have hfind : s.msv.causes.find? (·.isOf code 0) = none :=
    List.find?_eq_none.mpr fun x hx hof => absurd hof (by simp [hnone x hx])
  have hnot : ¬ s.msv.causes.length < 31 := by omega
  have hlist := listRaise_sameList s code category 0 .clearedUnacked
  refine ⟨?_, ?_, ?_⟩
  · rw [State.operatorCause, hlist.causes]
    simp [Msv.raised, raisedList, hfind, hnot]
  · rw [State.operatorCause, hlist.aggregate]
    cases hagg : s.msv.aggregate <;> simp [Msv.raised, hfind, hnot, hagg, satInc_eq_min]
  · simp [Msv.hasFast, Msv.raised, hfind, hnot]

/-- A stop with a FAST entry stops the line fast (R149). -/
theorem operatorCause_fast_state
    (hfast : (s.msv.raised ⟨code, category, 0, s.clockTime, 0, .clearedUnacked⟩ s.clockTime).hasFast = true) :
    (s.operatorCause code category).msv.state =
      if s.msv.state = .run ∨ s.msv.state = .stoppingService then .stoppingFast else s.msv.state := by
  unfold State.operatorCause
  rw [listRaise_state, stateAfter]
  have hstate : (s.msv.raised ⟨code, category, 0, s.clockTime, 0, .clearedUnacked⟩ s.clockTime).state = s.msv.state := rfl
  rw [hfast, hstate]
  simp only [true_and]
  split
  · rfl
  · next hnot => rw [if_neg fun h => hnot (.inl h.2)]

/-- STOP stops RUN with a service stop (R149, R151). -/
theorem operatorStop_state (hobeys : s.Obeys) (hok : s.CausesOk)
    (hroom : s.msv.causes.length < 31 ∨ ∃ c ∈ s.msv.causes, c.isOf .operatorStop 0 = true) :
    (s.operatorCause .operatorStop .service).msv.state =
      if s.msv.state = .run then .stoppingService else s.msv.state := by
  unfold State.operatorCause
  rw [listRaise_state, stateAfter]
  have hslow : s.msv.state.chainClosed = true →
      (s.msv.raised ⟨.operatorStop, .service, 0, s.clockTime, 0, .clearedUnacked⟩ s.clockTime).hasFast = false := by
    intro hclosed
    refine raised_not_fast (Bool.eq_false_iff.mpr fun hfast => ?_) Category.noConfusion hroom _
    exact Bool.noConfusion (hclosed.symm.trans (hobeys.fast hfast))
  have hlatched : (s.msv.raised ⟨.operatorStop, .service, 0, s.clockTime, 0, .clearedUnacked⟩ s.clockTime).hasLatched = true :=
    raised_hasLatched (State.causesOk_iff.mp hok) (show Category.limit ∉ CauseCode.operatorStop.categories by decide)
      (show Category.service ∈ CauseCode.operatorStop.categories by decide) _
  have hstate : (s.msv.raised ⟨.operatorStop, .service, 0, s.clockTime, 0, .clearedUnacked⟩ s.clockTime).state = s.msv.state :=
    rfl
  rw [hstate, if_neg, hlatched]
  · simp only [true_and]
  · rintro ⟨hfast, hmoving⟩
    have hclosed : s.msv.state.chainClosed = true := by rcases hmoving with h | h <;> rw [h] <;> rfl
    exact Bool.noConfusion (hfast.symm.trans (hslow hclosed))

/-- A raise that is no FAST one and finds room tells the line nothing. -/
theorem operatorStop_frame (hroom : s.msv.causes.length < 31 ∨ ∃ c ∈ s.msv.causes, c.isOf .operatorStop 0 = true) :
    ChangesOnly s supervisorParts (s.operatorCause .operatorStop .service) := by
  obtain ⟨u, hu, -, hraise⟩ := listRaise_room (category := .service) (sub := .clearedUnacked) hroom
  rw [State.operatorCause, hraise]
  exact hu.weaken.then (afterListChange_changes ..)

/-- The TRIP frames of a stop that finds no room (R104, R145, R147). -/
theorem operatorCause_full_trips (hconsistent : s.Consistent) (hfull : 31 ≤ s.msv.causes.length)
    (hnone : ∀ c ∈ s.msv.causes, c.isOf code 0 = false) (hplain : tripStation code 0 = none)
    (hroom : s.lnc.queue.length + (decide (category = .fast)).toNat < 16) :
    (category = .fast → (s.operatorCause code category).Queues .trip 15 [2, byteOf code.code]) ∧
    (s.msv.aggregate = none → (s.operatorCause code category).Queues .trip 15 [2, 36]) := by
  obtain ⟨u, hu, -, hraise⟩ := listRaise_full (category := category) (sub := .clearedUnacked) hfull hnone
  let v := u.afterListChange .causeOverflow 0
  have hv : ChangesOnly s supervisorParts v := hu.weaken.then (afterListChange_changes ..)
  have hdest : ∀ f ∈ v.lnc.queue, f.kind = .trip → f.dest = 15 := by rw [hv.lnc_eq]; exact hconsistent.trips
  have hlast : ∀ w : State, s.operatorCause code category = w.when s.msv.aggregate.isNone (·.tellFast .causeOverflow 0) →
      w.lnc.queue.length < 16 → (∀ f ∈ w.lnc.queue, f.kind = .trip → f.dest = 15) →
      (∀ f ∈ w.lnc.queue, f ∈ (s.operatorCause code category).lnc.queue) ∧
      (s.msv.aggregate = none → (s.operatorCause code category).Queues .trip 15 [2, 36]) := by
    intro w hw hlen hd
    obtain ⟨hqueued, hkept, -⟩ := askTrip_queues (code := .causeOverflow) hd hlen
    rw [hw]
    cases s.msv.aggregate with
    | none => exact ⟨hkept, fun _ => hqueued⟩
    | some g => exact ⟨fun f hf => hf, fun h => absurd h (Option.some_ne_none g)⟩
  by_cases hfast : category = .fast
  · have hone : s.lnc.queue.length + 1 < 16 := by simpa [hfast] using hroom
    obtain ⟨⟨f, hf, hframe⟩, -, hd⟩ := askTrip_queues (s := v) (code := code) hdest (by rw [hv.lnc_eq]; omega)
    have hlen : (v.askTrip code).lnc.queue.length < 16 := by
      have := (askTrip_room (s := v) (by rw [hv.lnc_eq]; omega) code).2
      rw [hv.lnc_eq] at this
      omega
    have hrun : s.operatorCause code category =
        (v.askTrip code).when s.msv.aggregate.isNone (·.tellFast .causeOverflow 0) := by
      rw [State.operatorCause, hraise, decide_eq_true hfast, ← tellFast_eq hplain]
      rfl
    obtain ⟨hkept, hover⟩ := hlast _ hrun hlen hd
    exact ⟨fun _ => ⟨f, hkept f hf, hframe⟩, hover⟩
  · have hlen : v.lnc.queue.length < 16 := by rw [hv.lnc_eq]; omega
    have hrun : s.operatorCause code category = v.when s.msv.aggregate.isNone (·.tellFast .causeOverflow 0) := by
      rw [State.operatorCause, hraise, decide_eq_false hfast]
      rfl
    exact ⟨fun h => absurd h hfast, (hlast _ hrun hlen hdest).2⟩

end

/-- A state that an operator's stop leaves is not RUN. -/
theorem not_run_of_ite {a b c : SupState} (h : a = if b = .run then c else b) (hc : c ≠ .run) : a ≠ .run := by
  rw [h]
  split
  · exact hc
  · assumption

/-- After a fast stop the chain is open and the line has no ceiling (R149, R154, R156, R158). -/
theorem fastStopped {s w : State} (hw : w.InOrder)
    (hstate : w.msv.state = if s.msv.state = .run ∨ s.msv.state = .stoppingService then .stoppingFast else s.msv.state) :
    w.msv.chainOut = false ∧ w.msv.ceiling = 0 ∧ w.msv.speedRef = 0 := by
  have hopen : w.msv.state.chainClosed = false := by
    rw [hstate]
    split
    · rfl
    · next hnot =>
      obtain ⟨hrun, hservice⟩ := not_or.mp hnot
      cases h : s.msv.state
      case run => exact absurd h hrun
      case stoppingService => exact absurd h hservice
      all_goals rfl
  have hrun : w.msv.state ≠ .run := fun h => Bool.noConfusion ((h ▸ hopen : SupState.chainClosed .run = false))
  obtain ⟨-, hceiling, hspeed⟩ := hw.obeys.stopped hrun
  exact ⟨hw.obeys.chain.trans hopen, hceiling, hspeed⟩

/-- An operator's stop that finds no room for its cause (R145). -/
theorem operator_overflows {s : State} {slip : Nat} {o : Order} {code : CauseCode} {category : Category}
    (horder : s.InOrder) (hcategory : category ∈ code.categories) (hfull : 31 ≤ s.msv.causes.length)
    (hnone : ∀ c ∈ s.msv.causes, c.isOf code 0 = false)
    (hrun : s.dispatch slip o = (s.operatorCause code category).writeResult slip resultOk) :
    (finish s (s.dispatch slip o)).msv.causes = s.msv.causes ∧ (finish s (s.dispatch slip o)).msv.chainOut = false ∧
      (finish s (s.dispatch slip o)).msv.ceiling = 0 ∧ (finish s (s.dispatch slip o)).msv.speedRef = 0 ∧
      (finish s (s.dispatch slip o)).msv.aggregate = some (match s.msv.aggregate with
        | none => ⟨s.clockTime, 0⟩
        | some g => { g with repeats := min 255 (g.repeats + 1) }) ∧
      (finish s (s.dispatch slip o)).msv.state =
        (if s.msv.state = .run ∨ s.msv.state = .stoppingService then .stoppingFast else s.msv.state) ∧
      ChangesOnly s Part.ofCause (finish s (s.dispatch slip o)) := by
  obtain ⟨hcauses, hagg, hhas⟩ := operatorCause_full (category := category) hfull hnone
  have hstate := operatorCause_fast_state hhas
  obtain ⟨hchain, hceiling, hspeed⟩ := fastStopped (horder.operatorCause hcategory) hstate
  have hframe : ChangesOnly s causeParts (s.operatorCause code category) := listRaise_changes ..
  have hmsv : (finish s (s.dispatch slip o)).msv = (s.operatorCause code category).msv := by
    rw [finish_msv, hrun, (writeResult_changes ..).msv_eq]
  refine ⟨?_, ?_, ?_, ?_, ?_, ?_, ?_⟩
  · rw [hmsv, hcauses]
  · rw [hmsv, hchain]
  · rw [hmsv, hceiling]
  · rw [hmsv, hspeed]
  · rw [hmsv, hagg]
    cases s.msv.aggregate <;> rfl
  · rw [hmsv, hstate]
  · rw [hrun]
    exact (hframe.then (writeResult_changes ..)).finish

/-- Settles O44: the raise of each stop, with room for its cause and without. -/
theorem operatorStopsLine : Obligations.OperatorStopsLine := by
  intro s slip hslip hwf hstandby hobeys hok watch repeats overflows
  have horder : s.InOrder := ⟨hobeys, hok⟩
  have hwatch : ∀ d, s.fallWatch d = watch d := fun d => by
    simp only [watch, State.fallWatch, margin_eq, Watch.envelope]
    cases s.msv.watch <;> rfl
  have hfall : 0 < s.msv.ceiling → s.msv.state = .run := fun hceiling => by
    by_contra hnot
    exact absurd (hobeys.stopped hnot).2.1 (by omega)
  have hstop : s.dispatch slip .stop = (s.operatorCause .operatorStop .service).writeResult slip resultOk :=
    dispatch_short rfl (.inl hstandby)
  have hfast : s.dispatch slip .fastStop = (s.operatorCause .operatorFast .fast).writeResult slip resultOk :=
    dispatch_short rfl (.inl hstandby)
  refine ⟨fun hroom => ?_, fun hroom => ?_, fun hfull => ⟨fun hnone => ?_, fun hnone => ?_⟩⟩
  · let w := s.operatorCause .operatorStop .service
    have hmsv : (finish s (s.dispatch slip .stop)).msv = w.msv := by rw [finish_msv, hstop, (writeResult_changes ..).msv_eq]
    have hframe : ChangesOnly s supervisorParts w := operatorStop_frame hroom
    have hstate : w.msv.state = if s.msv.state = .run then .stoppingService else s.msv.state :=
      operatorStop_state hobeys hok hroom
    have hw : w.InOrder := horder.operatorCause
    obtain ⟨-, hceiling, hspeed⟩ := hw.obeys.stopped (not_run_of_ite hstate SupState.noConfusion)
    obtain ⟨c, hc, hof, hsub, hrepeats⟩ := operatorCause_lists (category := .service) hroom
    have hnotfast : s.msv.state = .run →
        (s.msv.raised ⟨.operatorStop, .service, 0, s.clockTime, 0, .clearedUnacked⟩ s.clockTime).hasFast = false := fun hrun => by
      refine raised_not_fast (Bool.eq_false_iff.mpr fun hfast => ?_) Category.noConfusion hroom _
      exact Bool.noConfusion ((hrun ▸ hobeys.fast hfast : SupState.chainClosed .run = false))
    refine ⟨finish s (s.dispatch slip .stop), rfl, short_answered hslip hwf hframe (by decide) hstop, ?_, ?_, ?_, ?_, ?_, ?_,
      fun hpos => ?_, finish_slipOnly fun b hb => ?_, ?_⟩
    · rw [State.Lists, hmsv]
      exact ⟨c, hc, hof, hsub⟩
    · rw [hmsv]
      exact ⟨c, hc, (Cause.isOf_iff.mp hof).1, hrepeats⟩
    · rw [hmsv, hstate]
    · rw [hmsv, hw.obeys.chain, hobeys.chain, hstate]
      split
      · next hrun => rw [hrun]; rfl
      · rfl
    · rw [hmsv, hceiling]
    · rw [hmsv, hspeed]
    · have hrun := hfall hpos
      have hw := operatorCause_watch (category := .service) hok hrun hpos (by decide) (by decide) hroom
      rw [hnotfast hrun] at hw
      rw [hmsv, ← hwatch]
      exact hw
    · rw [hstop, writeResult_slipOnly w slip resultOk b hb, hframe.mem_eq]
    · rw [hstop]
      exact (hframe.weaken.then (writeResult_changes ..)).finish
  · let w := s.operatorCause .operatorFast .fast
    have hmsv : (finish s (s.dispatch slip .fastStop)).msv = w.msv := by
      rw [finish_msv, hfast, (writeResult_changes ..).msv_eq]
    have hhas : (s.msv.raised ⟨.operatorFast, .fast, 0, s.clockTime, 0, .clearedUnacked⟩ s.clockTime).hasFast = true :=
      raised_hasFast (State.causesOk_iff.mp hok) rfl (show Category.fast ∈ CauseCode.operatorFast.categories by decide) _
    have hstate : w.msv.state = if s.msv.state = .run ∨ s.msv.state = .stoppingService then .stoppingFast else s.msv.state :=
      operatorCause_fast_state hhas
    have hframe : ChangesOnly s causeParts w := listRaise_changes ..
    obtain ⟨hchain, hceiling, hspeed⟩ := fastStopped horder.operatorCause hstate
    obtain ⟨c, hc, hof, hsub, hrepeats⟩ := operatorCause_lists (category := .fast) hroom
    refine ⟨finish s (s.dispatch slip .fastStop), rfl, short_answered hslip hwf hframe (by decide) hfast, ?_, ?_, ?_, ?_, ?_, ?_,
      fun hpos => ?_, fun hconsistent hqueue => ?_, ?_⟩
    · rw [State.Lists, hmsv]
      exact ⟨c, hc, hof, hsub⟩
    · rw [hmsv]
      exact ⟨c, hc, (Cause.isOf_iff.mp hof).1, hrepeats⟩
    · rw [hmsv, hstate]
    · rw [hmsv, hchain]
    · rw [hmsv, hceiling]
    · rw [hmsv, hspeed]
    · have hw := operatorCause_watch (category := .fast) hok (hfall hpos) hpos (by decide) (by decide) hroom
      rw [hhas] at hw
      rw [hmsv, ← hwatch]
      exact hw
    · obtain ⟨u, hu, -, hraise⟩ := listRaise_room (category := .fast) (sub := .clearedUnacked) hroom
      let v := u.afterListChange .operatorFast 0
      have hv : ChangesOnly s supervisorParts v := hu.weaken.then (afterListChange_changes ..)
      obtain ⟨hqueued, -, -⟩ := askTrip_queues (s := v) (code := .operatorFast)
        (by rw [hv.lnc_eq]; exact hconsistent.trips) (by rw [hv.lnc_eq]; exact hqueue)
      have htold : v.tellFast .operatorFast 0 = v.askTrip .operatorFast := tellFast_eq rfl
      have hsaid : w = v.askTrip .operatorFast := hraise.trans htold
      have hlnc : (finish s (s.dispatch slip .fastStop)).lnc = w.lnc := by
        rw [finish_lnc, hfast, (writeResult_changes ..).lnc_eq]
      rw [State.Queues, hlnc, hsaid]
      exact hqueued
    · rw [hfast]
      exact (hframe.then (writeResult_changes ..)).finish
  · have hlnc : (finish s (s.dispatch slip .stop)).lnc = (s.operatorCause .operatorStop .service).lnc := by
      rw [finish_lnc, hstop, (writeResult_changes ..).lnc_eq]
    refine ⟨finish s (s.dispatch slip .stop), rfl, ?_, ?_, fun hconsistent hagg hqueue => ?_⟩
    · exact operator_overflows horder (by decide) hfull hnone hstop
    · exact short_answered hslip hwf (listRaise_changes s .operatorStop .service 0 .clearedUnacked) (by decide) hstop
    · rw [State.Queues, hlnc]
      exact (operatorCause_full_trips (category := .service) hconsistent hfull hnone rfl hqueue).2 hagg
  · have hlnc : (finish s (s.dispatch slip .fastStop)).lnc = (s.operatorCause .operatorFast .fast).lnc := by
      rw [finish_lnc, hfast, (writeResult_changes ..).lnc_eq]
    refine ⟨finish s (s.dispatch slip .fastStop), rfl, ?_, ?_, fun hconsistent hqueue => ?_⟩
    · exact operator_overflows horder (by decide) hfull hnone hfast
    · exact short_answered hslip hwf (listRaise_changes s .operatorFast .fast 0 .clearedUnacked) (by decide) hfast
    · have htrips := operatorCause_full_trips (category := .fast) hconsistent hfull hnone rfl
        (show s.lnc.queue.length + 1 < 16 by omega)
      rw [State.Queues, State.Queues, hlnc]
      exact ⟨htrips.1 rfl, htrips.2⟩

end Sys2Proof.Machine
end

section
/-! PROOF. Acknowledgement (O46; R146). -/

namespace Sys2Proof.Machine

-- One lemma at a time, as in Laws/State.lean.
set_option Elab.async false

open Sys2Proof

section
variable {s : State} {c : Cause} {pre post l : List Cause}

/-- What acknowledgement leaves of one entry (R146). -/
def Cause.acked (c : Cause) : List Cause := if c.sub = .clearedUnacked then [] else [{ c with sub := .activeAcked }]

/-- An identity that is listed once. -/
theorem isOf_false_of_nodup (hnodup : ((pre ++ c :: post).map fun x => (x.code, x.index)).Nodup) :
    (∀ x ∈ pre, x.isOf c.code c.index = false) ∧ ∀ x ∈ post, x.isOf c.code c.index = false := by
  rw [List.map_append, List.map_cons, List.nodup_append] at hnodup
  obtain ⟨-, hrest, hdisjoint⟩ := hnodup
  refine ⟨fun x hx => Bool.eq_false_iff.mpr fun hof => ?_, fun x hx => Bool.eq_false_iff.mpr fun hof => ?_⟩
  · obtain ⟨hcode, hindex⟩ := Cause.isOf_iff.mp hof
    exact hdisjoint _ (List.mem_map_of_mem hx) _ List.mem_cons_self (by rw [hcode, hindex])
  · obtain ⟨hcode, hindex⟩ := Cause.isOf_iff.mp hof
    exact (List.nodup_cons.mp hrest).1 (List.mem_map.mpr ⟨x, hx, by rw [hcode, hindex]⟩)

/-- Acknowledging an entry changes it in its place. -/
theorem ackedList_split (hnodup : ((pre ++ c :: post).map fun x => (x.code, x.index)).Nodup) :
    ackedList (pre ++ c :: post) c = pre ++ c.acked ++ post := by
  obtain ⟨hpre, hpost⟩ := isOf_false_of_nodup hnodup
  have hself : c.isOf c.code c.index = true := by simp [Cause.isOf]
  unfold ackedList Cause.acked
  cases hsub : c.sub with
  | activeUnacked =>
    have hkeep : ∀ l : List Cause, (∀ x ∈ l, x.isOf c.code c.index = false) →
        l.map (fun x => if x.isOf c.code c.index then { x with sub := .activeAcked } else x) = l := fun l hl => by
      rw [List.map_congr_left fun x hx => if_neg (by simp [hl x hx]), List.map_id']
    simp [hkeep pre hpre, hkeep post hpost, hself]
  | clearedUnacked =>
    have hkeep : ∀ l : List Cause, (∀ x ∈ l, x.isOf c.code c.index = false) →
        l.filter (fun x => !x.isOf c.code c.index) = l := fun l hl =>
      List.filter_eq_self.mpr fun x hx => by simp [hl x hx]
    simp [hkeep pre hpre, hkeep post hpost, hself]
  | activeAcked =>
    have hsame : { c with sub := .activeAcked } = c := by rw [← hsub]
    simp [hsame]

/-- Every entry of a list acknowledged in its place. -/
theorem foldl_ackedList (hnodup : ((pre ++ l).map fun x => (x.code, x.index)).Nodup) :
    l.foldl ackedList (pre ++ l) = pre ++ l.flatMap (·.acked) := by
  induction l generalizing pre with
  | nil => rfl
  | cons c rest ih =>
    have hident : ((pre ++ c.acked ++ rest).map fun x => (x.code, x.index)).Nodup := by
      unfold Cause.acked
      split
      · refine hnodup.sublist ?_
        rw [List.append_nil]
        exact ((List.sublist_cons_self c rest).append_left pre).map _
      · simpa using hnodup
    rw [List.foldl_cons, ackedList_split hnodup, ih hident, List.flatMap_cons, List.append_assoc]

theorem flatMap_acked (l : List Cause) : l.flatMap (·.acked) =
    (l.filter fun c => c.sub ≠ .clearedUnacked).map fun c => { c with sub := .activeAcked } := by
  induction l with
  | nil => rfl
  | cons c rest ih =>
    rw [List.flatMap_cons, ih, Cause.acked]
    by_cases h : c.sub = .clearedUnacked
    · simp [h]
    · simp [h]

theorem foldl_ackCauseEntry_causes (s : State) (l : List Cause) :
    (l.foldl (fun t c => t.ackCauseEntry c) s).msv.causes = l.foldl ackedList s.msv.causes := by
  induction l generalizing s with
  | nil => rfl
  | cons c rest ih => rw [List.foldl_cons, ih, ackCauseEntry_causes, List.foldl_cons]

theorem ackAggregate_lists (s : State) : s.ackAggregate.msv.causes = s.msv.causes ∧ s.ackAggregate.msv.aggregate = none := by
  unfold State.ackAggregate
  cases hagg : s.msv.aggregate with
  | none => exact ⟨rfl, hagg⟩
  | some a =>
    dsimp only [State.publishAggregate]
    have hlist := afterListChange_sameList (((s.updMsv fun m => { m with aggregate := none }).publishCause .causeRemoved
      ⟨.causeOverflow, .fast, 0, a.raised, a.repeats, .clearedUnacked⟩ 0)) .causeOverflow 0
    rw [hlist.causes, hlist.aggregate, publishCause_msv]
    exact ⟨rfl, rfl⟩

theorem ackAll_lists (hok : s.CausesOk) : s.ackAll.msv.aggregate = none ∧ s.ackAll.msv.causes =
    (s.msv.causes.filter fun c => c.sub ≠ .clearedUnacked).map fun c => { c with sub := .activeAcked } := by
  obtain ⟨hcauses, hagg⟩ := ackAggregate_lists (s.msv.causes.foldl (fun t c => t.ackCauseEntry c) s)
  refine ⟨hagg, ?_⟩
  have hfold : s.msv.causes.foldl ackedList s.msv.causes = s.msv.causes.flatMap (·.acked) :=
    foldl_ackedList (pre := []) hok.identity
  rw [State.ackAll, hcauses, foldl_ackCauseEntry_causes, hfold, flatMap_acked]

theorem ackSlot_entry {n code : Nat} (hn : n < 31) (hslot : s.msv.causes[n]? = some c) : s.ackSlot n code =
    if c.code.code = code then (s.ackCauseEntry c, resultOk) else (s, refusal .wrongState) := by
  unfold State.ackSlot
  rw [if_neg (by omega), if_neg (by omega), hslot]

theorem ackSlot_empty {n code : Nat} (hn : n < 31) (hempty : s.msv.causes.length ≤ n) :
    s.ackSlot n code = (s, refusal .wrongState) := by
  unfold State.ackSlot
  rw [if_neg (by omega), if_neg (by omega), List.getElem?_eq_none hempty]

/-- Acknowledging the entry of a slot (R146). -/
theorem ackCauseEntry_slot {n : Nat} (hok : s.CausesOk) (hslot : s.msv.causes[n]? = some c) :
    (s.ackCauseEntry c).msv.causes = if c.sub = .clearedUnacked then s.msv.causes.eraseIdx n
      else s.msv.causes.set n { c with sub := .activeAcked } := by
  obtain ⟨hn, hget⟩ := List.getElem?_eq_some_iff.mp hslot
  have hsplit : s.msv.causes = s.msv.causes.take n ++ c :: s.msv.causes.drop (n + 1) := by
    rw [← hget, ← List.drop_eq_getElem_cons hn, List.take_append_drop]
  have hnodup := hok.identity
  rw [hsplit] at hnodup
  rw [ackCauseEntry_causes]
  conv_lhs => rw [hsplit]
  rw [ackedList_split hnodup, Cause.acked]
  split
  · rw [List.append_nil, List.eraseIdx_eq_take_drop_succ]
  · rw [List.set_eq_take_append_cons_drop, if_pos hn, List.append_assoc, List.singleton_append]

end

/-- Settles O46: the list after each form of the order. -/
theorem ackRemovesClearedCauses : Obligations.AckRemovesClearedCauses := by
  intro s slip n hslip hwf hstandby hobeys hok
  have hdispatch : ∀ slot code p, s.ackOrder slot code = p →
      s.dispatch slip (.ackCause slot code) = p.1.writeResult slip p.2 := fun slot code p hp => by
    rw [dispatch_short rfl (.inl hstandby)]
    exact congrArg (fun p : State × OrderResult => p.1.writeResult slip p.2) hp
  have hrefused : ∀ code, n < 31 → s.ackOrder n code = (s, refusal .wrongState) →
      ∃ t, exec (.ackCause slip n code) s = .next t ∧ t.Answered slip (refusal .wrongState) ∧ SlipOnly slip s t ∧
        ChangesOnly s [.mem, .news] t := fun code hn hp => by
    have hrun := hdispatch n code _ hp
    refine ⟨finish s (s.dispatch slip (.ackCause n code)), rfl, ?_, finish_slipOnly ?_, ?_⟩
    · exact short_answered hslip hwf (.refl s []) (by decide) hrun
    · rw [hrun]
      exact writeResult_slipOnly s slip (refusal .wrongState)
    · rw [hrun]
      exact (writeResult_changes ..).finish
  have hslot : ∀ code, n < 31 → s.ackOrder n code = s.ackSlot n code := fun code hn => if_neg (by omega)
  have haccepted : ∀ slot code u, ChangesOnly s supervisorParts u → s.ackOrder slot code = (u, resultOk) →
      ∃ t, exec (.ackCause slip slot code) s = .next t ∧ SlipOnly slip s t ∧
        ChangesOnly s [.msv, .lch, .mem, .news, .journal] t ∧ t.Answered slip resultOk ∧ t.msv = u.msv := fun slot code u hu hp => by
    have hrun := hdispatch slot code _ hp
    refine ⟨finish s (s.dispatch slip (.ackCause slot code)), rfl, finish_slipOnly fun a ha => ?_, ?_, ?_, ?_⟩
    · rw [hrun, writeResult_slipOnly u slip resultOk a ha, hu.mem_eq]
    · rw [hrun]
      exact (hu.weaken.then (writeResult_changes ..)).finish
    · exact short_answered hslip hwf hu (by decide) hrun
    · rw [finish_msv, hrun, (writeResult_changes ..).msv_eq]
  refine ⟨?_, fun c hc hn => ⟨?_, ?_⟩, fun hempty hn => ?_⟩
  · obtain ⟨t, hexec, honly, hframe, hanswered, hmsv⟩ := haccepted 255 0 s.ackAll (ackAll_changes s) (if_pos rfl)
    obtain ⟨hagg, hcauses⟩ := ackAll_lists hok
    exact ⟨t, hexec, honly, hframe, hanswered, by rw [hmsv, hagg], by rw [hmsv, hcauses]⟩
  · have hack : s.ackOrder n c.code.code = (s.ackCauseEntry c, resultOk) := by
      rw [hslot _ hn, ackSlot_entry hn hc, if_pos rfl]
    obtain ⟨t, hexec, honly, hframe, hanswered, hmsv⟩ := haccepted n c.code.code _ (ackCauseEntry_changes s c) hack
    exact ⟨t, hexec, honly, hframe, hanswered, by rw [hmsv, ackCauseEntry_slot hok hc]⟩
  · refine hrefused _ hn ?_
    rw [hslot _ hn, ackSlot_entry hn hc, if_neg (by omega)]
  · refine hrefused _ hn ?_
    rw [hslot _ hn]
    exact ackSlot_empty hn hempty

end Sys2Proof.Machine
end

section
/-! PROOF. START, RESUME, SET_CEILING and CHAIN_SENSE (O45; R150, R152, R154 to R156, R159). -/

namespace Sys2Proof.Machine

-- One lemma at a time, as in Laws/State.lean.
set_option Elab.async false

open Sys2Proof

section
variable {s : State}

theorem foldl_min_le {α : Type} (f : α → Nat) (l : List α) (n : Nat) : l.foldl (fun n p => min n (f p)) n ≤ n := by
  induction l generalizing n with
  | nil => exact Nat.le_refl n
  | cons p rest ih => exact (ih _).trans (Nat.min_le_left ..)

/-- No limit and no operator raises the target above the design maximum, and no limit above the operator ceiling (R156). -/
theorem ceilingTarget_le (s : State) :
    s.ceilingTarget ≤ s.sst.active.rope.designMax ∧ s.ceilingTarget ≤ s.msv.opCeiling := by
  unfold State.ceilingTarget
  split
  · exact ⟨Nat.zero_le _, Nat.zero_le _⟩
  · have hle := foldl_min_le (fun p : CauseCode × Nat => s.sst.active.ceiling.cap p.1) s.msv.limits
      (min s.sst.active.rope.designMax s.msv.opCeiling)
    exact ⟨hle.trans (Nat.min_le_left ..), hle.trans (Nat.min_le_right ..)⟩

/-- A change of state never raises the ceiling in force (R157). -/
theorem changeState_ceiling_le (s : State) (new : SupState) (brought : List Byte) :
    (s.changeState new brought).msv.ceiling ≤ s.msv.ceiling := by
  unfold State.changeState
  rw [gateEvent_msv, recomputeCeiling_msv]
  dsimp only
  rw [setChain_msv, journal_msv]
  exact Nat.min_le_left ..

end

/-- Settles O45: each order and each edge by the state of the line and of the chain. -/
theorem startAndResumeMoveSupervisor : Obligations.StartAndResumeMoveSupervisor := by
  intro s slip value hslip hwf hobeys hok hroom top
  have horder : s.InOrder := ⟨hobeys, hok⟩
  refine ⟨fun hstandby hvalid => ?_, fun hheld hstill hlatched htracking => ?_, fun hsense => ?_, fun hsense => ?_,
    fun hstandby hvalue => ?_⟩
  · let w := s.changeState .held []
    have hw : ChangesOnly s supervisorParts w := changeState_changes ..
    have hstart : s.startOrder = (w, resultOk) := by
      unfold State.startOrder
      rw [if_neg (not_not.mpr hstandby), hvalid]
    have hrun : s.dispatch slip .start = w.writeResult slip resultOk := by
      have hshort : s.runShort .start = (w, resultOk) := hstart
      rw [dispatch_short (o := .start) rfl (.inr rfl), hshort]
    have hmsv : (finish s (s.dispatch slip .start)).msv = w.msv := by
      rw [finish_msv, hrun, (writeResult_changes ..).msv_eq]
    have hlist := changeState_sameList s .held []
    refine ⟨finish s (s.dispatch slip .start), rfl, short_answered hslip hwf hw (by decide) hrun, ?_, ?_, ?_, ?_,
      finish_slipOnly fun a ha => ?_, ?_⟩
    · rw [hmsv, changeState_state]
    · rw [hmsv, changeState_chainOut]
      rfl
    · rw [hmsv, hlist.causes]
    · rw [hmsv, hlist.opCeiling]
    · rw [hrun, writeResult_slipOnly w slip resultOk a ha, hw.mem_eq]
    · rw [hrun]
      exact (hw.weaken.then (writeResult_changes ..)).finish
  · let w := s.changeState .run []
    let v := w.when (!s.pins.chainSense) (·.raiseCause .externalChain .fast 0)
    have hw : ChangesOnly s supervisorParts w := changeState_changes ..
    have hv : ChangesOnly s causeParts v := hw.weaken.then (.when (raiseCause_changes ..))
    have hresume : s.resumeOrder = (v, resultOk) := by
      unfold State.resumeOrder
      rw [if_neg (not_not.mpr hheld), if_neg (not_not.mpr hstill), if_neg (by simp [hlatched]),
        if_neg (not_not.mpr htracking)]
    have hrun : s.dispatch slip .resume = v.writeResult slip resultOk := by
      have hshort : s.runShort .resume = (v, resultOk) := hresume
      rw [dispatch_short (o := .resume) rfl (.inl (by rw [hheld]; exact SupState.noConfusion)), hshort]
    have hmsv : (finish s (s.dispatch slip .resume)).msv = v.msv := by
      rw [finish_msv, hrun, (writeResult_changes ..).msv_eq]
    have hlist := changeState_sameList s .run []
    have hwOrder : w.InOrder := changeState_inOrder _ horder.chainFollows.causes
      (fun hf => Bool.noConfusion (hlatched.symm.trans (hasLatched_of_hasFast hf)))
      fun hl => Bool.noConfusion (hlatched.symm.trans hl)
    refine ⟨finish s (s.dispatch slip .resume), rfl, short_answered hslip hwf hv (by decide) hrun, ?_, fun hclosed => ?_,
      fun hopen => ?_⟩
    · rw [hrun]
      exact (hv.then (writeResult_changes ..)).finish
    · have hplain : v = w := by
        simp only [v, hclosed]
        rfl
      have hzero : s.msv.ceiling = 0 := (hobeys.stopped (by rw [hheld]; exact SupState.noConfusion)).2.1
      obtain ⟨htop, hoperator⟩ := ceilingTarget_le w
      rw [hplain] at hrun hmsv
      refine ⟨?_, ?_, ?_, ?_, ?_, ?_, finish_slipOnly fun a ha => ?_, ?_⟩
      · rw [hmsv, changeState_state]
      · rw [hmsv, changeState_chainOut]
        rfl
      · rw [hmsv, hlist.causes]
      · have hle := changeState_ceiling_le s .run []
        rw [hmsv, hzero]
        exact Nat.le_zero.mp (hzero ▸ hle)
      · rw [hmsv, hwOrder.obeys.target]
        rw [hw.sst_eq] at htop
        exact htop
      · rw [hmsv, hwOrder.obeys.target]
        rw [hlist.opCeiling] at hoperator
        exact hoperator
      · rw [hrun, writeResult_slipOnly w slip resultOk a ha, hw.mem_eq]
      · rw [hrun]
        exact (hw.weaken.then (writeResult_changes ..)).finish
    · have hraised : v = w.raiseCause .externalChain .fast 0 := by
        simp only [v, hopen]
        rfl
      obtain ⟨hstate, hchain⟩ := raiseCause_fast_stops (s := w) (code := .externalChain) (index := 0) hwOrder.causesOk
        (.inl (changeState_state ..))
      have hlists : (w.raiseCause .externalChain .fast 0).Lists .externalChain 0 .activeUnacked :=
        raiseCause_lists (by rw [hlist.causes]; exact hroom)
      rw [State.Lists, hmsv, hraised]
      exact ⟨hstate, hchain, hlists⟩
  · let u := (s.updPins fun p => { p with chainSense := false }).setNews .chain
    have hu : ChangesOnly s [.pins, .news] u := (updPins_changes s _).weaken.then (setNews_changes ..)
    have hedge : s.chainSenseChange false = u.when u.msv.chainOut (·.raiseCause .externalChain .fast 0) := by
      unfold State.chainSenseChange
      rw [if_neg (by simp [hsense])]
      rfl
    refine ⟨finish s (s.chainSenseChange false), rfl, ?_, (chainSenseChange_changes ..).finish, fun hclosed => ?_,
      fun hopen => ?_⟩
    · have hpins : (u.when u.msv.chainOut (·.raiseCause .externalChain .fast 0)).pins = u.pins :=
        (ChangesOnly.when (raiseCause_changes u ..)).pins_eq
      rw [finish_pins, hedge, hpins]
      rfl
    · have hraised : s.chainSenseChange false = u.raiseCause .externalChain .fast 0 := by
        rw [hedge, show u.msv.chainOut = true from hclosed]
        rfl
      have hmoving : u.msv.state = .run ∨ u.msv.state = .stoppingService := by
        have hstate : s.msv.state.chainClosed = true := hobeys.chain.symm.trans hclosed
        change s.msv.state = .run ∨ s.msv.state = .stoppingService
        cases hs : s.msv.state
        case run => exact .inl rfl
        case stoppingService => exact .inr rfl
        all_goals exact Bool.noConfusion (hs ▸ hstate)
      obtain ⟨hstate, hchain⟩ := raiseCause_fast_stops (s := u) (code := .externalChain) (index := 0) (hok.of_msv_eq rfl) hmoving
      have hlists : (u.raiseCause .externalChain .fast 0).Lists .externalChain 0 .activeUnacked :=
        raiseCause_lists (s := u) hroom
      rw [State.Lists, finish_msv, hraised]
      exact ⟨hstate, hchain, hlists⟩
    · have hquiet : s.chainSenseChange false = u := by
        rw [hedge, show u.msv.chainOut = false from hopen]
        rfl
      rw [hquiet]
      exact hu.finish
  · let u := (s.updPins fun p => { p with chainSense := true }).setNews .chain
    have hu : ChangesOnly s [.pins, .news] u := (updPins_changes s _).weaken.then (setNews_changes ..)
    have hedge : s.chainSenseChange true = u.endCause .externalChain 0 := by
      unfold State.chainSenseChange
      rw [if_neg (by simp [hsense])]
      rfl
    refine ⟨finish s (s.chainSenseChange true), rfl, ?_, ?_, ?_⟩
    · rw [finish_pins, hedge, (endCause_changes ..).pins_eq]
      rfl
    · rw [hedge]
      exact (hu.weaken.then (endCause_changes ..)).finish
    · rw [State.NoneActive, finish_msv, hedge]
      exact endCause_noneActive (hok.of_msv_eq rfl)
  · let v := min value top
    let w := s.setOperatorCeiling v
    let r : OrderResult := if value ≤ top then resultOk else ⟨true, .clamped, [BitVec.ofNat 8 top, BitVec.ofNat 8 (top / 256)]⟩
    have hw : ChangesOnly s [.msv] w := (updMsv_changes s _).then (recomputeCeiling_changes _)
    have hset : s.setCeiling value = (w, r) := by
      unfold State.setCeiling
      dsimp only
      rw [if_neg (by omega)]
      by_cases hle : value ≤ top
      · simp only [w, v, r, if_neg (show ¬ s.sst.active.rope.designMax < value by omega), if_pos hle, Nat.min_eq_left hle]
      · simp only [w, v, r, if_pos (show s.sst.active.rope.designMax < value by omega), if_neg hle,
          Nat.min_eq_right (Nat.le_of_not_le hle)]
        rfl
    have hrun : s.dispatch slip (.setCeiling value) = w.writeResult slip r := by
      have hshort : s.runShort (.setCeiling value) = (w, r) := hset
      rw [dispatch_short (o := .setCeiling value) rfl (.inl hstandby), hshort]
    have hmsv : (finish s (s.dispatch slip (.setCeiling value))).msv = w.msv := by
      rw [finish_msv, hrun, (writeResult_changes ..).msv_eq]
    have hceiling : w.msv = _ := recomputeCeiling_msv (s.updMsv fun m => { m with opCeiling := v })
    have hdata : r.data.length ≤ 16 := by
      simp only [r]
      split <;> simp [resultOk]
    refine ⟨finish s (s.dispatch slip (.setCeiling value)), rfl, ?_, ?_, ?_, short_answered hslip hwf hw hdata hrun,
      finish_slipOnly fun a ha => ?_, ?_⟩
    · rw [hmsv, hceiling]
      rfl
    · rw [hmsv, hceiling]
      rfl
    · rw [hmsv, hceiling]
      rfl
    · rw [hrun, writeResult_slipOnly w slip r a ha, hw.mem_eq]
    · rw [hrun]
      exact (hw.weaken.then (writeResult_changes ..)).finish

end Sys2Proof.Machine
end

section
/-! PROOF. The supervisor's window end (O47; R149, R153, R154, R157, R158, R160 to R162). -/

namespace Sys2Proof.Machine

-- One lemma at a time, as in Laws/State.lean.
set_option Elab.async false

open Sys2Proof

section
variable {s : State}

/-! ## The bound and the situation (R160, R161) -/

/-- The line is at rest: the bound is that of creeping (R161). -/
def SupState.resting (a : SupState) : Prop := a = .held ∨ a = .standby

theorem speedBound_resting (h : s.msv.state.resting) : s.speedBound = 20 := by
  unfold State.speedBound
  rcases h with h | h <;> rw [h]

theorem speedBound_moving (h : ¬ s.msv.state.resting) : s.speedBound =
    max (s.msv.ceiling + margin s.msv.ceiling) ((s.msv.watch.map (·.envelope s.now)).getD 0) := by
  unfold State.speedBound
  cases hstate : s.msv.state
  case standby => exact absurd (.inr hstate) h
  case held => exact absurd (.inl hstate) h
  all_goals cases s.msv.watch <;> simp

theorem speedSituation_resting (h : s.msv.state.resting) : s.speedSituation = .ropeCreep := by
  unfold State.speedSituation
  rcases h with h | h <;> rw [h]

theorem speedSituation_moving (h : ¬ s.msv.state.resting) :
    s.speedSituation = if s.msv.watch = none then .overspeed else .decelFail := by
  unfold State.speedSituation
  cases hstate : s.msv.state
  case standby => exact absurd (.inr hstate) h
  case held => exact absurd (.inl hstate) h
  all_goals cases s.msv.watch <;> rfl

/-! ## The steps behind the speed test (R153, R157, R158, R162) -/

/-- The window end behind the speed test. -/
def State.settle (s : State) : State := s.stopEnd.watchEnd.ramp

theorem supervisorWindow_eq (s : State) : s.supervisorWindow = s.speedTest.settle := rfl

/-- A watch whose envelope has come down ends (R162). -/
def Watch.held (w : Watch) (bound now : Nat) : Option Watch :=
  if w.envelope now ≤ bound then none else some { w with lastEnvelope := w.envelope now }

theorem watchEnd_msv (s : State) : s.watchEnd.msv = { s.msv with
    watch := s.msv.watch.bind fun w => w.held (s.msv.ceiling + margin s.msv.ceiling) s.now } := by
  unfold State.watchEnd
  cases h : s.msv.watch with
  | none =>
    show s.msv = { s.msv with watch := none }
    rw [← h]
  | some w => rfl

theorem ramp_msv (s : State) : s.ramp.msv = if s.msv.ceiling < s.msv.target then { s.msv with
      ceiling := min s.msv.target (s.msv.ceiling + rampStep s.sst.active.rope.accel)
      speedRef := speedRefOf (min s.msv.target (s.msv.ceiling + rampStep s.sst.active.rope.accel)) s.sst.active.rope.designMax }
    else s.msv := by
  unfold State.ramp
  split <;> rfl

theorem watchEnd_sst (s : State) : s.watchEnd.sst = s.sst := by
  unfold State.watchEnd
  split <;> rfl

/-- A stop that has not come to rest, and RUN, stay. -/
theorem stopEnd_moving (h : ¬ ((s.msv.state = .stoppingService ∨ s.msv.state = .stoppingFast) ∧ s.rpm.standstill = true)) :
    s.stopEnd = s := if_neg h

theorem settle_sameList (s : State) : s.msv.SameList s.settle.msv := by
  have hstop : s.msv.SameList s.stopEnd.msv := by
    unfold State.stopEnd
    split
    · exact changeState_sameList ..
    · exact ⟨rfl, rfl, rfl, rfl, rfl, rfl, rfl, rfl⟩
  have hrest : s.stopEnd.msv.SameList s.settle.msv := by
    rw [State.settle, ramp_msv, watchEnd_msv]
    split <;> exact ⟨rfl, rfl, rfl, rfl, rfl, rfl, rfl, rfl⟩
  exact ⟨hrest.causes.trans hstop.causes, hrest.aggregate.trans hstop.aggregate, hrest.limits.trans hstop.limits,
    hrest.opCeiling.trans hstop.opCeiling, hrest.exceed.trans hstop.exceed, hrest.overspeed.trans hstop.overspeed,
    hrest.decelFail.trans hstop.decelFail, hrest.ropeCreep.trans hstop.ropeCreep⟩

/-- Behind a stop that goes on, or with the ceiling at its target, the watch alone may end. -/
theorem settle_msv (hmoving : ¬ ((s.msv.state = .stoppingService ∨ s.msv.state = .stoppingFast) ∧ s.rpm.standstill = true)) :
    s.settle.msv = if s.msv.ceiling < s.msv.target then { s.msv with
        watch := s.msv.watch.bind fun w => w.held (s.msv.ceiling + margin s.msv.ceiling) s.now
        ceiling := min s.msv.target (s.msv.ceiling + rampStep s.sst.active.rope.accel)
        speedRef := speedRefOf (min s.msv.target (s.msv.ceiling + rampStep s.sst.active.rope.accel)) s.sst.active.rope.designMax }
      else { s.msv with watch := s.msv.watch.bind fun w => w.held (s.msv.ceiling + margin s.msv.ceiling) s.now } := by
  rw [State.settle, stopEnd_moving hmoving, ramp_msv, watchEnd_msv, watchEnd_sst]

/-- The change to HELD ends the watch (R162). -/
theorem changeState_held_watch (hceiling : s.msv.ceiling = 0) {brought : List Byte} :
    (s.changeState .held brought).msv.watch = none := by
  simp only [State.changeState, gateEvent_msv, recomputeCeiling_msv, setChain_msv, journal_msv, State.updMsv_msv, hceiling,
    if_neg (Nat.not_lt_zero _), State.watchAtChange]
  cases s.msv.watch <;> rfl

/-- A stop at standstill ends in HELD with no watch (R153, R162). -/
theorem settle_stopped (horder : s.InOrder) (hstopping : s.msv.state = .stoppingService ∨ s.msv.state = .stoppingFast)
    (hstill : s.rpm.standstill = true) :
    s.settle.msv.state = .held ∧ s.settle.msv.chainOut = false ∧ s.settle.msv.watch = none := by
  let u := s.changeState .held (le32 s.rpm.dist.toNat)
  have hend : s.stopEnd = u := if_pos ⟨hstopping, hstill⟩
  have hu : u.InOrder := horder.changeState
  have hzero : s.msv.ceiling = 0 := (horder.obeys.stopped (by rcases hstopping with h | h <;> simp [h])).2.1
  obtain ⟨htarget, -, -⟩ := hu.obeys.stopped (by rw [changeState_state]; exact SupState.noConfusion)
  have hwatch : u.msv.watch = none := changeState_held_watch hzero
  have hramp : s.settle.msv = { u.msv with watch := none } := by
    rw [State.settle, hend, ramp_msv, watchEnd_msv]
    dsimp only
    rw [htarget, if_neg (Nat.not_lt_zero _), hwatch]
    rfl
  rw [hramp]
  exact ⟨changeState_state .., changeState_chainOut .., rfl⟩

/-! ## The test of the speed against its bound (R160) -/

/-- The state in which the bound is exceeded for the second time: the count and the mark of its speed cause (R160). -/
def State.speeding (s : State) : State :=
  (s.updMsv fun m => { m with exceed := 2 }).updMsv (·.setSpeedActive s.speedSituation true)

/-- The state at or below its bound, as long as no speed cause ends (R160). -/
def State.inBound (s : State) : State := s.updMsv fun m => { m with exceed := 0 }

theorem speedTest_inBound (h : s.rpm.v ≤ s.speedBound) :
    s.speedTest = ((s.inBound.endSpeed .overspeed).endSpeed .decelFail).endSpeed .ropeCreep := if_neg (Nat.not_lt.mpr h)

theorem speedTest_exceeds (h : s.speedBound < s.rpm.v) : s.speedTest.msv.exceed = min 2 (s.msv.exceed + 1) := by
  rw [State.speedTest, if_pos h, ← satInc_eq_min]
  dsimp only
  split
  · rw [(raiseCause_sameList ..).exceed, State.msvRaised, withLimit_of_ne (h := Category.noConfusion)]
    obtain ⟨_, _, _, heq⟩ := setSpeedActive_eq { s.msv with exceed := satInc 2 s.msv.exceed } s.speedSituation true
    simp only [Msv.raised, State.updMsv_msv, heq]
  · rfl

theorem speedTest_raises (h : s.speedBound < s.rpm.v) (hcount : 1 ≤ s.msv.exceed)
    (hinactive : s.msv.speedActive s.speedSituation = false) :
    s.speedTest = s.speeding.raiseCause s.speedSituation .fast 0 := by
  have hn : satInc 2 s.msv.exceed = 2 := by
    rw [satInc_eq_min]
    omega
  rw [State.speedTest, if_pos h]
  dsimp only
  rw [if_pos ⟨hn, by simp [hinactive]⟩, hn]
  rfl

theorem speeding_msv (s : State) : ∃ overspeed decelFail ropeCreep,
    s.speeding.msv = { s.msv with exceed := 2, overspeed, decelFail, ropeCreep } :=
  setSpeedActive_eq { s.msv with exceed := 2 } s.speedSituation true

theorem speeding_changes (s : State) : ChangesOnly s [.msv] s.speeding := (updMsv_changes s _).then (updMsv_changes _ _)

theorem speedSituation_categories (s : State) : s.speedSituation.categories = [.fast] := by
  unfold State.speedSituation
  split <;> rfl

/-- Every way through the speed test leaves a stop a stop. -/
theorem speedTest_stops (s : State) : s.Stops s.speedTest := by
  have hend : ∀ (u : State) (code : CauseCode), u.Stops (u.endSpeed code) := fun u code => by
    obtain ⟨_, _, _, heq⟩ := setSpeedActive_eq u.msv code false
    have hmark : u.Stops (u.updMsv (·.setSpeedActive code false)) :=
      ⟨.inl (by rw [State.updMsv_msv, heq]), fun _ => by rw [State.updMsv_msv, heq]⟩
    exact .ite hmark.endCause (.refl u)
  have hcount : ∀ n, s.Stops (s.updMsv fun m => { m with exceed := n }) := fun n => ⟨.inl rfl, fun _ => rfl⟩
  have hmark : s.Stops ((s.updMsv fun m => { m with exceed := satInc 2 m.exceed }).updMsv
      (·.setSpeedActive s.speedSituation true)) := by
    obtain ⟨_, _, _, heq⟩ := setSpeedActive_eq { s.msv with exceed := satInc 2 s.msv.exceed } s.speedSituation true
    exact ⟨.inl (by simp only [State.updMsv_msv, heq]), fun _ => by simp only [State.updMsv_msv, heq]⟩
  exact .ite (.ite hmark.raiseCause (hcount _)) ((((hcount 0).trans (hend _ _)).trans (hend _ _)).trans (hend _ _))

/-! ## Within the bound -/

theorem endSpeed_speedActive {code : CauseCode} (hspeed : code.isSpeed = true) (other : CauseCode) :
    (s.endSpeed code).msv.speedActive other = if other = code then false else s.msv.speedActive other := by
  unfold State.endSpeed
  by_cases hactive : s.msv.speedActive code = true
  · obtain ⟨limits, -, h⟩ := endCause_sameList (s.updMsv (·.setSpeedActive code false)) code 0
    rw [if_pos hactive, speedActive_congr h.overspeed h.decelFail h.ropeCreep]
    split
    · next heq => exact heq ▸ speedActive_setSpeedActive_same hspeed s.msv false
    · next hne => exact speedActive_setSpeedActive_ne hne s.msv false
  · rw [if_neg hactive]
    split
    · next heq => rw [heq, Bool.eq_false_iff.mpr hactive]
    · rfl

/-- Within the bound no speed cause stays marked (R160). -/
theorem speedTest_unmarked (h : s.rpm.v ≤ s.speedBound) {code : CauseCode} (hspeed : code.isSpeed = true) :
    s.speedTest.msv.speedActive code = false := by
  rw [speedTest_inBound h, endSpeed_speedActive rfl, endSpeed_speedActive rfl, endSpeed_speedActive rfl]
  cases code
  case overspeed | decelFail | ropeCreep => rfl
  all_goals cases hspeed

theorem endSpeed_exceed (code : CauseCode) : (s.endSpeed code).msv.exceed = s.msv.exceed := by
  unfold State.endSpeed
  split
  · obtain ⟨limits, -, h⟩ := endCause_sameList (s.updMsv (·.setSpeedActive code false)) code 0
    obtain ⟨_, _, _, heq⟩ := setSpeedActive_eq s.msv code false
    rw [h.exceed]
    simp only [State.updMsv_msv, heq]
  · rfl

theorem speedTest_counts (h : s.rpm.v ≤ s.speedBound) : s.speedTest.msv.exceed = 0 := by
  rw [speedTest_inBound h, endSpeed_exceed, endSpeed_exceed, endSpeed_exceed]
  rfl

/-- An active entry of a speed cause has its mark, so without the mark there is none (R160). -/
theorem Msv.NamesOk.noneActive (h : s.msv.NamesOk) {code : CauseCode} (hspeed : code.isSpeed = true)
    (hunmarked : s.msv.speedActive code = false) : s.NoneActive code 0 := fun c hc hof => by
  obtain ⟨hcode, -⟩ := Cause.isOf_iff.mp hof
  by_contra hsub
  have hmarked := (h.speed c hc hsub (hcode ▸ hspeed)).2
  rw [hcode, hunmarked] at hmarked
  exact Bool.noConfusion hmarked

/-- Where the list and the LIMIT register have nothing of a cause, its end changes nothing. -/
theorem endCause_none {code : CauseCode} {i : Nat} (hlimits : (code, i) ∉ s.msv.limits)
    (hcauses : ∀ c ∈ s.msv.causes, c.isOf code i = false) : s.endCause code i = s := by
  have hfind : s.msv.causes.find? (·.isOf code i) = none :=
    List.find?_eq_none.mpr fun c hc hof => Bool.noConfusion ((hcauses c hc).symm.trans hof)
  rw [State.endCause, if_neg (by simpa using hlimits), State.listEnd, hfind]

/-- The list and the LIMIT register have nothing of the speed causes. -/
def State.NoSpeed (s : State) : Prop :=
  (∀ p ∈ s.msv.limits, p.1.isSpeed = false) ∧ ∀ c ∈ s.msv.causes, c.code.isSpeed = false

/-- In RUN only LIMIT causes are listed, which a speed cause is not (R148, R149). -/
theorem noSpeed_of_run (hobeys : s.Obeys) (hok : s.CausesOk) (hconsistent : s.Consistent) (hrun : s.msv.state = .run) :
    s.NoSpeed := by
  refine ⟨fun p hp => ?_, fun c hc => ?_⟩
  · have hlimit := hconsistent.limits p hp
    cases hcode : p.1
    case overspeed | decelFail | ropeCreep => simp [hcode, CauseCode.categories] at hlimit
    all_goals rfl
  · have hlatched : s.msv.hasLatched ≠ true := fun h => hobeys.latched h hrun
    have hlimit : c.category = .limit := by
      by_contra hne
      exact hlatched (by rw [Msv.hasLatched, List.any_eq_true.mpr ⟨c, hc, by simp [Cause.latched, hne]⟩, Bool.true_or])
    have hcategory := hok.category c hc
    cases hcode : c.code
    case overspeed | decelFail | ropeCreep => simp [hcode, CauseCode.categories, hlimit] at hcategory
    all_goals rfl

theorem endSpeed_msv (h : s.NoSpeed) {code : CauseCode} (hspeed : code.isSpeed = true) : ∃ overspeed decelFail ropeCreep,
    (s.endSpeed code).msv = { s.msv with overspeed, decelFail, ropeCreep } := by
  obtain ⟨overspeed, decelFail, ropeCreep, heq⟩ := setSpeedActive_eq s.msv code false
  unfold State.endSpeed
  split
  · refine ⟨overspeed, decelFail, ropeCreep, ?_⟩
    rw [endCause_none, State.updMsv_msv, heq]
    · rw [State.updMsv_msv, heq]
      exact fun hp => Bool.noConfusion ((h.1 _ hp).symm.trans hspeed)
    · rw [State.updMsv_msv, heq]
      intro c hc
      refine Bool.eq_false_iff.mpr fun hof => ?_
      exact Bool.noConfusion ((h.2 c hc).symm.trans ((Cause.isOf_iff.mp hof).1 ▸ hspeed))
  · exact ⟨_, _, _, rfl⟩

theorem State.NoSpeed.endSpeed (h : s.NoSpeed) {code : CauseCode} (hspeed : code.isSpeed = true) :
    (s.endSpeed code).NoSpeed := by
  obtain ⟨_, _, _, heq⟩ := endSpeed_msv h hspeed
  rw [State.NoSpeed, heq]
  exact h

/-- In RUN within the bound, the count and the marks alone change. -/
theorem speedTest_run (hbound : s.rpm.v ≤ s.speedBound) (h : s.NoSpeed) : ∃ overspeed decelFail ropeCreep,
    s.speedTest.msv = { s.msv with exceed := 0, overspeed, decelFail, ropeCreep } := by
  have h0 : s.inBound.NoSpeed := h
  have h1 := h0.endSpeed (code := .overspeed) rfl
  obtain ⟨_, _, _, heq1⟩ := endSpeed_msv h0 (code := .overspeed) rfl
  obtain ⟨_, _, _, heq2⟩ := endSpeed_msv h1 (code := .decelFail) rfl
  obtain ⟨a, b, c, heq3⟩ := endSpeed_msv (h1.endSpeed (code := .decelFail) rfl) (code := .ropeCreep) rfl
  refine ⟨a, b, c, ?_⟩
  rw [speedTest_inBound hbound, heq3, heq2, heq1]
  rfl

/-! ## The fast stop of a speed cause -/

theorem fallWatch_eq (h : ¬ s.msv.state.resting) (decel : Nat) :
    s.fallWatch decel = ⟨s.speedBound, decel, s.now, s.speedBound⟩ := by
  rw [speedBound_moving h, State.fallWatch]
  cases s.msv.watch <;> simp

/-- Behind a fall to STOPPING_FAST the window end keeps a watch from the bound, where that lies above 20 cm/s (R161, R162). -/
theorem changeState_fast_watch (h : ¬ s.msv.state.resting) (brought : List Byte) :
    ((s.changeState .stoppingFast brought).msv.watch.bind fun w => w.held 20 s.now) =
      if s.speedBound ≤ 20 then none else some ⟨s.speedBound, s.sst.active.rope.aFast, s.now, s.speedBound⟩ := by
  by_cases hceiling : 0 < s.msv.ceiling
  · rw [changeState_watch SupState.noConfusion SupState.noConfusion hceiling, if_pos rfl, fallWatch_eq h]
    simp [Watch.held, Watch.envelope]
  · have hzero : s.msv.ceiling = 0 := by omega
    have hwatch : (s.changeState .stoppingFast brought).msv.watch = s.watchAtChange .stoppingFast := by
      simp only [State.changeState, gateEvent_msv, recomputeCeiling_msv, setChain_msv, journal_msv, State.updMsv_msv, hzero,
        if_neg (Nat.not_lt_zero _)]
    rw [hwatch, speedBound_moving h, hzero, State.watchAtChange]
    cases s.msv.watch with
    | none => rfl
    | some w =>
      have henvelope : max (0 + margin 0) (w.envelope s.now) = max 20 (w.envelope s.now) := rfl
      simp only [Option.map_some, Option.getD_some, henvelope, reduceCtorEq, if_false, if_true, Option.bind_some, Watch.held]
      by_cases hlow : w.envelope s.now ≤ 20
      · rw [if_pos (by simpa [Watch.envelope] using hlow), if_pos (by omega)]
      · rw [if_neg (by simpa [Watch.envelope] using hlow), if_neg (by omega), Nat.max_eq_right (by omega)]
        simp [Watch.envelope]

/-- A speed cause raised in a moving line stops it fast, with the watch of the fall (R149, R160 to R162). -/
theorem raiseCause_speed {code : CauseCode} (horder : s.InOrder) (hroom : s.msv.causes.length < 31)
    (hmoving : s.msv.state = .run ∨ s.msv.state = .stoppingService) (hfast : code.categories = [.fast]) :
    (s.raiseCause code .fast 0).msv.state = .stoppingFast ∧ (s.raiseCause code .fast 0).msv.chainOut = false ∧
      (s.raiseCause code .fast 0).msv.ceiling = 0 ∧ (s.raiseCause code .fast 0).msv.target = 0 ∧
      ((s.raiseCause code .fast 0).msv.watch.bind fun w => w.held 20 s.now) =
        if s.speedBound ≤ 20 then none else some ⟨s.speedBound, s.sst.active.rope.aFast, s.now, s.speedBound⟩ := by
  have hmem : Category.fast ∈ code.categories := by rw [hfast]; exact List.mem_singleton_self _
  obtain ⟨hstate, hchain⟩ := raiseCause_fast_stops (index := 0) horder.causesOk hmoving hfast
  obtain ⟨htarget, hceiling, -⟩ :=
    (horder.raiseCause (index := 0) hmem).obeys.stopped (by rw [hstate]; exact SupState.noConfusion)
  refine ⟨hstate, hchain, hceiling, htarget, ?_⟩
  obtain ⟨u, hu, hmsv, hraise⟩ := listRaise_room (s := s) (code := code) (category := .fast) (index := 0)
    (sub := .activeUnacked) (.inl hroom)
  have hhas : u.msv.hasFast = true := hmsv ▸ raised_hasFast (State.causesOk_iff.mp horder.causesOk) hfast hmem _
  have hulist : u.msv.state = s.msv.state ∧ u.msv.ceiling = s.msv.ceiling ∧ u.msv.watch = s.msv.watch := by
    rw [hmsv]
    exact ⟨rfl, rfl, rfl⟩
  obtain ⟨hustate, huceiling, huwatch⟩ := hulist
  have hchange : u.afterListChange code 0 = u.changeState .stoppingFast (broughtBy code 0) :=
    if_pos ⟨hhas, by rw [hustate]; exact hmoving⟩
  have hresting : ¬ u.msv.state.resting := by
    rw [hustate]
    rcases hmoving with h | h <;> rw [h] <;> rintro (h | h) <;> exact SupState.noConfusion h
  have hbound : u.speedBound = s.speedBound := by
    rw [speedBound_moving hresting, speedBound_moving (hustate ▸ hresting), huceiling, huwatch, hu.now_eq]
  have hraised : (s.raiseCause code .fast 0).msv = (u.changeState .stoppingFast (broughtBy code 0)).msv :=
    (congrArg State.msv hraise).trans (by rw [when_msv _ (tellFast_msv ..), hchange])
  rw [hraised, ← hu.now_eq, changeState_fast_watch hresting, hbound, hu.sst_eq, hu.now_eq]

/-- Settles O47: the speed test, then the end of a stop, of the watch and the ramp. -/
theorem supervisorWindowChecksSpeed : Obligations.SupervisorWindowChecksSpeed := by
  intro s hobeys hok hnamed hroom c envelope low bound
  have horder : s.InOrder := ⟨hobeys, hok⟩
  have hbound : bound = s.speedBound := by
    by_cases hlow : low
    · exact (if_pos hlow).trans (speedBound_resting hlow).symm
    · rw [speedBound_moving hlow, margin_eq]
      exact if_neg hlow
  have hframe : ChangesOnly s causeParts s.speedTest := speedTest_changes s
  have hsame := settle_sameList s.speedTest
  have hnames : s.msv.NamesOk := Msv.namesOk_iff.mpr ⟨hok.identity, hnamed.speed⟩
  have htested : s.speedTest.msv.NamesOk := (Kept.refl s).speedTest.causeList.names hnames
  refine ⟨finish s s.supervisorWindow, rfl, (supervisorWindow_changes s).finish, fun hover => ?_, fun hwithin => ?_,
    fun hstopping hstill => ?_⟩
  · rw [hbound] at hover
    refine ⟨hsame.exceed.trans (speedTest_exceeds hover), fun hcount => ?_⟩
    have hlists : s.msv.speedActive s.speedSituation = false →
        (finish s s.supervisorWindow).Lists s.speedSituation 0 .activeUnacked := fun hinactive => by
      have hraised : s.speedTest.Lists s.speedSituation 0 .activeUnacked := by
        rw [speedTest_raises hover hcount hinactive]
        obtain ⟨_, _, _, heq⟩ := speeding_msv s
        exact raiseCause_lists (by rw [heq]; exact hroom)
      obtain ⟨x, hx, hof⟩ := hraised
      exact ⟨x, hsame.causes.symm ▸ hx, hof⟩
    refine ⟨fun hlow hinactive => ?_, fun hlow hwatch hinactive => ?_, fun hlow hwatch hinactive => ?_,
      fun hmoving hstill hinactive => ?_⟩
    · rw [speedSituation_resting hlow] at hlists
      exact hlists hinactive
    · rw [speedSituation_moving hlow, if_neg hwatch] at hlists
      exact hlists hinactive
    · rw [speedSituation_moving hlow, if_pos hwatch] at hlists
      exact hlists hinactive
    · have hlow : ¬ low := by
        rcases hmoving with h | h <;> rintro (h' | h') <;> exact SupState.noConfusion (h.symm.trans h')
      have hunmarked : s.msv.speedActive s.speedSituation = false := by
        rw [speedSituation_moving hlow]
        split at hinactive
        · next hwatch => rw [if_pos hwatch]; exact hinactive
        · next hwatch => rw [if_neg hwatch]; exact hinactive
      obtain ⟨_, _, _, hspeeding⟩ := speeding_msv s
      have hspeedingBound : s.speeding.speedBound = s.speedBound := by
        have hresting : ¬ s.speeding.msv.state.resting := by rw [hspeeding]; exact hlow
        rw [speedBound_moving hresting, speedBound_moving hlow, hspeeding, (speeding_changes s).now_eq]
      have hraise := speedTest_raises hover hcount hunmarked
      obtain ⟨hstate, hchain, hceiling, htarget, hwatch⟩ := raiseCause_speed (s := s.speeding)
        (horder.setExceed.setSpeedActive) (by rw [hspeeding]; exact hroom) (by rw [hspeeding]; exact hmoving)
        (speedSituation_categories s)
      rw [← hraise] at hstate hchain hceiling htarget hwatch
      rw [hspeedingBound, (speeding_changes s).now_eq, (speeding_changes s).sst_eq] at hwatch
      have hsettled : (finish s s.supervisorWindow).msv = { s.speedTest.msv with
          watch := if s.speedBound ≤ 20 then none else some ⟨s.speedBound, s.sst.active.rope.aFast, s.now, s.speedBound⟩ } := by
        rw [finish_msv, supervisorWindow_eq, settle_msv, htarget, if_neg (Nat.not_lt_zero _), hceiling, hframe.now_eq, ← hwatch]
        · rfl
        · rw [hframe.rpm_eq, hstill]
          exact fun h => Bool.noConfusion h.2
      rw [hsettled, hbound]
      exact ⟨hstate, hchain, hceiling, rfl⟩
  · rw [hbound] at hwithin
    have hnone : ∀ code, CauseCode.isSpeed code = true → (finish s s.supervisorWindow).NoneActive code 0 :=
      fun code hspeed x hx hof =>
        Msv.NamesOk.noneActive htested hspeed (speedTest_unmarked hwithin hspeed) x (hsame.causes ▸ hx) hof
    refine ⟨hsame.exceed.trans (speedTest_counts hwithin), hnone _ rfl, hnone _ rfl, hnone _ rfl, fun hconsistent hrun => ?_⟩
    obtain ⟨_, _, _, hmsv⟩ := speedTest_run hwithin (noSpeed_of_run hobeys hok hconsistent hrun)
    have hsettled := settle_msv (s := s.speedTest) (by
      rw [hmsv, hrun]
      rintro ⟨h | h, -⟩ <;> exact SupState.noConfusion h)
    rw [hmsv, hframe.sst_eq, hframe.now_eq] at hsettled
    have hfinal : (finish s s.supervisorWindow).msv = s.speedTest.settle.msv := finish_msv ..
    have hstep : rampStep s.sst.active.rope.accel = max 1 (s.sst.active.rope.accel / 10) := by
      unfold rampStep
      omega
    have hwatch : (s.msv.watch.bind fun w => w.held (s.msv.ceiling + margin s.msv.ceiling) s.now).isSome =
        envelope.any fun e => decide (c + max 20 (c / 10) < e) := by
      rw [margin_eq, Option.any_map]
      cases s.msv.watch with
      | none => rfl
      | some w =>
        simp only [Option.bind_some, Watch.held, Option.any_some]
        split
        · next hlow => exact (decide_eq_false (Nat.not_lt.mpr hlow)).symm
        · next hhigh => exact (decide_eq_true (Nat.not_le.mp hhigh)).symm
    rw [hfinal, hsettled]
    have hchain : s.msv.chainOut = true := hobeys.chain.trans (by rw [hrun]; rfl)
    split
    · exact ⟨hrun, hchain, congrArg (fun n => min s.msv.target (s.msv.ceiling + n)) hstep, rfl, hwatch⟩
    · next htop =>
      have hceiling := hobeys.ceiling
      have htarget : s.msv.target ≤ s.msv.ceiling := Nat.not_lt.mp htop
      have htop : s.msv.ceiling = min s.msv.target (s.msv.ceiling + max 1 (s.sst.active.rope.accel / 10)) := by omega
      exact ⟨hrun, hchain, htop, hobeys.speedRef, hwatch⟩
  · have hstops := (speedTest_stops s).state
    have hagain : s.speedTest.msv.state = .stoppingService ∨ s.speedTest.msv.state = .stoppingFast := by
      rcases hstopping with h | h <;> rw [h] at hstops <;> rcases hstops with h | ⟨h, -⟩ | ⟨-, h⟩ <;> simp_all
    exact settle_stopped horder.speedTest hagain (by rw [hframe.rpm_eq]; exact hstill)

end

end Sys2Proof.Machine
end

section
/-! PROOF. A taking (O49; R167, R170). -/

namespace Sys2Proof.Machine

-- One lemma at a time, as in Laws/State.lean.
set_option Elab.async false

open Sys2Proof

section
variable {s t : State} {slip k : Nat}

/-! ## Tickets and arguments stand outside the bytes the part writes -/

theorem KeepsCells.slipTicket (h : KeepsCells s t) (k : Nat) : t.slipTicket k = s.slipTicket k := by
  have hread : ∀ i, i < 2 → memRead t.mem (slipBase k + i) = memRead s.mem (slipBase k + i) := fun i hi =>
    h.boardOnly _ fun j _ => by unfold resultByte slipBase; omega
  have h0 := hread 0 (by omega)
  rw [Nat.add_zero] at h0
  simp only [State.slipTicket, memRead16, h0, hread 1 (by omega)]

theorem KeepsCells.kindByte (h : KeepsCells s t) (k : Nat) :
    memRead t.mem (slipBase k + 3) = memRead s.mem (slipBase k + 3) :=
  h.boardOnly _ fun j _ => by unfold resultByte slipBase; omega

theorem KeepsCells.arg16_first (h : KeepsCells s t) (k : Nat) : t.arg16 k 0 = s.arg16 k 0 := by
  have hread : ∀ i, i < 2 → memRead t.mem (slipBase k + 4 + 0 + i) = memRead s.mem (slipBase k + 4 + 0 + i) := fun i hi =>
    h.boardOnly _ fun j _ => by unfold resultByte slipBase; omega
  have h0 := hread 0 (by omega)
  rw [Nat.add_zero] at h0
  simp only [State.arg16, memRead16, h0, hread 1 (by omega)]

theorem SlipOnly.slipState (h : SlipOnly slip s t) (hne : k ≠ slip) : t.slipState k = s.slipState k := by
  rw [State.slipState, h _ (by unfold resultByte slipBase; omega), State.slipState]

theorem orderOf_unknown (h : (memRead s.mem (slipBase k + 3)).toNat = 0 ∨ 26 < (memRead s.mem (slipBase k + 3)).toNat) :
    s.orderOf k = none := by
  unfold State.orderOf
  dsimp only
  split
  case h_27 => rfl
  all_goals omega

theorem orderOf_setCeiling (h : (memRead s.mem (slipBase k + 3)).toNat = 5) :
    s.orderOf k = some (.setCeiling (s.arg16 k 0)) := by
  simp only [State.orderOf, h]

/-! ## The slips POSTED with the next ticket -/

theorem mem_matchingSlips : k ∈ s.matchingSlips ↔ k < 32 ∧ s.slipState k = 1 ∧ s.slipTicket k = s.obc.nextTicket := by
  simp [State.matchingSlips]

theorem matchingSlips_eq_nil :
    s.matchingSlips = [] ↔ ∀ k, k < 32 → s.slipState k = 1 → s.slipTicket k ≠ s.obc.nextTicket := by
  simp only [List.eq_nil_iff_forall_not_mem, mem_matchingSlips, not_and, ne_eq]

theorem matchingSlips_pairwise (s : State) : s.matchingSlips.Pairwise (· < ·) :=
  List.Pairwise.filter _ List.pairwise_lt_range

/-- The slip that is taken is the first that matches. -/
theorem matchingSlips_first (hk : k ∈ s.matchingSlips) (hfirst : ∀ j, j < k → j ∉ s.matchingSlips) :
    ∃ others, s.matchingSlips = k :: others ∧ ∀ j, j ∈ others ↔ j ∈ s.matchingSlips ∧ j ≠ k := by
  have hpairwise := matchingSlips_pairwise s
  cases hlist : s.matchingSlips with
  | nil => rw [hlist] at hk; exact absurd hk List.not_mem_nil
  | cons a others =>
    rw [hlist] at hk hfirst hpairwise
    obtain ⟨hlt, -⟩ := List.pairwise_cons.mp hpairwise
    have ha : a = k := by
      by_contra hne
      have hmem := (List.mem_cons.mp hk).resolve_left fun h => hne h.symm
      exact hfirst a (hlt k hmem) List.mem_cons_self
    subst ha
    refine ⟨others, rfl, fun j => ⟨fun hj => ⟨List.mem_cons_of_mem _ hj, (hlt j hj).ne'⟩, fun ⟨hj, hne⟩ => ?_⟩⟩
    exact (List.mem_cons.mp hj).resolve_left hne

/-! ## One taking (R170) -/

/-- The other slips with the ticket are refused. -/
def State.refuseAll (s : State) (slips : List Nat) : State :=
  slips.foldl (fun t k => t.writeResult k (refusal .duplicateTicket)) s

theorem refuseAll_frame (s : State) (slips : List Nat) : ChangesOnly s [.mem, .news] (s.refuseAll slips) :=
  .foldl (fun t k => writeResult_changes t k _) slips s

theorem refuseAll_slipState {slips : List Nat} (hk : k ∉ slips) : (s.refuseAll slips).slipState k = s.slipState k := by
  induction slips generalizing s with
  | nil => rfl
  | cons x rest ih =>
    obtain ⟨hx, hrest⟩ := not_or.mp (mt List.mem_cons.mpr hk)
    exact (ih hrest).trans ((writeResult_slipOnly s x _).slipState hx)

theorem refuseAll_answered {slips : List Nat} (hwf : Memory.wf s.mem = true) (hlt : ∀ j ∈ slips, j < 32) (hk : k ∈ slips) :
    (s.refuseAll slips).Answered k (refusal .duplicateTicket) := by
  have hkeep : ∀ (l : List Nat) (u : State), u.Answered k (refusal .duplicateTicket) → k ∉ l →
      (u.refuseAll l).Answered k (refusal .duplicateTicket) := fun l => by
    induction l with
    | nil => exact fun u hu _ => hu
    | cons x rest ih =>
      intro u hu hnot
      obtain ⟨hx, hrest⟩ := not_or.mp (mt List.mem_cons.mpr hnot)
      exact ih _ (hu.of_slipOnly (Ne.symm hx) (writeResult_slipOnly u x _)) hrest
  induction slips generalizing s with
  | nil => exact absurd hk List.not_mem_nil
  | cons x rest ih =>
    by_cases hrest : k ∈ rest
    · exact ih (writeResult_wf s x _ hwf) (fun j hj => hlt j (List.mem_cons_of_mem _ hj)) hrest
    · obtain rfl := (List.mem_cons.mp hk).resolve_right hrest
      exact hkeep rest _ (writeResult_answered s k _ (hlt k List.mem_cons_self) (by decide) hwf).1 hrest

/-- The next ticket is incremented. -/
def State.nextTicketed (s : State) : State := s.updObc fun b => { b with nextTicket := b.nextTicket + 1 }

theorem nextTicketed_frame (s : State) : ChangesOnly s [.port] s.nextTicketed :=
  ⟨fun p hp => by cases p <;> simp_all [Part.same, BoardOnly, State.nextTicketed]⟩

theorem takeSlip_none {others : List Nat} (h : (s.refuseAll others).orderOf slip = none) :
    s.takeSlip slip others = ((s.refuseAll others).writeResult slip (refusal .badOrder)).nextTicketed := by
  unfold State.refuseAll at h
  simp only [State.takeSlip, h, State.nextTicketed, State.refuseAll]

theorem takeSlip_some {others : List Nat} {o : Order} (h : (s.refuseAll others).orderOf slip = some o) :
    s.takeSlip slip others = ((s.refuseAll others).dispatch slip o).nextTicketed := by
  unfold State.refuseAll at h
  simp only [State.takeSlip, h, State.nextTicketed, State.refuseAll]

theorem takeSlip_keepsCells (s : State) (slip : Nat) (others : List Nat) : KeepsCells s (s.takeSlip slip others) :=
  (takeSlip_changes s slip others).weaken

theorem port_eq {ps : List Part} (h : ChangesOnly s ps t) (hp : .port ∉ ps := by decide) :
    t.obc.nextTicket = s.obc.nextTicket ∧ t.obc.armed = s.obc.armed := by
  obtain ⟨-, harmed, hnext, -⟩ := h.same .port hp
  exact ⟨hnext, harmed⟩

theorem takeSlip_port (s : State) (slip : Nat) (others : List Nat) :
    (s.takeSlip slip others).obc.nextTicket = s.obc.nextTicket + 1 ∧ (s.takeSlip slip others).obc.armed = s.obc.armed := by
  have hrefused := refuseAll_frame s others
  cases horder : (s.refuseAll others).orderOf slip with
  | none =>
    obtain ⟨hnext, harmed⟩ := port_eq (hrefused.then (writeResult_changes _ slip (refusal .badOrder)))
    rw [takeSlip_none horder]
    exact ⟨congrArg (· + 1) hnext, harmed⟩
  | some o =>
    have hall : ChangesOnly s orderParts ((s.refuseAll others).dispatch slip o) :=
      hrefused.weaken.then (dispatch_changes _ slip o)
    obtain ⟨hnext, harmed⟩ := port_eq hall
    rw [takeSlip_some horder]
    exact ⟨congrArg (· + 1) hnext, harmed⟩

/-! ## All takings of a write to POST -/

theorem taking_nil (h : s.matchingSlips = []) (n : Nat) : State.taking (n + 1) s = s := by
  simp only [State.taking, h]

theorem taking_cons {others : List Nat} (h : s.matchingSlips = slip :: others) (n : Nat) :
    State.taking (n + 1) s = State.taking n (s.takeSlip slip others) := by
  simp only [State.taking, h]

theorem taking_keepsCells (n : Nat) (s : State) : KeepsCells s (State.taking n s) := (taking_changes n s).weaken

theorem taking_armed (n : Nat) (s : State) : (State.taking n s).obc.armed = s.obc.armed := by
  induction n generalizing s with
  | zero => rfl
  | succ n ih =>
    cases h : s.matchingSlips with
    | nil => rw [taking_nil h]
    | cons slip others => rw [taking_cons h, ih, (takeSlip_port s slip others).2]

/-- A taking ends when the next ticket reaches one that no slip holds: tickets stay and the next ticket counts up. -/
theorem taking_done (n : Nat) : ∀ s : State, (∃ m, m < n ∧ ∀ k, k < 32 → s.slipTicket k ≠ s.obc.nextTicket + BitVec.ofNat 16 m) →
    (State.taking n s).matchingSlips = [] := by
  induction n with
  | zero => exact fun s ⟨m, hm, _⟩ => absurd hm (Nat.not_lt_zero m)
  | succ n ih =>
    intro s ⟨m, hm, hfree⟩
    cases hlist : s.matchingSlips with
    | nil => rw [taking_nil hlist, hlist]
    | cons slip others =>
      rw [taking_cons hlist]
      obtain ⟨hslip, -, hticket⟩ := mem_matchingSlips.mp (hlist ▸ List.mem_cons_self : slip ∈ s.matchingSlips)
      cases m with
      | zero => exact absurd (hticket.trans (by simp)) (hfree slip hslip)
      | succ m =>
        refine ih _ ⟨m, by omega, fun k hk => ?_⟩
        rw [(takeSlip_keepsCells s slip others).slipTicket, (takeSlip_port s slip others).1, BitVec.add_assoc]
        have hone : (1 : Word) + BitVec.ofNat 16 m = BitVec.ofNat 16 (m + 1) := by
          apply BitVec.eq_of_toNat_eq
          simp
          omega
        rw [hone]
        exact hfree k hk

/-- Among 33 tickets in a row there is one that none of the 32 slips holds. -/
theorem exists_freeTicket (f : Nat → Word) (base : Word) :
    ∃ m, m < 33 ∧ ∀ k, k < 32 → f k ≠ base + BitVec.ofNat 16 m := by
  by_contra hnone
  push Not at hnone
  choose g hg using fun m : Fin 33 => hnone m.1 m.2
  obtain ⟨a, b, hab, heq⟩ := Fintype.exists_ne_map_eq_of_card_lt (fun m : Fin 33 => (⟨g m, (hg m).1⟩ : Fin 32)) (by decide)
  have hsame : base + BitVec.ofNat 16 a.1 = base + BitVec.ofNat 16 b.1 := by
    rw [← (hg a).2, ← (hg b).2, Fin.mk.inj heq]
  have hval := congrArg BitVec.toNat (BitVec.add_right_inj _ |>.mp hsame)
  simp only [BitVec.toNat_ofNat] at hval
  exact hab (Fin.ext (by omega))

/-- After a write to POST no slip is POSTED with the next ticket. -/
theorem postWrite_done (s : State) : s.postWrite.matchingSlips = [] :=
  taking_done 33 _ (exists_freeTicket s.disarm.slipTicket _)

/-- What a write to POST makes of the state when one slip, and its duplicates, match and no slip holds the ticket after. -/
theorem postWrite_single {others : List Nat} (h : s.disarm.matchingSlips = slip :: others)
    (hdone : (s.disarm.takeSlip slip others).matchingSlips = []) : s.postWrite = s.disarm.takeSlip slip others := by
  rw [State.postWrite, taking_cons h, taking_nil hdone]

/-- Without a slip that holds the ticket after, the first taking is the last. -/
theorem takeSlip_done {u : State} {others : List Nat} (hothers : ∀ j ∈ others, s.slipTicket j = s.obc.nextTicket)
    (hticket : s.slipTicket slip = s.obc.nextTicket)
    (hnext : ∀ j, j < 32 → s.slipState j = 1 → s.slipTicket j ≠ s.obc.nextTicket + 1)
    (hmem : SlipOnly slip (s.refuseAll others) u) (htaken : s.takeSlip slip others = u.nextTicketed) :
    (s.takeSlip slip others).matchingSlips = [] := by
  refine matchingSlips_eq_nil.mpr fun j hj hposted hmatch => ?_
  rw [(takeSlip_keepsCells s slip others).slipTicket, (takeSlip_port s slip others).1] at hmatch
  have hne : s.obc.nextTicket + 1 ≠ s.obc.nextTicket := fun h => by bv_omega
  have hslip : j ≠ slip := fun h => hne (hmatch.symm.trans (h ▸ hticket))
  have hnot : j ∉ others := fun h => hne (hmatch.symm.trans (hothers j h))
  rw [htaken, show u.nextTicketed.slipState j = u.slipState j from rfl, hmem.slipState hslip, refuseAll_slipState hnot]
    at hposted
  exact hnext j hj hposted hmatch

end

/-- Disarming shows in none of what the update counters bracket. -/
theorem finish_disarm_obc (s : State) : (finish s s.disarm).obc = { s.obc with armed := false } := by
  have hcounters : bracketAll s s.disarm s.obc.counters = s.obc.counters := by
    have hsame : bracketAll s s.disarm s.obc.counters = bracketAll s s s.obc.counters := rfl
    rw [hsame]
    simp [bracketAll, bracket]
  show { s.disarm.obc with counters := bracketAll s s.disarm s.obc.counters } = _
  rw [hcounters]
  rfl

/-- The setting of the operator's ceiling (R159). -/
theorem setOperatorCeiling_frame (s : State) (v : Nat) : ChangesOnly s [.msv] (s.setOperatorCeiling v) :=
  (updMsv_changes s _).then (recomputeCeiling_changes _)

/-- Settles O49: the taking of the first slip, and the refusal of the others with its ticket. -/
theorem postTakesTicketsInOrder : Obligations.PostTakesTicketsInOrder := by
  intro s value hwf
  have hkeeps : KeepsCells s s.postWrite := ((disarm_changes s).weaken).then (taking_keepsCells 33 s.disarm)
  have htickets : ∀ k, (finish s s.postWrite).slipTicket k = s.slipTicket k := fun k =>
    KeepsCells.slipTicket (hkeeps.then (finish_changes s s.postWrite)) k
  refine ⟨finish s s.postWrite, rfl, taking_armed 33 s.disarm, matchingSlips_eq_nil.mp (postWrite_done s),
    fun k _ => htickets k, fun hnone => ?_, fun k hk hposted hticket hfirst hnext => ?_⟩
  · have hsame : s.postWrite = s.disarm := taking_nil (s := s.disarm) (matchingSlips_eq_nil.mpr hnone) 32
    rw [hsame]
    exact ⟨finish_disarm_obc s, (disarm_changes s).finish⟩
  · obtain ⟨others, hlist, hmem⟩ := matchingSlips_first (s := s.disarm) (mem_matchingSlips.mpr ⟨hk, hposted, hticket⟩)
      fun j hj hmatch => hfirst j hj (mem_matchingSlips.mp hmatch).2
    have hothers : ∀ j ∈ others, j < 32 ∧ s.slipTicket j = s.obc.nextTicket := fun j hj =>
      have hmatch := mem_matchingSlips.mp ((hmem j).mp hj).1
      ⟨hmatch.1, hmatch.2.2⟩
    let r := s.disarm.refuseAll others
    have hrefused : ChangesOnly s.disarm [.mem, .news] r := refuseAll_frame s.disarm others
    have hr : KeepsCells s r := ((disarm_changes s).weaken).then (ps := commandParts) hrefused
    have hrwf : Memory.wf r.mem = true := hr.wf hwf
    have hrun : ∀ u : State, SlipOnly k r u → s.disarm.takeSlip k others = u.nextTicketed →
        s.postWrite = u.nextTicketed ∧ (finish s s.postWrite).obc.nextTicket = s.obc.nextTicket + 1 := fun u hu htaken => by
      have hdone := takeSlip_done (s := s.disarm) (fun j hj => (hothers j hj).2) hticket hnext hu htaken
      have hpost := postWrite_single hlist hdone
      refine ⟨hpost.trans htaken, ?_⟩
      rw [hpost]
      exact (takeSlip_port s.disarm k others).1
    refine ⟨fun hkind => ?_, fun hkind hstandby htop hmax => ?_⟩
    · rw [← hr.kindByte k] at hkind
      obtain ⟨hpost, hticketed⟩ := hrun (r.writeResult k (refusal .badOrder)) (writeResult_slipOnly r k _)
        (takeSlip_none (orderOf_unknown hkind))
      have hanswered := (writeResult_answered r k (refusal .badOrder) hk (by decide) hrwf).1
      refine ⟨?_, hticketed, ?_, fun j hj hne hpostedj hticketj => ?_⟩
      · rw [hpost]
        exact finish_answered (hanswered.of_mem rfl)
      · rw [hpost]
        exact ((((disarm_changes s).weaken.then hrefused).then (writeResult_changes ..)).then (nextTicketed_frame _)).finish
      · have hin : j ∈ others := (hmem j).mpr ⟨mem_matchingSlips.mpr ⟨hj, hpostedj, hticketj⟩, hne⟩
        have hduplicate : r.Answered j (refusal .duplicateTicket) :=
          refuseAll_answered hwf (fun j hj => (hothers j hj).1) hin
        rw [hpost]
        exact finish_answered ((hduplicate.of_slipOnly hne.symm (writeResult_slipOnly r k _)).of_mem rfl)
    · have horder : r.orderOf k = some (.setCeiling (s.arg16 k 0)) := by
        rw [orderOf_setCeiling ((congrArg BitVec.toNat (hr.kindByte k)).trans hkind), hr.arg16_first]
      let w := r.setOperatorCeiling (s.arg16 k 0)
      have hset : r.setCeiling (s.arg16 k 0) = (w, resultOk) := by
        have hsst : r.sst = s.sst := hrefused.sst_eq
        simp only [State.setCeiling]
        rw [if_neg (by omega), if_neg (by rw [hsst]; omega)]
      have hdispatch : r.dispatch k (.setCeiling (s.arg16 k 0)) = w.writeResult k resultOk := by
        have hshort : r.runShort (.setCeiling (s.arg16 k 0)) = (w, resultOk) := hset
        rw [dispatch_short (o := .setCeiling (s.arg16 k 0)) rfl (.inl (by rw [hrefused.msv_eq]; exact hstandby)), hshort]
      have hw : ChangesOnly r [.msv] w := setOperatorCeiling_frame r _
      have hslip : SlipOnly k r (w.writeResult k resultOk) := fun a ha => by
        rw [writeResult_slipOnly w k resultOk a ha, hw.mem_eq]
      obtain ⟨hpost, hticketed⟩ := hrun (w.writeResult k resultOk) hslip ((takeSlip_some horder).trans (by rw [← hdispatch]))
      have hanswered := (writeResult_answered w k resultOk hk (by decide) (hw.mem_eq ▸ hrwf)).1
      refine ⟨?_, hticketed, ?_, ?_⟩
      · rw [hpost]
        exact finish_answered (hanswered.of_mem rfl)
      · rw [hpost]
        show (w.writeResult k resultOk).msv.opCeiling = _
        rw [writeResult_msv]
        show (r.updMsv fun m => { m with opCeiling := s.arg16 k 0 }).recomputeCeiling.msv.opCeiling = _
        rw [recomputeCeiling_msv]
        rfl
      · rw [hpost]
        exact (((((disarm_changes s).weaken.then hrefused).then hw).then (writeResult_changes ..)).then
          (nextTicketed_frame _)).finish

end Sys2Proof.Machine
end

section
/-! PROOF. Locks, stored sets and the clock (O53; R180 to R183, R185, R186). -/

namespace Sys2Proof.Machine

-- One lemma at a time, as in Laws/State.lean.
set_option Elab.async false

open Sys2Proof

section
variable {s u : State} {slip k : Nat} {o : Order} {r : OrderResult}

/-- A short order that its block carries out without touching memory: the block's change, and the answer in the slip. -/
theorem short_effect {ps qs : List Part} (hslip : slip < 32) (hwf : Memory.wf s.mem = true) (hlong : o.isLong = false)
    (hstandby : s.msv.state ≠ .standby ∨ o.takenInStandby = true) (hrun : s.runShort o = (u, r))
    (hframe : ChangesOnly s ps u) (hdata : r.data.length ≤ 16) (hmem : .mem ∉ ps := by decide)
    (hcells : .cells ∉ ps := by decide) (hps : ps ⊆ qs := by decide) (hqs : [.mem, .news] ⊆ qs := by decide) :
    (finish s (s.dispatch slip o)).sst = u.sst ∧ (finish s (s.dispatch slip o)).Answered slip r ∧
      SlipOnly slip s (finish s (s.dispatch slip o)) ∧ ChangesOnly s qs (finish s (s.dispatch slip o)) := by
  have hdispatch : s.dispatch slip o = u.writeResult slip r := by rw [dispatch_short hlong hstandby, hrun]
  refine ⟨?_, short_answered hslip hwf hframe hdata hdispatch hcells, ?_, ?_⟩
  · rw [finish_sst, hdispatch, writeResult_sst]
  · rw [hdispatch]
    refine finish_slipOnly fun a ha => ?_
    rw [writeResult_slipOnly u slip r a ha, hframe.mem_eq hmem]
  · rw [hdispatch]
    exact ((hframe.weaken hps).then (writeResult_changes u slip r) hqs).finish

/-- A short order that its block refuses changes its slip alone. -/
theorem short_refused {c : ResultCode} (hslip : slip < 32) (hwf : Memory.wf s.mem = true) (hlong : o.isLong = false)
    (hstandby : s.msv.state ≠ .standby ∨ o.takenInStandby = true) (hrun : s.runShort o = (s, refusal c)) :
    (finish s (s.dispatch slip o)).Answered slip (refusal c) ∧ SlipOnly slip s (finish s (s.dispatch slip o)) ∧
      ChangesOnly s [.mem, .news] (finish s (s.dispatch slip o)) :=
  refused_effect hslip hwf (by rw [dispatch_short hlong hstandby, hrun])

/-! ## Locks (R180) -/

/-- A change of locks in closed form: what it makes of a lock, the locks it refuses and leaves as they are, and why. -/
structure LockChange (f : Lock → Except ResultCode Lock) (out : Lock → Lock) (bad : Lock → Bool) (c : ResultCode) : Prop where
  taken : ∀ l, bad l = false → f l = .ok (out l)
  refused : ∀ l, bad l = true → f l = .error c ∧ out l = l
  again : ∀ l, bad (out l) = bad l

/-- The answer of a change of locks. -/
def lockAnswer (c : ResultCode) (bad : Bool) : OrderResult := if bad then refusal c else resultOk

/-- The locks of a state. -/
def State.setLocks (s : State) (locks : List Lock) : State := s.updSst fun t => { t with locks := locks }

section
variable {f : Lock → Except ResultCode Lock} {out : Lock → Lock} {bad : Lock → Bool} {c : ResultCode}

theorem lockOf_eq (h : k < s.sst.locks.length) : s.lockOf k = s.sst.locks[k] := by
  rw [State.lockOf, List.getElem?_eq_getElem h, Option.getD_some]

theorem changeLock_eq (h : LockChange f out bad c) (hk : k < s.sst.locks.length) :
    s.changeLock f k = (s.setLocks (s.sst.locks.modify k out), lockAnswer c (bad (s.lockOf k))) := by
  have hmodify : s.sst.locks.modify k out = s.sst.locks.set k (out (s.lockOf k)) := by
    rw [List.modify_eq_set_getElem?, List.getElem?_eq_getElem hk, lockOf_eq hk]
    rfl
  unfold State.changeLock
  cases hbad : bad (s.lockOf k) with
  | false => rw [h.taken _ hbad, hmodify]; rfl
  | true =>
    obtain ⟨hf, hout⟩ := h.refused _ hbad
    have hsame : s.sst.locks.set k (s.lockOf k) = s.sst.locks := by rw [lockOf_eq hk, List.set_getElem_self]
    rw [hf, hmodify, hout, hsame]
    rfl

theorem bad_lockOf_setLocks (h : LockChange f out bad c) (i : Nat) :
    bad ((s.setLocks (s.sst.locks.modify k out)).lockOf i) = bad (s.lockOf i) := by
  simp only [State.lockOf, State.setLocks, State.updSst_sst, List.getElem?_modify]
  cases s.sst.locks[i]? with
  | none => rfl
  | some l =>
    by_cases hik : k = i
    · simp [hik, h.again]
    · simp [hik]

/-- The tables are taken one by one; the answer is the first refusal (R180). -/
theorem foldl_changeLock (h : LockChange f out bad c) (ks : List Nat) (s : State) (b : Bool)
    (hks : ∀ k ∈ ks, k < s.sst.locks.length) :
    ks.foldl (fun (p : State × OrderResult) k =>
      let q := p.1.changeLock f k
      (q.1, if p.2.done then q.2 else p.2)) (s, lockAnswer c b) =
      (s.setLocks (ks.foldl (fun l k => l.modify k out) s.sst.locks),
        lockAnswer c (b || ks.any fun k => bad (s.lockOf k))) := by
  induction ks generalizing s b with
  | nil => simp [State.setLocks, State.updSst]
  | cons k ks ih =>
    have hstep : (if (lockAnswer c b).done then lockAnswer c (bad (s.lockOf k)) else lockAnswer c b) =
        lockAnswer c (b || bad (s.lockOf k)) := by cases b <;> rfl
    rw [List.foldl_cons]
    simp only [changeLock_eq h (hks k List.mem_cons_self), hstep]
    rw [ih]
    · simp only [bad_lockOf_setLocks h, List.any_cons, Bool.or_assoc]
      rfl
    · intro i hi
      simpa [State.setLocks] using hks i (List.mem_cons_of_mem _ hi)

theorem eq_six_of_length {α : Type} {l : List α} (h : l.length = 6) : ∃ a b c d e f, l = [a, b, c, d, e, f] := by
  match l, h with
  | [a, b, c, d, e, f], _ => exact ⟨a, b, c, d, e, f, rfl⟩

/-- A change of all locks (R180). -/
theorem changeLocks_eq (h : LockChange f out bad c) (hlength : s.sst.locks.length = 6) :
    s.changeLocks f = (s.setLocks (s.sst.locks.map out), lockAnswer c (s.sst.locks.any bad)) := by
  have hfold := foldl_changeLock h [0, 1, 2, 3, 4, 5] s false (by rw [hlength]; decide)
  obtain ⟨l0, l1, l2, l3, l4, l5, hlocks⟩ := eq_six_of_length hlength
  rw [State.changeLocks]
  refine hfold.trans ?_
  have hmap : [0, 1, 2, 3, 4, 5].foldl (fun l k => l.modify k out) s.sst.locks = s.sst.locks.map out := by
    rw [hlocks]
    rfl
  have hany : [0, 1, 2, 3, 4, 5].any (fun k => bad (s.lockOf k)) = s.sst.locks.any bad := by
    simp only [State.lockOf, hlocks]
    rfl
  rw [hmap, Bool.false_or, hany]

theorem changeLock_refused (h : f (s.lockOf k) = .error c) : s.changeLock f k = (s, refusal c) := by
  unfold State.changeLock
  rw [h]

theorem lockChange_unlock : LockChange (unlockOne true) (fun l => if l = .tight then .tight else .unlocked)
    (fun l => decide (l = .tight)) .locked := by
  constructor <;> intro l <;> cases l <;> simp [unlockOne]

theorem lockChange_noKey : LockChange (unlockOne false) id (fun _ => true) .keyRequired := by
  constructor <;> intro l <;> cases l <;> simp [unlockOne]

theorem lockChange_lock {level : Lock} (h : level ≠ .unlocked) :
    LockChange (lockOne level) (fun l => if l = .tight then .tight else level)
      (fun l => decide (l = .tight ∧ level = .locked)) .locked := by
  cases level
  · exact absurd rfl h
  all_goals constructor <;> intro l <;> cases l <;> simp [lockOne]

theorem mem_tight_iff {l : List Lock} : Lock.tight ∈ l ↔ (l.any fun x => decide (x = .tight)) = true := by
  simp [List.any_eq_true]

theorem unlock_one (hkey : s.pins.setupKey = true) (hk : k ≤ 5) (hlength : s.sst.locks.length = 6) :
    s.unlock k = (s.setLocks (s.sst.locks.modify k fun l => if l = .tight then .tight else .unlocked),
      lockAnswer .locked (decide (s.lockOf k = .tight))) := by
  rw [State.unlock, if_neg (by omega), if_neg (by omega), hkey]
  exact changeLock_eq lockChange_unlock (by omega)

theorem unlock_all (hkey : s.pins.setupKey = true) (hlength : s.sst.locks.length = 6) :
    s.unlock 255 = (s.setLocks (s.sst.locks.map fun l => if l = .tight then .tight else .unlocked),
      lockAnswer .locked (s.sst.locks.any fun l => decide (l = .tight))) := by
  rw [State.unlock, if_pos rfl, hkey]
  exact changeLocks_eq lockChange_unlock hlength

theorem setLocks_self (s : State) : s.setLocks s.sst.locks = s := rfl

theorem unlock_noKey (hkey : s.pins.setupKey = false) (hk : k ≤ 5 ∨ k = 255) (hlength : s.sst.locks.length = 6) :
    s.unlock k = (s, refusal .keyRequired) := by
  unfold State.unlock
  rw [hkey]
  rcases hk with hk | rfl
  · have hone := changeLock_eq lockChange_noKey (s := s) (k := k) (by omega)
    have hsame : s.sst.locks.modify k id = s.sst.locks := List.modify_id ..
    rw [if_neg (by omega), if_neg (by omega), hone, hsame]
    rfl
  · obtain ⟨l0, l1, l2, l3, l4, l5, hlocks⟩ := eq_six_of_length hlength
    have hall := changeLocks_eq lockChange_noKey hlength
    have hany : (s.sst.locks.any fun _ => true) = true := by rw [hlocks]; rfl
    rw [List.map_id, hany] at hall
    exact (if_pos rfl).trans hall

theorem lock_one {level : Lock} (hlevel : level ≠ .unlocked) (hk : k ≤ 5) (hlength : s.sst.locks.length = 6) :
    s.lock k (if level = .tight then 2 else 1) =
      (s.setLocks (s.sst.locks.modify k fun l => if l = .tight then .tight else level),
        lockAnswer .locked (decide (s.lockOf k = .tight ∧ level = .locked))) := by
  have hone := changeLock_eq (lockChange_lock hlevel) (s := s) (k := k) (by omega)
  cases level
  · exact absurd rfl hlevel
  · exact (if_neg (by simp; omega)).trans ((if_neg (by omega)).trans hone)
  · exact (if_neg (by simp; omega)).trans ((if_neg (by omega)).trans hone)

theorem lock_all {level : Lock} (hlevel : level ≠ .unlocked) (hlength : s.sst.locks.length = 6) :
    s.lock 255 (if level = .tight then 2 else 1) =
      (s.setLocks (s.sst.locks.map fun l => if l = .tight then .tight else level),
        lockAnswer .locked (s.sst.locks.any fun l => decide (l = .tight ∧ level = .locked))) := by
  have hall := changeLocks_eq (lockChange_lock hlevel) hlength
  cases level
  · exact absurd rfl hlevel
  · exact (if_neg (by simp)).trans ((if_pos rfl).trans hall)
  · exact (if_neg (by simp)).trans ((if_pos rfl).trans hall)

end

/-! ## Stored sets (R181 to R183) -/

/-- A user set in its place. -/
def Sst.putSet (x : Sst) (n : Nat) (set : UserSet) : Sst := if n = 1 then { x with set1 := set } else { x with set2 := set }

/-- A user set. -/
def Sst.userSet (x : Sst) (n : Nat) : UserSet := if n = 1 then x.set1 else x.set2

theorem updSet_eq {n : Nat} (hn : n = 1 ∨ n = 2) (x : Sst) (f : UserSet → UserSet) :
    x.updSet n f = x.putSet n (f (x.userSet n)) := by
  rcases hn with rfl | rfl <;> rfl

theorem setTables_eq {n : Nat} (hn : n ≤ 2) (x : Sst) : x.setTables n = if n = 0 then {} else (x.userSet n).tables := by
  obtain rfl | rfl | rfl : n = 0 ∨ n = 1 ∨ n = 2 := by omega
  all_goals rfl

theorem setOk_eq {n : Nat} (hn : n ≤ 2) (x : Sst) : x.setOk n = (decide (n = 0) || (x.userSet n).crcOk) := by
  obtain rfl | rfl | rfl : n = 0 ∨ n = 1 ∨ n = 2 := by omega
  all_goals rfl

theorem startSave_sst {n : Nat} (hn : n = 1 ∨ n = 2) (context : Nat) : (s.startSave context n).sst =
    { s.sst with saving := some ⟨n, s.sst.active, s.sst.revisions, context⟩ }.putSet n
      { s.sst.userSet n with crcOk := false } := by
  rcases hn with rfl | rfl <;> rfl

theorem saveDone_eq {v : Saving} (hv : s.sst.saving = some v) (hn : v.set = 1 ∨ v.set = 2) :
    ∃ u : State, u.sst = { s.sst with saving := none, startSet := v.set }.putSet v.set ⟨v.copy, true⟩ ∧
      ChangesOnly s [.sst, .journal, .news] u ∧ s.saveDone = u.completeOrder v.context resultOk := by
  refine ⟨(s.updSst fun t => { t.updSet v.set (fun _ => ⟨v.copy, true⟩) with saving := none, startSet := v.set }).journal
    .setSaved .sst 0 (byteOf v.set :: revisionBytes v.revisions), ?_, ?_, ?_⟩
  · rw [journal_sst, State.updSst_sst, updSet_eq hn]
    rcases hn with h | h <;> rw [h] <;> rfl
  · exact ((updSst_changes s _).weaken).then (journal_changes ..)
  · simp only [State.saveDone, hv]

/-- An accepted LOAD_SET (R183). -/
theorem loadSet_eq {n : Nat} (hn : n ≤ 2) (hstandby : s.msv.state = .standby) (hkey : s.pins.setupKey = true)
    (htight : .tight ∉ s.sst.locks) (hsaving : s.sst.saving = none) (hok : n = 0 ∨ (s.sst.userSet n).crcOk = true) :
    ∃ u : State, s.loadSet n = (u, resultOk) ∧ ChangesOnly s setupParts u ∧
      u.sst = { s.sst with active := if n = 0 then {} else (s.sst.userSet n).tables
                           revisions := s.sst.revisions.map (· + 1), startSet := n } := by
  let w := (s.updSst fun t =>
    { t with active := t.setTables n, revisions := t.revisions.map (· + 1), startSet := n }).journal .setLoaded .sst 0
      (byteOf n :: revisionBytes (s.sst.revisions.map (· + 1)))
  have hw : ChangesOnly s [.sst, .journal, .news] w := ((updSst_changes s _).weaken).then (journal_changes ..)
  have hfold : ChangesOnly w stationParts ([0, 1, 2, 3, 4, 5].foldl (fun t k => t.usersTake s.sst.active k) w) :=
    .foldl (fun t k => usersTake_changes t _ k) _ _
  refine ⟨[0, 1, 2, 3, 4, 5].foldl (fun t k => t.usersTake s.sst.active k) w, ?_, hw.weaken.then hfold, ?_⟩
  · have hset : s.sst.setOk n = true := by
      rw [setOk_eq hn]
      rcases hok with h | h <;> simp [h]
    unfold State.loadSet
    rw [if_neg (by omega), if_neg (by simp [hstandby]), if_neg (by simp [hkey]), if_neg (by simpa using htight),
      if_neg (by simp [hsaving]), if_neg (by simp [hset])]
    rfl
  · rw [hfold.sst_eq, journal_sst, State.updSst_sst, setTables_eq hn]

end

/-- Settles O53: each order by what it makes of the locks, the stored sets and the clock. -/
theorem setupStoreLocksSavesAndCounts : Obligations.SetupStoreLocksSavesAndCounts := by
  intro s slip table n k level seconds hslip hwf htable hlength number put stored refused
  have hsome : s.sst.locks[table]? = some (s.lockOf table) := by
    rw [lockOf_eq (by omega), List.getElem?_eq_getElem]
  have hmodify : ∀ l, s.lockOf table ≠ .tight ∨ l = .tight →
      (s.sst.locks.modify table fun x => if x = .tight then .tight else l) = s.sst.locks.set table l := fun l hl => by
    rw [List.modify_eq_set_getElem?, hsome]
    have hout : (if s.lockOf table = .tight then .tight else l) = l := by
      rcases hl with h | h
      · rw [if_neg h]
      · rw [h, ite_self]
    simp [hout]
  have hlocks : ∀ locks, ChangesOnly s [.sst] (s.setLocks locks) := fun locks => updSst_changes s _
  refine ⟨fun hkey htight => ?_, fun hkey htight => ?_, fun hkey => ⟨?_, ?_⟩, fun hkey => ?_,
    fun hlevel => ⟨fun hopen => ?_, ?_⟩, fun htight => ?_, ?_, ?_, fun hfree => ⟨?_, fun hn => ?_⟩,
    fun hn hfree hkey hstate hsaving => ?_, fun v hv hset hn => ?_, fun hsaving => ?_,
    fun hstandby hkey htight hsaving => ⟨fun hn hok => ?_, fun hn hbad => ?_, fun hn => ?_⟩, ?_, ?_⟩
  · rw [hsome, ne_eq, Option.some_inj] at htight
    have hrun : s.runShort (.unlock table) = (s.setLocks (s.sst.locks.set table .unlocked), resultOk) := by
      refine (unlock_one hkey htable hlength).trans ?_
      rw [hmodify _ (.inl htight), decide_eq_false htight]
      rfl
    obtain ⟨hsst, hrest⟩ := short_effect (qs := [.sst, .mem, .news]) hslip hwf rfl (.inr rfl) hrun (hlocks _) (by decide)
    exact ⟨_, rfl, hsst, hrest⟩
  · rw [hsome, Option.some_inj] at htight
    have hrun : s.runShort (.unlock table) = (s, refusal .locked) := by
      refine (if_neg (by omega)).trans ((if_neg (by omega)).trans (changeLock_refused ?_))
      rw [hkey, htight]
      rfl
    exact ⟨_, rfl, short_refused hslip hwf rfl (.inr rfl) hrun⟩
  · have hrun : s.runShort (.unlock table) = (s, refusal .keyRequired) := unlock_noKey hkey (.inl htable) hlength
    exact ⟨_, rfl, short_refused hslip hwf rfl (.inr rfl) hrun⟩
  · have hrun : s.runShort (.unlock 255) = (s, refusal .keyRequired) := unlock_noKey hkey (.inr rfl) hlength
    exact ⟨_, rfl, short_refused hslip hwf rfl (.inr rfl) hrun⟩
  · have hrun := unlock_all hkey hlength
    obtain ⟨hsst, hanswered, hrest⟩ := short_effect (o := .unlock 255) (qs := [.sst, .mem, .news]) hslip hwf rfl (.inr rfl) hrun
      (hlocks _) (by unfold lockAnswer; split <;> decide)
    refine ⟨_, rfl, hsst, ?_, hrest⟩
    simp only [mem_tight_iff]
    exact hanswered
  · have hrun : s.runShort (.lock table number) = (s.setLocks (s.sst.locks.set table level), resultOk) := by
      rw [hsome, ne_eq, Option.some_inj] at hopen
      refine (lock_one hlevel htable hlength).trans ?_
      rw [hmodify _ hopen, decide_eq_false]
      · rfl
      · rintro ⟨h1, h2⟩
        rcases hopen with h | h
        · exact h h1
        · exact Lock.noConfusion (h.symm.trans h2)
    obtain ⟨hsst, hrest⟩ := short_effect (qs := [.sst, .mem, .news]) hslip hwf rfl (.inr rfl) hrun (hlocks _) (by decide)
    exact ⟨_, rfl, hsst, hrest⟩
  · have hrun := lock_all hlevel hlength
    obtain ⟨hsst, hanswered, hrest⟩ := short_effect (o := .lock 255 number) (qs := [.sst, .mem, .news]) hslip hwf rfl (.inr rfl)
      hrun (hlocks _) (by unfold lockAnswer; split <;> decide)
    refine ⟨_, rfl, hsst, ?_, hrest⟩
    have hany : (s.sst.locks.any fun l => decide (l = .tight ∧ level = .locked)) =
        decide (level = .locked ∧ .tight ∈ s.sst.locks) := by
      by_cases hclosed : level = .locked <;> simp [hclosed, List.any_eq]
    rw [hany] at hanswered
    simpa only [lockAnswer, decide_eq_true_eq] using hanswered
  · rw [hsome, Option.some_inj] at htight
    have hrun : s.runShort (.lock table 1) = (s, refusal .locked) := by
      refine (if_neg (by omega)).trans ((if_neg (by omega)).trans (changeLock_refused ?_))
      rw [htight]
      rfl
    exact ⟨_, rfl, short_refused hslip hwf rfl (.inr rfl) hrun⟩
  · refine ⟨_, rfl, ?_, ?_, ?_⟩
    · rfl
    · rfl
    · exact (keyChange_changes s false).finish
  · exact ⟨_, rfl, rfl, ((updPins_changes s _).weaken).finish⟩
  · exact ⟨_, rfl, refused_effect hslip hwf (dispatch_long_refused (o := .saveSet 0) rfl (.inr rfl) hfree rfl)⟩
  · have hbad : s.longRefusal (.saveSet n) = some .badArg := if_pos hn
    exact ⟨_, rfl, refused_effect hslip hwf (dispatch_long_refused (o := .saveSet n) rfl (.inr rfl) hfree hbad)⟩
  · have haccepted : s.longRefusal (.saveSet n) = none := by
      show s.saveRefusal n = none
      unfold State.saveRefusal
      rw [if_neg (by omega), if_neg (by omega), if_neg (by simp [hkey]), if_neg (not_not_intro hstate), if_neg (by simp [hsaving])]
    let w := s.takeContext k slip (.saveSet n)
    have hrun : s.dispatch slip (.saveSet n) = w.startSave k n := dispatch_long (o := .saveSet n) rfl (.inr rfl) hfree haccepted
    have hw : ChangesOnly s [.contexts, .mem] w := takeContext_changes ..
    have hsave : ChangesOnly w [.sst] (w.startSave k n) := startSave_changes ..
    refine ⟨finish s (s.dispatch slip (.saveSet n)), rfl, ?_, ?_, ?_, finish_slipOnly ?_, ?_⟩
    · rw [slipState_congr (finish_mem ..), hrun, slipState_congr hsave.mem_eq, takeContext_slipState hslip hwf]
    · rw [context_congr (finish_changes ..).contexts_eq, hrun, context_congr hsave.contexts_eq, takeContext_context hfree]
    · rw [finish_sst, hrun, startSave_sst hn, hw.sst_eq]
      rfl
    · intro a ha
      rw [hrun, hsave.mem_eq, takeContext_slipOnly a ha]
    · rw [hrun]
      exact (hw.weaken.then hsave).finish
  · subst hset
    obtain ⟨u, husst, hu, hdone⟩ := saveDone_eq hv hn
    have hcomplete : ChangesOnly u completionParts (u.completeOrder v.context resultOk) := completeOrder_changes ..
    refine ⟨finish s s.saveDone, rfl, ?_, fun x hx hxslip htaken hticket => ?_, ?_⟩
    · rw [finish_sst, hdone, hcomplete.sst_eq, husst]
      rfl
    · have hpending : u.Pending v.context x := State.Pending.frame ⟨hwf, hx, hxslip, htaken, hticket⟩ hu
      rw [hdone]
      refine ⟨finish_answered hpending.answered, finish_slipOnly fun a ha => ?_⟩
      rw [hpending.slipOnly resultOk a ha, hu.mem_eq]
    · rw [hdone]
      exact (hu.weaken.then hcomplete).finish
  · have hsame : s.saveDone = s := by simp only [State.saveDone, hsaving]
    refine ⟨finish s s.saveDone, rfl, ?_⟩
    rw [hsame]
    exact (ChangesOnly.refl s []).finish
  · obtain ⟨u, hrun, hu, husst⟩ := loadSet_eq hn hstandby hkey htight hsaving hok
    have hshort : s.runShort (.loadSet n) = (u, resultOk) := hrun
    have hdispatch : s.dispatch slip (.loadSet n) = u.writeResult slip resultOk := by
      rw [dispatch_short (o := .loadSet n) rfl (.inr rfl), hshort]
    refine ⟨finish s (s.dispatch slip (.loadSet n)), rfl, short_answered hslip hwf hu (by decide) hdispatch, ?_, ?_⟩
    · rw [hdispatch]
      exact (hu.weaken.then (writeResult_changes ..)).finish
    · rw [finish_sst, hdispatch, writeResult_sst, husst]
      rfl
  · have hrun : s.runShort (.loadSet n) = (s, refusal .setupInvalid) := by
      show s.loadSet n = _
      have hset : s.sst.setOk n = false := by
        have hne : n ≠ 0 := by omega
        rw [setOk_eq (by omega), decide_eq_false hne]
        exact hbad
      unfold State.loadSet
      rw [if_neg (by omega), if_neg (by simp [hstandby]), if_neg (by simp [hkey]), if_neg (by simpa using htight),
        if_neg (by simp [hsaving]), if_pos (by simp [hset])]
    exact ⟨_, rfl, short_refused hslip hwf rfl (.inr rfl) hrun⟩
  · have hrun : s.runShort (.loadSet n) = (s, refusal .badArg) := if_pos hn
    exact ⟨_, rfl, short_refused hslip hwf rfl (.inr rfl) hrun⟩
  · have hrun : s.runShort (.setClock seconds) = ((s.setClock seconds).1, resultOk) := rfl
    obtain ⟨hsst, hanswered, hslipOnly, hframe⟩ := short_effect (qs := [.sst, .mem, .news, .journal]) hslip hwf rfl (.inr rfl)
      hrun (setClock_changes s seconds) (by decide)
    have hclock : (s.setClock seconds).1.sst = { s.sst with clock := ⟨seconds, 0, s.now, true⟩ } := journal_sst ..
    rw [hclock] at hsst
    refine ⟨_, rfl, ?_, by rw [hsst], by rw [hsst], hanswered, hslipOnly, hframe⟩
    have hnow : (finish s (s.dispatch slip (.setClock seconds))).now = s.now := hframe.now_eq
    rw [State.clockTime, State.clockMs, hsst, hnow, Nat.sub_self]
    rfl
  · refine ⟨finish s s.clockSecond, rfl, ?_, rfl, rfl, rfl, (clockSecond_changes s).finish⟩
    show s.clockSecond.clockTime = _
    simp [State.clockTime, State.clockMs, State.clockSecond]

end Sys2Proof.Machine
end

section
/-! PROOF. ADOPT (O52; R178, R179, R192). -/

namespace Sys2Proof.Machine

-- One lemma at a time, as in Laws/State.lean.
set_option Elab.async false

open Sys2Proof

section
variable {s : State} {slip table : Nat}

/-! ## Fields of the pending region -/

theorem memRead16_eq (s : State) (a : Nat) : memRead16 s.mem a = s.word a := rfl

/-- A field of the region at its offset from the region's base, as the statements count it. -/
theorem pend16_eq (s : State) (table field : Nat) : pend16 s.mem table field = s.word (0x4C00 + (tableOffset table + field)) := by
  rw [pend16, pendingBase, Nat.add_assoc, memRead16_eq]

theorem pend8_eq (s : State) (table field : Nat) :
    pend8 s.mem table field = (memRead s.mem (0x4C00 + (tableOffset table + field))).toNat := by
  rw [pend8, pendingBase, Nat.add_assoc]

theorem word_lt (s : State) (a : Nat) : s.word a < 65536 := by
  have h0 := (memRead s.mem a).isLt
  have h1 := (memRead s.mem (a + 1)).isLt
  unfold State.word
  omega

/-! ## Findings (R178) -/

theorem inRange_eq_nil {index lo hi v : Nat} (h : lo ≤ v ∧ v ≤ hi) : inRange index lo hi v = [] := by
  simp [inRange, mustHold, h]

theorem inRange_eq_structural {index lo hi v : Nat} (h : ¬ (lo ≤ v ∧ v ≤ hi)) :
    inRange index lo hi v = [(index, .structural)] := by
  unfold inRange mustHold
  rw [if_neg]
  simpa using h

theorem mustHold_eq_nil {index : Nat} {ok : Bool} (h : ok = true) : mustHold index ok = [] := if_pos h

theorem timed_isEmpty (index lo hi v : Nat) : (timed index lo hi v).isEmpty = decide (lo ≤ v ∧ v ≤ hi) := by
  unfold timed
  split
  · next h => simpa using h
  · next h => simpa using h

theorem timed_timing (index lo hi v : Nat) : ∀ x ∈ timed index lo hi v, x.2 = .timing := by
  unfold timed
  split <;> simp

/-- A copy whose findings are all of timing is adopted (R178). -/
theorem firstFault_eq_none {fs : List (Nat × Finding)} (h : ∀ x ∈ fs, x.2 = .timing) : firstFault fs = none :=
  List.find?_eq_none.mpr fun x hx => by simp [h x hx]

/-! ## The order (R179) -/

/-- The lock of a table is open. -/
theorem lockOf_of_getElem? {l : Lock} (h : s.sst.locks[table]? = some l) : s.lockOf table = l := by
  rw [State.lockOf, h, Option.getD_some]

/-- What an accepted ADOPT makes of the state. -/
theorem adopt_effect {ps qs : List Part} (hslip : slip < 32) (hwf : Memory.wf s.mem = true) (htable : table ≤ 5)
    (hlock : s.sst.locks[table]? = some .unlocked)
    (hallowed : table = 1 ∨ s.pins.setupKey = true ∧ (s.msv.state = .standby ∨ s.msv.state = .held))
    (htiming : ∀ x ∈ (withPending s.mem s.sst.active table).findings table, x.2 = .timing)
    (husers : ∀ u : State, ChangesOnly u ps (u.usersTake s.sst.active table))
    (hsst : .sst ∉ ps := by decide) (hcells : .cells ∉ ps := by decide)
    (hps : .sst :: .journal :: .news :: .mem :: ps ⊆ qs := by decide) :
    let t := finish s (s.dispatch slip (.adopt table))
    t.sst = { s.sst with active := (withPending s.mem s.sst.active table).clamped table
                         revisions := s.sst.revisions.modify table (· + 1) } ∧
      (∀ w, s.sst.revisions[table]? = some w → t.sst.revisions = s.sst.revisions.set table (w + 1) ∧
        t.Answered slip ⟨true, if ((withPending s.mem s.sst.active table).findings table).isEmpty then .ok else .clamped,
          le16 (w + 1).toNat⟩) ∧
      (.mem ∉ ps → SlipOnly slip s t) ∧ ChangesOnly s qs t ∧
      ∃ u : State, u.msv = s.msv ∧ t.msv = (u.usersTake s.sst.active table).msv := by
  intro t
  let copy := withPending s.mem s.sst.active table
  let fs := copy.findings table
  let u := s.adoptCopy table fs copy
  let r : OrderResult := ⟨true, if fs.isEmpty then .ok else .clamped, le16 (s.revision table + 1).toNat⟩
  have hadopt : s.adopt table = (u, r) := by
    unfold State.adopt
    rw [if_neg (by omega), if_neg (not_not_intro (lockOf_of_getElem? hlock)),
      if_neg (by rcases hallowed with h | h <;> simp [h]), if_neg (by rcases hallowed with h | h <;> simp [h])]
    simp only [firstFault_eq_none htiming]
    rfl
  have hshort : s.runShort (.adopt table) = (u, r) := hadopt
  have hdispatch : s.dispatch slip (.adopt table) = u.writeResult slip r := by
    rw [dispatch_short (o := .adopt table) rfl (.inr rfl), hshort]
  let v := s.updSst fun t => { t with active := copy.clamped table, revisions := t.revisions.modify table (· + 1) }
  let first := (fs.head?.map fun f => byteOf f.1).getD Config.noClampIndex
  let j := v.journal .tableAdopted .sst 0 (byteOf table :: (le16 (v.revision table).toNat ++ [byteOf fs.length, first]))
  have hj : ChangesOnly s [.sst, .journal, .news] j := ((updSst_changes s _).weaken).then (journal_changes v ..)
  have hu : ChangesOnly j ps u := husers j
  have hjsst : j.sst = v.sst := journal_sst ..
  have hall : ChangesOnly s (.sst :: .journal :: .news :: ps) u :=
    (hj.weaken (by simp)).then (hu.weaken (fun p hp => by simp [hp])) (List.Subset.refl _)
  have hsst' : t.sst = { s.sst with active := copy.clamped table, revisions := s.sst.revisions.modify table (· + 1) } := by
    rw [show t.sst = (s.dispatch slip (.adopt table)).sst from finish_sst .., hdispatch, writeResult_sst, hu.sst_eq hsst, hjsst]
    rfl
  refine ⟨hsst', fun w hw => ⟨?_, ?_⟩, fun hmem => ?_, ?_, j, hj.msv_eq, ?_⟩
  · rw [hsst', List.modify_eq_set_getElem?, hw]
    rfl
  · have hrevision : s.revision table = w := by rw [State.revision, hw, Option.getD_some]
    have hanswer := short_answered hslip hwf hall (r := r) (by simp [r, le16]) hdispatch (by simp [hcells])
    rwa [show r = _ from congrArg (fun n : Word => (⟨true, if fs.isEmpty then .ok else .clamped, le16 (n + 1).toNat⟩ :
      OrderResult)) hrevision] at hanswer
  · show SlipOnly slip s (finish s (s.dispatch slip (.adopt table)))
    rw [hdispatch]
    refine finish_slipOnly fun a ha => ?_
    rw [writeResult_slipOnly u slip r a ha, hall.mem_eq (by simp [hmem])]
  · show ChangesOnly s qs (finish s (s.dispatch slip (.adopt table)))
    rw [hdispatch]
    refine ((hall.weaken ?_).then (writeResult_changes u slip r) ?_).finish
    · exact fun p hp => hps (by simp only [List.mem_cons] at hp ⊢; tauto)
    · exact fun p hp => hps (by simp only [List.mem_cons, List.not_mem_nil, or_false] at hp ⊢; tauto)
  · show (finish s (s.dispatch slip (.adopt table))).msv = u.msv
    rw [finish_msv, hdispatch, writeResult_msv]

/-- A copy with a fault that is not of timing is not adopted (R178). -/
theorem adopt_fault {i : Nat} {finding : Finding} (hslip : slip < 32) (hwf : Memory.wf s.mem = true) (htable : table ≤ 5)
    (hlock : s.sst.locks[table]? = some .unlocked)
    (hallowed : table = 1 ∨ s.pins.setupKey = true ∧ (s.msv.state = .standby ∨ s.msv.state = .held))
    (hfault : firstFault ((withPending s.mem s.sst.active table).findings table) = some (i, finding)) :
    let t := finish s (s.dispatch slip (.adopt table))
    t.Answered slip ⟨false, if finding = .duplicate then .duplicateTag else .badArg, [byteOf i]⟩ ∧ SlipOnly slip s t ∧
      ChangesOnly s [.mem, .news] t := by
  let r : OrderResult := ⟨false, if finding = .duplicate then .duplicateTag else .badArg, [byteOf i]⟩
  have hrun : s.runShort (.adopt table) = (s, r) := by
    show s.adopt table = _
    unfold State.adopt
    rw [if_neg (by omega), if_neg (not_not_intro (lockOf_of_getElem? hlock)),
      if_neg (by rcases hallowed with h | h <;> simp [h]), if_neg (by rcases hallowed with h | h <;> simp [h])]
    simp only [hfault]
    cases finding <;> rfl
  exact (short_effect hslip hwf rfl (.inr rfl) hrun (ChangesOnly.refl s []) (by simp [r])).2

end

end Sys2Proof.Machine
end

section
/-! PROOF. What validation finds in each table (O52; R178, R192). -/

namespace Sys2Proof.Machine

-- One lemma at a time, as in Laws/State.lean.
set_option Elab.async false

open Sys2Proof

section
variable {s : State} {slip table : Nat}

theorem forall_mem_append_timing {l m : List (Nat × Finding)} (hl : ∀ x ∈ l, x.2 = .timing) (hm : ∀ x ∈ m, x.2 = .timing) :
    ∀ x ∈ l ++ m, x.2 = .timing := fun x hx => (List.mem_append.mp hx).elim (hl x) (hm x)

theorem isEmpty_append {α : Type} (l m : List α) : (l ++ m).isEmpty = (l.isEmpty && m.isEmpty) := by
  cases l <;> rfl

/-! ## Zone plan, door plan, rope plan, ceiling table -/

/-- A zone plan whose other fields are in their ranges shows the proof wait alone. -/
theorem zone_findings {p : ZonePlan}
    (hzones : ∀ i, i < 6 → i ≠ 3 → (50 ≤ (p.len[i]?).getD 0 ∧ (p.len[i]?).getD 0 ≤ 5000) ∧
      1 ≤ (p.ratio[i]?).getD 0 ∧ (p.ratio[i]?).getD 0 ≤ 1000)
    (hlaunch : 500 ≤ p.launchSpacing ∧ p.launchSpacing ≤ 50000) (harrival : 500 ≤ p.arrivalMin ∧ p.arrivalMin ≤ 50000)
    (hdepart : 50 ≤ p.departPct ∧ p.departPct ≤ 100) (hqueue : 1 ≤ p.queueLimit ∧ p.queueLimit ≤ 6)
    (hmin : 20 ≤ p.launchMin ∧ p.launchMin ≤ 200) (hclose : 50 ≤ p.gateClosePct ∧ p.gateClosePct ≤ 95) :
    p.findings = timed 18 1000 20000 p.proofWait := by
  have hfields : (List.range 6).flatMap (fun k =>
      if k = 3 then []
      else inRange (2 * k) 50 5000 ((p.len[k]?).getD 0) ++ inRange (2 * k + 1) 1 1000 ((p.ratio[k]?).getD 0)) = [] := by
    refine List.flatMap_eq_nil_iff.mpr fun k hk => ?_
    by_cases h3 : k = 3
    · exact if_pos h3
    · obtain ⟨hlen, hratio⟩ := hzones k (List.mem_range.mp hk) h3
      rw [if_neg h3, inRange_eq_nil hlen, inRange_eq_nil hratio]
      rfl
  unfold ZonePlan.findings
  rw [hfields, inRange_eq_nil hlaunch, inRange_eq_nil harrival, inRange_eq_nil hdepart, inRange_eq_nil hqueue,
    inRange_eq_nil hmin, inRange_eq_nil hclose]
  rfl

/-- The times of a channel of a door plan that are out of range. -/
def ChannelPlan.timings (p : ChannelPlan) (index : Nat) : List (Nat × Finding) :=
  timed index 200 5000 p.openTime ++ timed (index + 1) 200 5000 p.closeTime ++ timed (index + 2) 200 5000 p.reverseTime

theorem channel_findings {p : ChannelPlan} (index : Nat) (hreclose : p.recloseLimit ≤ 5) (hmode : p.powerUpMode ≤ 3) :
    p.findings index = p.timings index := by
  rw [ChannelPlan.findings, inRange_eq_nil ⟨Nat.zero_le _, hreclose⟩, inRange_eq_nil ⟨Nat.zero_le _, hmode⟩,
    List.append_nil, List.append_nil, ChannelPlan.timings]

theorem timings_timing (p : ChannelPlan) (index : Nat) : ∀ x ∈ p.timings index, x.2 = .timing :=
  forall_mem_append_timing (forall_mem_append_timing (timed_timing _ _ _ _) (timed_timing _ _ _ _)) (timed_timing _ _ _ _)

theorem timings_isEmpty (p : ChannelPlan) (index : Nat) : (p.timings index).isEmpty =
    (decide (200 ≤ p.openTime ∧ p.openTime ≤ 5000) && decide (200 ≤ p.closeTime ∧ p.closeTime ≤ 5000) &&
      decide (200 ≤ p.reverseTime ∧ p.reverseTime ≤ 5000)) := by
  simp only [ChannelPlan.timings, isEmpty_append, timed_isEmpty]

theorem door_findings {p : DoorPlan} (hreclose : ∀ c, (p.channels.get c).recloseLimit ≤ 5)
    (hmode : ∀ c, (p.channels.get c).powerUpMode ≤ 3) :
    (∀ x ∈ p.findings, x.2 = .timing) ∧ p.findings.isEmpty = ((p.channels.d0.timings 0).isEmpty &&
      (p.channels.d1.timings 5).isEmpty && (p.channels.d2.timings 10).isEmpty && (p.channels.d3.timings 15).isEmpty) := by
  have hfindings : p.findings = p.channels.d0.timings 0 ++ p.channels.d1.timings 5 ++ p.channels.d2.timings 10 ++
      p.channels.d3.timings 15 := by
    rw [DoorPlan.findings,
      channel_findings (p := p.channels.d0) 0 (hreclose .d0) (hmode .d0),
      channel_findings (p := p.channels.d1) 5 (hreclose .d1) (hmode .d1),
      channel_findings (p := p.channels.d2) 10 (hreclose .d2) (hmode .d2),
      channel_findings (p := p.channels.d3) 15 (hreclose .d3) (hmode .d3)]
  rw [hfindings]
  refine ⟨forall_mem_append_timing (forall_mem_append_timing (forall_mem_append_timing (timings_timing _ _)
    (timings_timing _ _)) (timings_timing _ _)) (timings_timing _ _), ?_⟩
  simp only [isEmpty_append]

/-- A rope plan with its fields in range and in order shows nothing. -/
theorem rope_findings {p : RopePlan} (hA : 100 ≤ p.tA ∧ p.tA ≤ 20000) (hB : 100 ≤ p.tB ∧ p.tB ≤ 20000)
    (htol : 1 ≤ p.tol ∧ p.tol ≤ 25) (hmax : 100 ≤ p.designMax ∧ p.designMax ≤ 800)
    (hservice : 10 ≤ p.aService ∧ p.aService ≤ 200) (hfast : 20 ≤ p.aFast ∧ p.aFast ≤ 400)
    (haccel : 5 ≤ p.accel ∧ p.accel ≤ 100) (hspan : 100 ≤ p.span ∧ p.span ≤ 20000) (hlow : p.tripLow < p.warnLow)
    (hwarn : p.warnLow < p.warnHigh) (hhigh : p.warnHigh < p.tripHigh) (htop : p.tripHigh ≤ p.span) (hfail : 20 ≤ p.fFail)
    (hweak : p.fFail < p.fWarn) (hgood : p.fWarn ≤ p.fHigh) (hforce : p.fHigh ≤ 1023) : p.findings = [] := by
  unfold RopePlan.findings
  rw [inRange_eq_nil hA, inRange_eq_nil hB, inRange_eq_nil htol, inRange_eq_nil hmax, inRange_eq_nil hservice,
    inRange_eq_nil hfast, inRange_eq_nil haccel, inRange_eq_nil hspan, inRange_eq_nil (by omega), inRange_eq_nil (by omega),
    mustHold_eq_nil, mustHold_eq_nil, mustHold_eq_nil, mustHold_eq_nil, mustHold_eq_nil]
  · rfl
  all_goals
    simp only [Bool.and_eq_true, decide_eq_true_eq]
    omega

theorem ceiling_findings {t : CeilingTable} (h0 : t.tagReaderCap ≤ 999) (h1 : t.tensionWarnCap ≤ 999)
    (h2 : t.bypassCap ≤ 999) (h3 : t.defaultCeiling ≤ 999) : t.findings = [] := by
  rw [CeilingTable.findings, inRange_eq_nil ⟨Nat.zero_le _, h0⟩, inRange_eq_nil ⟨Nat.zero_le _, h1⟩,
    inRange_eq_nil ⟨Nat.zero_le _, h2⟩, inRange_eq_nil ⟨Nat.zero_le _, h3⟩]
  rfl

/-- The first value above 999 of a ceiling table is its first fault. -/
theorem ceiling_firstFault (cap : Nat → Nat) {n : Nat} (hn : n < 4) (hhigh : 999 < cap n) (hbefore : ∀ i, i < n → cap i ≤ 999) :
    firstFault (CeilingTable.findings ⟨cap 0, cap 1, cap 2, cap 3⟩) = some (n, .structural) := by
  have hok : ∀ i, i < n → inRange i 0 999 (cap i) = [] := fun i hi => inRange_eq_nil ⟨Nat.zero_le _, hbefore i hi⟩
  have hbad : inRange n 0 999 (cap n) = [(n, .structural)] := inRange_eq_structural (by omega)
  unfold CeilingTable.findings firstFault
  interval_cases n
  · rw [hbad]; rfl
  · rw [hok 0 (by omega), hbad]; rfl
  · rw [hok 0 (by omega), hok 1 (by omega), hbad]; rfl
  · rw [hok 0 (by omega), hok 1 (by omega), hok 2 (by omega), hbad]; rfl

/-! ## Line plan -/

theorem stationFindings_eq {p : LinePlan} (l : List StationEntry) (index : Nat) (seen : List Nat)
    (hrange : ∀ e ∈ l, addressOk e.address = true ∧ e.kind ≤ 1 ∧ e.sheaves ≤ 4) (hnodup : (l.map (·.address)).Nodup)
    (hseen : ∀ e ∈ l, e.address ∉ seen) :
    (∀ x ∈ p.stationFindings index seen l, x.2 = .timing) ∧
      (p.stationFindings index seen l).isEmpty = l.all fun e => decide (e.silence = p.fixedSilence e.silence) := by
  induction l generalizing index seen with
  | nil => exact ⟨fun x hx => absurd hx List.not_mem_nil, rfl⟩
  | cons e rest ih =>
    obtain ⟨haddress, hkind, hsheaves⟩ := hrange e List.mem_cons_self
    have hnew := hseen e List.mem_cons_self
    obtain ⟨hfirst, hrest⟩ := List.nodup_cons.mp hnodup
    obtain ⟨htiming, hempty⟩ := ih (index + 4) (e.address :: seen) (fun x hx => hrange x (List.mem_cons_of_mem _ hx)) hrest
      fun x hx hmem => by
        rcases List.mem_cons.mp hmem with h | h
        · exact hfirst (List.mem_map.mpr ⟨x, hx, h⟩)
        · exact hseen x (List.mem_cons_of_mem _ hx) h
    have hhead : p.stationFindings index seen (e :: rest) =
        (if p.fixedSilence e.silence = e.silence then [] else [(index + 3, .timing)]) ++
          p.stationFindings (index + 4) (e.address :: seen) rest := by
      rw [LinePlan.stationFindings, mustHold_eq_nil (by simp [haddress, hnew]), inRange_eq_nil ⟨Nat.zero_le _, hkind⟩,
        inRange_eq_nil ⟨Nat.zero_le _, hsheaves⟩]
      rfl
    rw [hhead]
    refine ⟨forall_mem_append_timing ?_ htiming, ?_⟩
    · split <;> simp
    · rw [isEmpty_append, hempty, List.all_cons]
      by_cases hfixed : p.fixedSilence e.silence = e.silence
      · rw [if_pos hfixed, decide_eq_true hfixed.symm]
        rfl
      · rw [if_neg hfixed, decide_eq_false fun h => hfixed h.symm]
        rfl

/-- A line plan whose structure is right shows its times alone. -/
theorem line_findings {p : LinePlan} (hrate : p.bitRate ≤ 2) (hretry : p.retryLimit ≤ 7) (hcount : p.entryCount ≤ 13)
    (hrange : ∀ e ∈ p.stations, addressOk e.address = true ∧ e.kind ≤ 1 ∧ e.sheaves ≤ 4)
    (hnodup : (p.stations.map (·.address)).Nodup) :
    (∀ x ∈ p.findings, x.2 = .timing) ∧ p.findings.isEmpty =
      (decide (200 ≤ p.statusPeriod ∧ p.statusPeriod ≤ 2000) && decide (10 ≤ p.ringTimeout ∧ p.ringTimeout ≤ 60) &&
        decide (30 ≤ p.waitTimeout ∧ p.waitTimeout ≤ 300) &&
        p.stations.all fun e => decide (e.silence = p.fixedSilence e.silence)) := by
  obtain ⟨htiming, hempty⟩ := stationFindings_eq (p := p) p.stations 7 [] hrange hnodup fun e _ => List.not_mem_nil
  have hfindings : p.findings = timed 2 200 2000 p.statusPeriod ++ timed 3 10 60 p.ringTimeout ++
      timed 4 30 300 p.waitTimeout ++ p.stationFindings 7 [] p.stations := by
    rw [LinePlan.findings, inRange_eq_nil ⟨Nat.zero_le _, hrate⟩, inRange_eq_nil ⟨Nat.zero_le _, hretry⟩,
      inRange_eq_nil ⟨Nat.zero_le _, hcount⟩, List.append_nil]
    rfl
  rw [hfindings]
  refine ⟨forall_mem_append_timing (forall_mem_append_timing (forall_mem_append_timing (timed_timing _ _ _ _) (timed_timing _ _ _ _))
    (timed_timing _ _ _ _)) htiming, ?_⟩
  simp only [isEmpty_append, timed_isEmpty, hempty]

/-! ## Cabin registry -/

/-- A registered tag that an earlier cabin has, or that has been seen before. -/
def repeatsTag (seen : List Word) (rs : List RegEntry) (j : Nat) : Prop :=
  ∃ r, rs[j]? = some r ∧ r.registered = true ∧ (r.tag ∈ seen ∨ ∃ x ∈ rs.take j, x.registered = true ∧ x.tag = r.tag)

/-- The tags seen after an entry. -/
def seenAfter (seen : List Word) (r : RegEntry) : List Word := if r.registered then r.tag :: seen else seen

theorem mem_seenAfter {seen : List Word} {r : RegEntry} {t : Word} :
    t ∈ seenAfter seen r ↔ (r.registered = true ∧ r.tag = t) ∨ t ∈ seen := by
  unfold seenAfter
  split
  · next h => simp [h, eq_comm]
  · next h => simp [h]

theorem repeatsTag_succ {seen : List Word} {r : RegEntry} {rest : List RegEntry} {j : Nat} :
    repeatsTag seen (r :: rest) (j + 1) ↔ repeatsTag (seenAfter seen r) rest j := by
  simp only [repeatsTag, List.getElem?_cons_succ, List.take_succ_cons, List.mem_cons, exists_eq_or_imp, mem_seenAfter]
  refine exists_congr fun x => and_congr_right fun _ => and_congr_right fun _ => ?_
  tauto

theorem registryFindings_cons (cabin : Nat) (seen : List Word) (r : RegEntry) (rest : List RegEntry) :
    registryFindings cabin seen (r :: rest) = (if r.registered ∧ seen.contains r.tag then [(cabin, .duplicate)] else []) ++
      registryFindings (cabin + 1) (seenAfter seen r) rest := rfl

theorem repeatsTag_zero {seen : List Word} {r : RegEntry} {rest : List RegEntry} :
    repeatsTag seen (r :: rest) 0 ↔ (r.registered ∧ seen.contains r.tag) := by
  simp [repeatsTag]

theorem registryFindings_eq_nil {rs : List RegEntry} (cabin : Nat) (seen : List Word)
    (h : ∀ j, j < rs.length → ¬ repeatsTag seen rs j) : registryFindings cabin seen rs = [] := by
  induction rs generalizing cabin seen with
  | nil => rfl
  | cons r rest ih =>
    rw [registryFindings_cons, if_neg (mt repeatsTag_zero.mpr (h 0 (Nat.succ_pos _))), List.nil_append]
    exact ih _ _ fun j hj hrepeats => h (j + 1) (Nat.succ_lt_succ hj) (repeatsTag_succ.mpr hrepeats)

/-- The first fault of a registry is at its first repeated tag. -/
theorem registry_firstFault {rs : List RegEntry} (cabin : Nat) (seen : List Word) {j : Nat} (hrepeats : repeatsTag seen rs j)
    (hbefore : ∀ i, i < j → ¬ repeatsTag seen rs i) : firstFault (registryFindings cabin seen rs) = some (cabin + j, .duplicate) := by
  induction rs generalizing cabin seen j with
  | nil =>
    obtain ⟨r, hr, -⟩ := hrepeats
    simp at hr
  | cons r rest ih =>
    rw [registryFindings_cons]
    cases j with
    | zero => rw [if_pos (repeatsTag_zero.mp hrepeats)]; rfl
    | succ j =>
      rw [if_neg (mt repeatsTag_zero.mpr (hbefore 0 (Nat.succ_pos _))), List.nil_append,
        ih _ _ (repeatsTag_succ.mp hrepeats) fun i hi h => hbefore (i + 1) (Nat.succ_lt_succ hi) (repeatsTag_succ.mpr h)]
      rw [Nat.add_right_comm, Nat.add_assoc]

end

end Sys2Proof.Machine
end

section
/-! PROOF. ADOPT of each table (O52). -/

namespace Sys2Proof.Machine

-- One lemma at a time, as in Laws/State.lean.
set_option Elab.async false

open Sys2Proof

section
variable {s : State} {slip table : Nat}

/-! ## Refusals of ADOPT (R179, R180) -/

theorem adopt_locked (htable : table ≤ 5) (hlength : s.sst.locks.length = 6) (hlock : s.sst.locks[table]? ≠ some .unlocked) :
    s.adopt table = (s, refusal .locked) := by
  have hclosed : s.lockOf table ≠ .unlocked := fun h => hlock (by
    rw [← h, lockOf_eq (by omega), List.getElem?_eq_getElem])
  exact (if_neg (by omega)).trans (if_pos hclosed)

theorem adopt_noKey (htable : table ≤ 5) (hdoor : table ≠ 1) (hlock : s.sst.locks[table]? = some .unlocked)
    (hkey : s.pins.setupKey = false) : s.adopt table = (s, refusal .keyRequired) :=
  (if_neg (by omega)).trans ((if_neg (not_not_intro (lockOf_of_getElem? hlock))).trans (if_pos ⟨hdoor, by simp [hkey]⟩))

/-! ## The pending copies as the statement names their fields -/

theorem usersTake_none (htable : table = 0 ∨ table = 1 ∨ table = 5) (old : Tables) (u : State) :
    ChangesOnly u [] (u.usersTake old table) := by
  rcases htable with rfl | rfl | rfl <;> exact .refl _ _

theorem pendingLine_stations {n : Nat} (hn : pend8 s.mem 4 8 = n) (hmax : n ≤ 13) :
    (pendingLine s.mem).stations = (List.range n).map (pendingStation s.mem) := by
  show (List.range (min 13 (pend8 s.mem 4 8))).map (pendingStation s.mem) = _
  rw [hn, Nat.min_eq_right hmax]

end

/-- Settles O52: each table's findings decide its ADOPT. -/
theorem adoptReplacesActiveCopy : Obligations.AdoptReplacesActiveCopy := by
  intro s slip table n hslip hwf hrevisions hlocks cap row held inRange' revision
  refine ⟨fun hlock hkey hstate => ⟨fun hcaps w hw => ?_, fun hn hhigh hbefore => ?_⟩, fun hlock hrows w hw => ?_,
    fun htable hlock => ?_, fun htable hdoor hlock hkey => ?_, fun htable => ?_, fun hkey hstate => ?_⟩
  · have hfindings : (withPending s.mem s.sst.active 3).findings 3 = [] :=
      ceiling_findings (hcaps 0 (by omega)) (hcaps 1 (by omega)) (hcaps 2 (by omega)) (hcaps 3 (by omega))
    obtain ⟨hsst, hanswer, hslipOnly, hframe, u, hu, hmsv⟩ := adopt_effect (table := 3) (ps := [.msv])
      (qs := [.sst, .msv, .mem, .news, .journal]) hslip hwf (by omega) hlock (.inr ⟨hkey, hstate⟩) (by simp [hfindings])
      fun u => recomputeCeiling_changes u
    obtain ⟨hset, hanswered⟩ := hanswer w hw
    rw [hfindings] at hanswered
    refine ⟨finish s (s.dispatch slip (.adopt 3)), rfl, ?_, ?_, hanswered, hslipOnly (by decide), hframe⟩
    · rw [hsst] at hset ⊢
      rw [← hset]
      rfl
    · rw [hmsv, ← hu]
      exact (recomputeCeiling_sameList u).opCeiling
  · have hfault : firstFault ((withPending s.mem s.sst.active 3).findings 3) = some (n, .structural) :=
      ceiling_firstFault cap hn hhigh hbefore
    exact ⟨_, rfl, adopt_fault (table := 3) hslip hwf (by omega) hlock (.inr ⟨hkey, hstate⟩) hfault⟩
  · obtain ⟨hchannels, hempty⟩ := door_findings (p := pendingDoor s.mem) 
      (fun c => by
        have hreclose := (hrows c).1
        cases c <;> exact hreclose)
      fun c => by
        have hmode := (hrows c).2
        cases c <;> exact hmode
    have hinRange : ((withPending s.mem s.sst.active 1).findings 1).isEmpty = inRange' :=
      hempty.trans (by
        simp only [timings_isEmpty, inRange', List.all_cons, List.all_nil, Bool.and_true, Bool.and_assoc]
        rfl)
    obtain ⟨hsst, hanswer, -, hframe, -⟩ := adopt_effect (table := 1) (ps := []) (qs := [.sst, .mem, .news, .journal])
      hslip hwf (by omega) hlock (.inl rfl) hchannels fun u => usersTake_none (.inr (.inl rfl)) _ u
    obtain ⟨hset, hanswered⟩ := hanswer w hw
    rw [hinRange] at hanswered
    refine ⟨finish s (s.dispatch slip (.adopt 1)), rfl, fun c => ?_, ?_, hset, hframe.ddu_eq, hanswered, hframe⟩
    · rw [hsst]
      cases c <;> rfl
    · rw [hsst]
      rfl
  · exact ⟨_, rfl, short_refused hslip hwf rfl (.inr rfl) (adopt_locked htable hlocks hlock)⟩
  · exact ⟨_, rfl, short_refused hslip hwf rfl (.inr rfl) (adopt_noKey htable hdoor hlock hkey)⟩
  · have hrun : s.adopt table = (s, refusal .badArg) := if_pos htable
    obtain ⟨hanswered, -, hframe⟩ := short_refused (o := .adopt table) hslip hwf rfl (.inr rfl) hrun
    exact ⟨_, rfl, hanswered, hframe⟩
  · intro at16 at8 within adopted
    have hallowed : ∀ k, k = 1 ∨ s.pins.setupKey = true ∧ (s.msv.state = .standby ∨ s.msv.state = .held) :=
      fun _ => .inr ⟨hkey, hstate⟩
    refine ⟨fun hlock hzones hlaunch harrival hdepart hqueue hmin hclose => ?_, fun hlock hA hB htol hmax hservice hfast haccel
      hspan hlow hwarn hhigh htop hfail hweak hgood hforce => ?_, fun hlock => ?_, fun hlock => ?_⟩
    · have hfindings : (withPending s.mem s.sst.active 0).findings 0 = timed 18 1000 20000 (at16 33) :=
        zone_findings (p := pendingZone s.mem) (fun i hi h3 => by
          have hz := hzones i hi h3
          interval_cases i <;> exact hz) hlaunch harrival hdepart hqueue hmin hclose
      obtain ⟨hsst, hanswer, hslipOnly, hframe, -⟩ := adopt_effect (table := 0) (ps := [])
        (qs := [.sst, .mem, .news, .journal]) hslip hwf (by omega) hlock (hallowed 0)
        (by rw [hfindings]; exact timed_timing _ _ _ _) fun u => usersTake_none (.inl rfl) _ u
      refine ⟨finish s (s.dispatch slip (.adopt 0)), rfl, hslipOnly (by decide), hframe, ?_, fun w hw => ?_⟩
      · rw [hsst]
        rfl
      · obtain ⟨hset, hanswered⟩ := hanswer w hw
        rw [hfindings, timed_isEmpty] at hanswered
        refine ⟨hset, ?_⟩
        simp only [decide_eq_true_eq] at hanswered
        exact hanswered
    · have hfindings : (withPending s.mem s.sst.active 2).findings 2 = [] :=
        rope_findings (p := pendingRope s.mem) hA hB htol hmax hservice hfast haccel hspan hlow hwarn hhigh htop hfail hweak
          hgood hforce
      obtain ⟨hsst, hanswer, hslipOnly, hframe, -⟩ := adopt_effect (table := 2) (ps := [.msv])
        (qs := [.sst, .msv, .mem, .news, .journal]) hslip hwf (by omega) hlock (hallowed 2) (by simp [hfindings])
        fun u => recomputeCeiling_changes u
      refine ⟨finish s (s.dispatch slip (.adopt 2)), rfl, hslipOnly (by decide), hframe, ?_, fun w hw => ?_⟩
      · rw [hsst]
        rfl
      · obtain ⟨hset, hanswered⟩ := hanswer w hw
        rw [hfindings] at hanswered
        exact ⟨hset, hanswered⟩
    · intro line period silence hrate hretry hcount hstations
      have hline : ∀ i, line i = 0x109 + 5 * i := fun _ => rfl
      have hrow : ∀ i, pendingStation s.mem i = ⟨at8 (line i), at8 (line i + 1), at8 (line i + 2), at16 (line i + 3)⟩ := fun i => by
        have h8 : ∀ f g, 0x100 + f = g → pend8 s.mem 4 f = at8 g := fun f g h => by rw [← h]; exact pend8_eq s 4 f
        have h16 : ∀ f g, 0x100 + f = g → pend16 s.mem 4 f = at16 g := fun f g h => by rw [← h]; exact pend16_eq s 4 f
        have hi := hline i
        rw [pendingStation, h8 _ (line i) (by omega), h8 _ (line i + 1) (by omega), h8 _ (line i + 2) (by omega),
          h16 _ (line i + 3) (by omega)]
      have hlist : (pendingLine s.mem).stations = (List.range (at8 0x108)).map (pendingStation s.mem) :=
        pendingLine_stations rfl hcount
      obtain ⟨htiming, hempty⟩ := line_findings (p := pendingLine s.mem) hrate.2 hretry.2 hcount
        (fun e he => by
          rw [hlist] at he
          obtain ⟨i, hi, rfl⟩ := List.mem_map.mp he
          obtain ⟨⟨hlow, hhigh⟩, hkind, hsheaves, -⟩ := hstations i (List.mem_range.mp hi)
          rw [hrow]
          exact ⟨by simp [addressOk, hlow, hhigh], hkind, hsheaves⟩)
        (by
          rw [hlist, List.map_map]
          refine List.Nodup.map_on (fun i hi j hj heq => ?_) List.nodup_range
          simp only [Function.comp_apply, hrow] at heq
          rcases Nat.lt_trichotomy i j with h | h | h
          · exact absurd heq ((hstations j (List.mem_range.mp hj)).2.2.2 i h)
          · exact h
          · exact absurd heq.symm ((hstations i (List.mem_range.mp hi)).2.2.2 j h))
      obtain ⟨hsst, hanswer, -, hframe, -⟩ := adopt_effect (table := 4) (ps := stationParts)
        (qs := .sst :: .stn :: Part.ofCause) hslip hwf (by omega) hlock (hallowed 4) htiming fun u => stationsUpdate_changes u _
      refine ⟨finish s (s.dispatch slip (.adopt 4)), rfl, hframe, ?_, fun w hw => ?_⟩
      · have hclamped : (pendingLine s.mem).clamped.stations =
            (List.range (at8 0x108)).map fun i => ⟨at8 (line i), at8 (line i + 1), at8 (line i + 2), silence i⟩ := by
          show (pendingLine s.mem).stations.map _ = _
          rw [hlist, List.map_map]
          refine List.map_congr_left fun i _ => ?_
          simp only [Function.comp_apply, hrow]
          rfl
        rw [hsst, ← hclamped]
        rfl
      · obtain ⟨hset, hanswered⟩ := hanswer w hw
        refine ⟨hset, ?_⟩
        have hokay : ((withPending s.mem s.sst.active 4).findings 4).isEmpty = true ↔
            at16 0x102 = period ∧ 10 ≤ at8 0x104 ∧ at8 0x104 ≤ 60 ∧ 30 ≤ at16 0x105 ∧ at16 0x105 ≤ 300 ∧
              ((List.range (at8 0x108)).all fun i => decide (at16 (line i + 3) = silence i)) = true := by
          have hperiod : 200 ≤ at16 0x102 ∧ at16 0x102 ≤ 2000 ↔ at16 0x102 = period := by omega
          have hall : ((pendingLine s.mem).stations.all fun e => decide (e.silence = (pendingLine s.mem).fixedSilence e.silence)) =
              (List.range (at8 0x108)).all fun i => decide (at16 (line i + 3) = silence i) := by
            rw [hlist, List.all_map]
            refine congrArg (List.all _) (funext fun i => ?_)
            simp only [Function.comp_apply, hrow]
            rfl
          rw [show (withPending s.mem s.sst.active 4).findings 4 = (pendingLine s.mem).findings from rfl, hempty, hall,
            ← hperiod]
          simp only [Bool.and_eq_true, decide_eq_true_eq, and_assoc]
          exact Iff.rfl
        rw [if_congr hokay rfl rfl] at hanswered
        exact hanswered
    · intro named repeats
      let reg (i : Nat) : RegEntry := ⟨named i, BitVec.ofNat 16 (at16 (0x201 + 3 * i))⟩
      have hpending : pendingRegistry s.mem = (List.range 96).map reg := by
        refine List.map_congr_left fun i _ => ?_
        have h8 : pend8 s.mem 5 (3 * i) = at8 (0x200 + 3 * i) := pend8_eq s 5 (3 * i)
        have h16 : pend16 s.mem 5 (3 * i + 1) = at16 (0x201 + 3 * i) := by
          rw [show 0x201 + 3 * i = tableOffset 5 + (3 * i + 1) by rw [show tableOffset 5 = 0x200 from rfl]; omega]
          exact pend16_eq s 5 (3 * i + 1)
        rw [h8, h16]
      have hrepeats : ∀ j, j < 96 → (repeatsTag [] (pendingRegistry s.mem) j ↔ repeats j) := fun j hj => by
        have hget : (pendingRegistry s.mem)[j]? = some (reg j) := by
          rw [hpending, List.getElem?_map, List.getElem?_range hj]
          rfl
        have htake : (pendingRegistry s.mem).take j = (List.range j).map reg := by
          rw [hpending, ← List.map_take, List.take_range, Nat.min_eq_left hj.le]
        have htag : ∀ i, (reg i).tag = (reg j).tag ↔ at16 (0x201 + 3 * i) = at16 (0x201 + 3 * j) := fun i => by
          have hi := word_lt s (0x4C00 + (0x201 + 3 * i))
          have hj := word_lt s (0x4C00 + (0x201 + 3 * j))
          refine ⟨fun h => ?_, fun h => congrArg (BitVec.ofNat 16) h⟩
          have hnat := congrArg BitVec.toNat h
          simp only [reg, BitVec.toNat_ofNat] at hnat
          rwa [Nat.mod_eq_of_lt hi, Nat.mod_eq_of_lt hj] at hnat
        simp only [repeatsTag, hget, htake, Option.some_inj, exists_eq_left', List.not_mem_nil, false_or, List.mem_map,
          List.mem_range, exists_exists_and_eq_and, htag]
        exact Iff.rfl
      refine ⟨fun hnone => ?_, fun j hj hrep hbefore => ?_⟩
      · have hfindings : (withPending s.mem s.sst.active 5).findings 5 = [] :=
          registryFindings_eq_nil 1 [] fun j hj hrep => by
            have hlength : (pendingRegistry s.mem).length = 96 := by rw [hpending, List.length_map, List.length_range]
            replace hj : j < 96 := hlength ▸ hj
            exact hnone j hj ((hrepeats j hj).mp hrep)
        obtain ⟨hsst, hanswer, hslipOnly, hframe, -⟩ := adopt_effect (table := 5) (ps := [])
          (qs := [.sst, .mem, .news, .journal]) hslip hwf (by omega) hlock (hallowed 5) (by simp [hfindings])
          fun u => usersTake_none (.inr (.inr rfl)) _ u
        refine ⟨finish s (s.dispatch slip (.adopt 5)), rfl, hslipOnly (by decide), hframe, ?_, fun w hw => ?_⟩
        · rw [hsst]
          show _ = { s.sst with active := { s.sst.active with registry := (List.range 96).map reg }
                                revisions := s.sst.revisions.modify 5 (· + 1) }
          rw [← hpending]
          rfl
        · obtain ⟨hset, hanswered⟩ := hanswer w hw
          rw [hfindings] at hanswered
          exact ⟨hset, hanswered⟩
      · have hfault : firstFault ((withPending s.mem s.sst.active 5).findings 5) = some (j + 1, .duplicate) := by
          rw [Nat.add_comm]
          exact registry_firstFault 1 [] ((hrepeats j hj).mpr hrep) fun i hi h =>
            hbefore i hi ((hrepeats i (by omega)).mp h)
        exact ⟨_, rfl, adopt_fault (table := 5) hslip hwf (by omega) hlock (hallowed 5) hfault⟩

end Sys2Proof.Machine
end

section
/-! PROOF. Resets (O54; R8, R27, R50, R61, R89, R124, R141, R163, R176, R181, R184 to R186). -/

namespace Sys2Proof.Machine

-- One lemma at a time, as in Laws/State.lean.
set_option Elab.async false

open Sys2Proof

section
variable {s t u : State} {n : Nat}

/-! ## What leaves the update counters alone -/

theorem journalAt_counters (s : State) (kind : JKind) (block : Block) (index : Byte) (cabin : Nat) (detail : List Byte) :
    (s.journalAt kind block index cabin detail).obc.counters = s.obc.counters := by
  unfold State.journalAt
  extract_lets s1
  have h1 : s1.obc.counters = s.obc.counters := by
    unfold s1
    split <;> rfl
  split
  · split
    · exact h1
    · exact h1
  · rfl

theorem publishCause_counters (s : State) (kind : JKind) (c : Cause) (sub : Nat) :
    (s.publishCause kind c sub).obc.counters = s.obc.counters := journalAt_counters ..

theorem recomputeCeiling_obc (s : State) : s.recomputeCeiling.obc = s.obc := by
  unfold State.recomputeCeiling State.recomputeSpeedRef
  dsimp only
  split <;> rfl

/-! ## The supervisor at rest (R149, R163) -/

/-- The supervisor in STANDBY with no cause but those of a reset. -/
structure Msv.AtRest (m : Msv) (n : Nat) : Prop where
  state : m.state = .standby
  chainOut : m.chainOut = false
  ceiling : m.ceiling = 0
  speedRef : m.speedRef = 0
  limits : m.limits = []
  watch : m.watch = none
  aggregate : m.aggregate = none
  codes : ∀ c ∈ m.causes, c.code = .trackLost ∨ c.code = .driveOff
  few : m.causes.length ≤ n

theorem recomputeCeiling_atRest (h : s.msv.AtRest n) : s.recomputeCeiling.msv.AtRest n := by
  have htarget : s.ceilingTarget = 0 := if_pos (.inl (by rw [h.state]; exact SupState.noConfusion))
  rw [recomputeCeiling_msv, htarget, h.ceiling]
  exact { state := h.state, chainOut := h.chainOut, ceiling := rfl, speedRef := by simp [speedRefOf],
          limits := h.limits, watch := h.watch, aggregate := h.aggregate, codes := h.codes, few := h.few }

/-- In STANDBY the list moves nothing but the ceiling (R149, R156). -/
theorem afterListChange_standby (h : s.msv.state = .standby) (code : CauseCode) (i : Nat) :
    s.afterListChange code i = s.recomputeCeiling := by
  unfold State.afterListChange
  rw [h, if_neg (by simp), if_neg (by simp)]

/-- A raise of a SERVICE cause by a reset (R143). -/
theorem raiseCause_atRest {code : CauseCode} (h : s.msv.AtRest n) (hn : n < 31) (hcode : code = .trackLost ∨ code = .driveOff)
    (i : Nat) : ChangesOnly s [.msv, .journal, .news] (s.raiseCause code .service i) ∧
      (s.raiseCause code .service i).obc.counters = s.obc.counters ∧ (s.raiseCause code .service i).msv.AtRest (n + 1) := by
  have hroom : s.msv.causes.length < 31 := by have := h.few; omega
  have hplain : s.raiseCause code .service i = s.listRaise code .service i .activeUnacked := rfl
  have hone : ∀ (l : List Cause) (c : Cause) (k : Nat), (∀ x ∈ l, x.code = .trackLost ∨ x.code = .driveOff) → l.length ≤ n + 1 →
      let v := ((s.updMsv fun m => { m with causes := l }).publishCause .causeRaised c k).afterListChange code i
      ChangesOnly s [.msv, .journal, .news] v ∧ v.obc.counters = s.obc.counters ∧ v.msv.AtRest (n + 1) := by
    intro l c k hcodes hlength v
    let w := (s.updMsv fun m => { m with causes := l }).publishCause .causeRaised c k
    have hw : ChangesOnly s [.msv, .journal, .news] w := ((updMsv_changes s _).weaken).then (publishCause_changes ..)
    have hmsv : w.msv = { s.msv with causes := l } := publishCause_msv ..
    have hrest : w.msv.AtRest (n + 1) := by
      rw [hmsv]
      exact ⟨h.state, h.chainOut, h.ceiling, h.speedRef, h.limits, h.watch, h.aggregate, hcodes, hlength⟩
    have hv : v = w.recomputeCeiling := afterListChange_standby hrest.state code i
    rw [hv]
    refine ⟨hw.then (recomputeCeiling_changes w), ?_, recomputeCeiling_atRest hrest⟩
    rw [recomputeCeiling_obc]
    exact publishCause_counters ..
  rw [hplain]
  unfold State.listRaise
  cases hfind : s.msv.causes.find? (·.isOf code i) with
  | some c =>
    refine hone _ _ _ (fun x hx => ?_) (by rw [List.length_map]; exact h.few.trans (Nat.le_succ n))
    obtain ⟨y, hy, hxy⟩ := List.mem_map.mp hx
    have hc := List.mem_of_find?_eq_some hfind
    split at hxy
    · exact hxy ▸ h.codes c hc
    · exact hxy ▸ h.codes y hy
  | none =>
    simp only [hroom, if_true]
    refine hone _ _ _ (fun x hx => ?_) (by rw [List.length_append]; exact Nat.succ_le_succ h.few)
    rcases List.mem_append.mp hx with hx | hx
    · exact h.codes x hx
    · rw [List.mem_singleton.mp hx]
      exact hcode

/-! ## The events of a reset (R176, R184) -/

/-- The part behind some of a reset's events: TRACK_LOST is raised, and little else changes. -/
structure State.Restarted (s t : State) (n : Nat) : Prop where
  frame : ChangesOnly s [.msv, .journal, .news] t
  counters : t.obc.counters = s.obc.counters
  rest : t.msv.AtRest n
  lost : t.Lists .trackLost 0 .activeUnacked

theorem State.Restarted.quiet (h : s.Restarted t n) (hu : ChangesOnly t [.journal, .news] u)
    (hcounters : u.obc.counters = t.obc.counters) : s.Restarted u n where
  frame := h.frame.then hu
  counters := hcounters.trans h.counters
  rest := by rw [hu.msv_eq]; exact h.rest
  lost := by rw [State.Lists, hu.msv_eq]; exact h.lost

theorem State.Restarted.journal (h : s.Restarted t n) (kind : JKind) (block : Block) (cabin : Nat) (detail : List Byte) :
    s.Restarted (t.journal kind block cabin detail) n :=
  h.quiet (journal_changes ..) (journalAt_counters ..)

theorem State.Restarted.setNews (h : s.Restarted t n) (news : News) : s.Restarted (t.setNews news) n :=
  h.quiet ((setNews_changes t news).weaken) rfl

theorem State.Restarted.when (h : s.Restarted t n) {b : Bool} {f : State → State} (hf : s.Restarted (f t) n) :
    s.Restarted (t.when b f) n := by
  unfold State.when
  split <;> assumption

theorem State.Restarted.weaken {m : Nat} (h : s.Restarted t n) (hm : n ≤ m) : s.Restarted t m :=
  ⟨h.frame, h.counters, { h.rest with few := h.rest.few.trans hm }, h.lost⟩

theorem State.Restarted.driveOffAtReset (h : s.Restarted t n) (hn : n < 31) (c : Channel) :
    s.Restarted (t.driveOffAtReset c) (n + 1) := by
  unfold State.driveOffAtReset
  split
  · obtain ⟨hframe, hcounters, hrest⟩ := raiseCause_atRest h.rest hn (.inr rfl) (channelCode c)
    refine ⟨h.frame.then hframe, hcounters.trans h.counters, hrest, ?_⟩
    exact ((State.SameCause.refl t).raiseCause fun heq => CauseCode.noConfusion heq.1).lists.mpr h.lost
  · exact h.weaken (Nat.le_succ n)

theorem State.Restarted.stationEntries (h : s.Restarted t n) (old : Stn) : s.Restarted (t.stationEntries old) n := by
  unfold State.stationEntries
  generalize stationAddresses = l
  induction l generalizing t with
  | nil => exact h
  | cons a l ih =>
    rw [List.foldl_cons]
    refine ih ?_
    dsimp only
    split
    · exact h
    · exact h.journal ..

/-! ## The frames of a reset (R108) -/

/-- Where a place is free, a period's frame is queued and nothing else changes. -/
theorem askPeriodic_room (h : ordinaryPlace s.lnc.queue = true) (kind : FrameKind) :
    ∃ f : Lnc → Lnc, s.askPeriodic kind = s.updLnc f ∧ (f s.lnc).state = s.lnc.state ∧
      (f s.lnc).queue.length ≤ s.lnc.queue.length + 1 := by
  unfold State.askPeriodic
  split
  · exact ⟨_, rfl, rfl, by simp⟩
  · rw [State.askFrame, if_pos h]
    exact ⟨_, rfl, rfl, by simp [length_insertFrame]⟩

theorem ordinaryPlace_of_length {q : List TxFrame} (h : q.length < 14) : ordinaryPlace q = true := by
  have hcount := List.countP_le_length (p := fun f : TxFrame => decide (f.kind.priority ≠ 0)) (l := q)
  unfold ordinaryPlace
  rw [decide_eq_true (by omega), decide_eq_true (by omega)]
  rfl

/-- The STATUS and the TIME of a reset change the line controller alone. -/
theorem periods_room (h : s.lnc.queue.length < 13) :
    ∃ f : Lnc → Lnc, s.statusPeriod.timePeriod = s.updLnc f ∧ (f s.lnc).state = s.lnc.state := by
  let v := s.updLnc fun l => { l with statusTimer := s.now + s.sst.active.line.statusPeriod }
  obtain ⟨f, hf, hstate, hlength⟩ := askPeriodic_room (s := v) (ordinaryPlace_of_length (by exact Nat.lt_succ_of_lt h)) .status
  let w := s.statusPeriod.updLnc fun l => { l with timeTimer := s.statusPeriod.now + 60000 }
  have hstatus : s.statusPeriod = v.updLnc f := hf
  have hqueue : w.lnc.queue.length < 14 := by
    show s.statusPeriod.lnc.queue.length < 14
    rw [hstatus]
    exact lt_of_le_of_lt hlength (Nat.succ_lt_succ h)
  obtain ⟨g, hg, hstate', -⟩ := askPeriodic_room (s := w) (ordinaryPlace_of_length hqueue) .time
  have htime : s.statusPeriod.timePeriod = w.updLnc g := hg
  refine ⟨fun _ => g w.lnc, ?_, ?_⟩
  · rw [htime]
    show w.updLnc g = _
    simp only [w, hstatus]
    rfl
  · show (g w.lnc).state = s.lnc.state
    rw [hstate']
    show s.statusPeriod.lnc.state = _
    rw [hstatus]
    exact hstate

/-- The events of a reset: the cause, the entries and the frames. -/
theorem resetEvents_effect (hrest : s.msv.AtRest 0) (hqueue : s.lnc.queue = []) (b : BeforeReset) (invalid : Option Nat) :
    ChangesOnly s [.msv, .lnc, .journal, .news] (s.resetEvents b invalid) ∧
      (s.resetEvents b invalid).obc.counters = s.obc.counters ∧ (s.resetEvents b invalid).msv.AtRest 3 ∧
      (s.resetEvents b invalid).Lists .trackLost 0 .activeUnacked ∧
      (s.resetEvents b invalid).lnc.state = s.lnc.state ∧ 0x40#7 &&& (s.resetEvents b invalid).obc.news = 0x40 := by
  unfold State.resetEvents
  extract_lets s1 s2 s3 s4 s5 s6 s7 s8
  have hentry : s.resetEntry.msv.AtRest 0 := by rw [show s.resetEntry.msv = s.msv from journal_msv ..]; exact hrest
  have h1 : s.Restarted s1 1 := by
    obtain ⟨hframe, hcounters, hrest1⟩ := raiseCause_atRest hentry (by omega) (.inl rfl) 0
    refine ⟨((resetEntry_changes s).weaken).then hframe, hcounters.trans (journalAt_counters ..), hrest1, ?_⟩
    exact raiseCause_lists (by have := hentry.few; omega)
  have h3 : s.Restarted s3 3 := ((h1.journal ..).driveOffAtReset (by omega) .d0).driveOffAtReset (by omega) .d1
  have h4 : s.Restarted s4 3 := h3.when (h3.journal ..)
  have h5 : s.Restarted s5 3 := h4.stationEntries _
  have h6 : s.Restarted s6 3 := h5.when (h5.journal ..)
  have h7 : s.Restarted s7 3 := h6.when (h6.setNews _)
  have h8 : s.Restarted s8 3 := by
    cases invalid with
    | none => exact h7
    | some n => exact h7.journal ..
  have h9 : s.Restarted (s8.setNews .resetDone) 3 := h8.setNews _
  obtain ⟨f, hf, hstate⟩ := periods_room (s := s8.setNews .resetDone) (by
    rw [h9.frame.lnc_eq, hqueue]
    exact Nat.succ_pos _)
  rw [hf]
  refine ⟨h9.frame.weaken.then (updLnc_changes _ f), h9.counters, h9.rest, h9.lost, hstate.trans ?_, ?_⟩
  · rw [h9.frame.lnc_eq]
  · show 0x40#7 &&& (s8.obc.news ||| 0x40#7) = 0x40#7
    generalize s8.obc.news = news
    revert news
    decide

/-! ## The slips of a reset (R176) -/

theorem setSlipState_mem {slip : Nat} (hslip : slip < 32) (n : Nat) :
    (s.setSlipState slip n).mem = memWrite s.mem (slipBase slip + 2) (byteOf n) := by
  rw [State.setSlipState, if_pos hslip]
  rfl

theorem setSlips_read {slips : List Nat} (hslips : ∀ k ∈ slips, k < 32) {a : Nat} (ha : ∀ k ∈ slips, a ≠ slipBase k + 2) :
    memRead (slips.foldl (fun t k => t.setSlipState k 0) s).mem a = memRead s.mem a := by
  induction slips generalizing s with
  | nil => rfl
  | cons x rest ih =>
    rw [List.foldl_cons, ih (fun k hk => hslips k (List.mem_cons_of_mem _ hk)) fun k hk => ha k (List.mem_cons_of_mem _ hk),
      setSlipState_mem (hslips x List.mem_cons_self), memRead_memWrite_ne (ha x List.mem_cons_self)]

theorem setSlips_state {slips : List Nat} (hslips : ∀ k ∈ slips, k < 32) (hwf : Memory.wf s.mem = true) {k : Nat}
    (hk : k ∈ slips) : (slips.foldl (fun t k => t.setSlipState k 0) s).slipState k = 0 := by
  induction slips generalizing s with
  | nil => exact absurd hk List.not_mem_nil
  | cons x rest ih =>
    have hx : x < 32 := hslips x List.mem_cons_self
    have hrest : ∀ k ∈ rest, k < 32 := fun k hk => hslips k (List.mem_cons_of_mem _ hk)
    rw [List.foldl_cons]
    by_cases hin : k ∈ rest
    · exact ih hrest (setSlipState_mem hx 0 ▸ wf_memWrite hwf) hin
    · obtain rfl := (List.mem_cons.mp hk).resolve_right hin
      rw [State.slipState, setSlips_read hrest, setSlipState_mem hx, memRead_memWrite_same hwf]
      · rfl
      · intro j hj heq
        have hjk : k = j := by
          unfold slipBase at heq
          omega
        exact hin (hjk ▸ hj)

theorem freeSlips_read {a : Nat} (ha : ∀ k, k < 32 → a ≠ slipBase k + 2) : memRead s.freeSlips.mem a = memRead s.mem a :=
  setSlips_read (fun _ hk => List.mem_range.mp hk) fun k hk => ha k (List.mem_range.mp hk)

theorem freeSlips_state (hwf : Memory.wf s.mem = true) {k : Nat} (hk : k < 32) : s.freeSlips.slipState k = 0 :=
  setSlips_state (fun _ hk => List.mem_range.mp hk) hwf (List.mem_range.mpr hk)

/-! ## The part as a reset starts it -/

theorem resetStations_obc (s : State) : s.resetStations.obc = s.obc := by
  have hfold : ∀ (l : List Nat) (t : State), (l.foldl (fun (t : State) a =>
      (t.updStation a fun r => { r with timer := t.silencePeriod a .unheard }).when (t.present a) (·.markPlanned a)) t).obc =
        t.obc := fun l => by
    induction l with
    | nil => exact fun t => rfl
    | cons a l ih =>
      intro t
      rw [List.foldl_cons, ih, State.when]
      split <;> rfl
  exact (hfold stationAddresses _).trans rfl

/-- What a reset leaves of the blocks, until its events. -/
theorem resetBlocks_started {w : State} {b : BeforeReset} {invalid : Option Nat}
    (hu : ChangesOnly w.resetBlocks [.stn, .mem] u) :
    (ChangesOnly w.resetBlocks [.stn, .mem, .msv, .lnc, .journal, .news] (u.resetEvents b invalid)) ∧
      (u.resetEvents b invalid).msv.AtRest 3 ∧ (u.resetEvents b invalid).Lists .trackLost 0 .activeUnacked ∧
      (u.resetEvents b invalid).lnc.state = .gap ∧ 0x40#7 &&& (u.resetEvents b invalid).obc.news = 0x40 ∧
      (u.resetEvents b invalid).obc.counters = u.obc.counters ∧ (u.resetEvents b invalid).mem = u.mem := by
  have hmsv : u.msv = { opCeiling := w.sst.active.operatorCeiling } := hu.msv_eq
  have hlnc : u.lnc = { bitRate := w.sst.active.line.bitRate } := hu.lnc_eq
  have hrest : u.msv.AtRest 0 := by
    rw [hmsv]
    exact ⟨rfl, rfl, rfl, rfl, rfl, rfl, rfl, fun c hc => absurd hc List.not_mem_nil, le_rfl⟩
  obtain ⟨hframe, hcounters, hrest, hlost, hstate, hnews⟩ := resetEvents_effect hrest (by rw [hlnc]) b invalid
  exact ⟨hu.weaken.then hframe, hrest, hlost, hstate.trans (by rw [hlnc]), hnews, hcounters, hframe.mem_eq⟩

/-- The part with the record of a pin or control reset (R186). -/
def State.recorded (s : State) (kind : ResetKind) : State := s.updSst fun t =>
  { t with resetKind := kind, resetCount := satInc 65535 t.resetCount, wasRunning := s.msv.state.running
           recordSet := t.startSet }

/-- What a pin or control reset makes of the part. -/
theorem warmReset_effect (s : State) (kind : ResetKind) :
    ChangesOnly (s.recorded kind).resetBlocks [.stn, .mem, .msv, .lnc, .journal, .news] (s.warmReset kind) ∧
      (s.warmReset kind).msv.AtRest 3 ∧ (s.warmReset kind).Lists .trackLost 0 .activeUnacked ∧
      (s.warmReset kind).lnc.state = .gap ∧ 0x40#7 &&& (s.warmReset kind).obc.news = 0x40 ∧
      (Memory.wf s.mem = true → (∀ k, k < 32 → (s.warmReset kind).slipState k = 0) ∧
        ∀ a, (∀ k, k < 32 → a ≠ slipBase k + 2) → memRead (s.warmReset kind).mem a = memRead s.mem a) := by
  let b : BeforeReset := ⟨byteOf s.trk.state.code, s.rpm.standstill, s.stn, s.msv.state, s.msv.chainOut⟩
  have hwarm : s.warmReset kind = (s.recorded kind).resetBlocks.resetStations.freeSlips.resetEvents b none := rfl
  have hr := resetStations_changes (s.recorded kind).resetBlocks
  rw [hwarm]
  generalize (s.recorded kind).resetBlocks.resetStations = r at *
  have hrmem : r.mem = s.mem := hr.mem_eq
  have hu : ChangesOnly (s.recorded kind).resetBlocks [.stn, .mem] r.freeSlips := hr.weaken.then (freeSlips_changes r)
  obtain ⟨hframe, hrest, hlost, hgap, hnews, -, hmem⟩ := resetBlocks_started (b := b) (invalid := none) hu
  refine ⟨hframe, hrest, hlost, hgap, hnews, fun hwf => ⟨fun k hk => ?_, fun a ha => ?_⟩⟩
  · rw [slipState_congr hmem]
    exact freeSlips_state (by rw [hrmem]; exact hwf) hk
  · rw [hmem, ← hrmem]
    exact freeSlips_read ha

/-- The part with memory and records empty and the start set loaded (R176, R184 to R186). -/
def State.powered (s : State) (held : Bool) (seconds : DWord) (ms : Nat) : State :=
  { s with mem := [], held := {}, fleet := List.replicate 96 {}, obc := {}
           sst := s.sst.afterPower (s.sst.clock.afterPower held seconds ms s.now) }

/-- What a power-up makes of the part. -/
theorem powerReset_effect (s : State) (held : Bool) (seconds : DWord) (ms : Nat) :
    ChangesOnly (s.powered held seconds ms).resetBlocks [.stn, .mem, .msv, .lnc, .journal, .news] (s.powerReset held seconds ms) ∧
      (s.powerReset held seconds ms).msv.AtRest 3 ∧ (s.powerReset held seconds ms).Lists .trackLost 0 .activeUnacked ∧
      (s.powerReset held seconds ms).lnc.state = .gap ∧ 0x40#7 &&& (s.powerReset held seconds ms).obc.news = 0x40 ∧
      (s.powerReset held seconds ms).obc.counters = {} ∧ (s.powerReset held seconds ms).mem = [] := by
  let b : BeforeReset := ⟨Config.trackStateBeforePower, false, {}, .standby, false⟩
  let invalid : Option Nat := if s.sst.setOk s.sst.startNumber then none else some s.sst.startNumber
  let r := (s.powered held seconds ms).resetBlocks.resetStations
  have hr : ChangesOnly (s.powered held seconds ms).resetBlocks [.stn] r := resetStations_changes _
  have hrmem : r.mem = [] := hr.mem_eq
  have hrobc : r.obc = (s.powered held seconds ms).resetBlocks.obc := resetStations_obc _
  have hpower : s.powerReset held seconds ms = r.resetEvents b invalid := rfl
  obtain ⟨hframe, hrest, hlost, hgap, hnews, hcounters, hmem⟩ := resetBlocks_started (b := b) (invalid := invalid) hr.weaken
  rw [hpower]
  exact ⟨hframe, hrest, hlost, hgap, hnews, hcounters.trans (congrArg Obc.counters hrobc), hmem.trans hrmem⟩

end

theorem startNumber_setTables (x : Sst) : x.setTables x.startNumber =
    (if x.startSet = 1 then x.set1 else if x.startSet = 2 then x.set2 else ⟨{}, true⟩).tables := by
  unfold Sst.startNumber
  by_cases h : x.startSet ≤ 2
  · rw [if_pos h]
    obtain h | h | h : x.startSet = 0 ∨ x.startSet = 1 ∨ x.startSet = 2 := by omega
    all_goals rw [h]; rfl
  · rw [if_neg h, if_neg (by omega), if_neg (by omega)]
    rfl

theorem startNumber_setOk (x : Sst) : x.setOk x.startNumber =
    (if x.startSet = 1 then x.set1 else if x.startSet = 2 then x.set2 else ⟨{}, true⟩).crcOk := by
  unfold Sst.startNumber
  by_cases h : x.startSet ≤ 2
  · rw [if_pos h]
    obtain h | h | h : x.startSet = 0 ∨ x.startSet = 1 ∨ x.startSet = 2 := by omega
    all_goals rw [h]; rfl
  · rw [if_neg h, if_neg (by omega), if_neg (by omega)]
    rfl

/-- Settles O54: the blocks, then the events of each reset. -/
theorem resetsStartThePart : Obligations.ResetsStartThePart := by
  intro s held seconds ms started kept
  have hstarted : ∀ w v : State, w.pins = s.pins → w.pending = s.pending →
      ChangesOnly w.resetBlocks [.stn, .mem, .msv, .lnc, .journal, .news] v → v.msv.AtRest 3 →
      v.Lists .trackLost 0 .activeUnacked → v.lnc.state = .gap → 0x40#7 &&& v.obc.news = 0x40 → started v := by
    intro w v hpins hpending hframe hrest hlost hgap hnews
    obtain ⟨henable, harmed, hnext, -⟩ := hframe.same .port (by decide)
    have hup : v.upTime = 0 := by
      rw [State.upTime, hframe.now_eq, hframe.resetAt_eq]
      show BitVec.ofNat 32 ((w.now - w.now) / 1000) = 0
      rw [Nat.sub_self]
      rfl
    have htrk : v.trk = {} := hframe.trk_eq
    have hlch : v.lch = {} := hframe.lch_eq
    have hcal : v.cal = {} := hframe.cal_eq
    have hrpm : v.rpm = rpmAtReset w := hframe.rpm_eq
    have hsst : v.sst = { w.sst with locks := List.replicate 6 .locked, saving := none } := hframe.sst_eq
    refine ⟨hrest.state, hrest.chainOut, hrest.ceiling, hrest.speedRef, hrest.limits, hrest.watch, hrest.aggregate, hrest.codes,
      hlost, ?_, ?_, ?_, ?_, ?_, ?_, ?_, hgap, hframe.contexts_eq, hnext, henable, harmed, hnews, ?_, ?_, hup,
      hframe.pins_eq.trans hpins, hframe.pending_eq.trans hpending⟩
    · rw [htrk]
    · rw [htrk]
    · rw [hlch]
    · rw [hlch]
    · rw [hrpm]; rfl
    · rw [hrpm]; rfl
    · rw [hcal]
    · rw [hsst]
    · rw [hsst]
  have hfinish : ∀ v : State, started v ∧ kept v → started (finish s v) ∧ kept (finish s v) := fun v h => h
  have hwarm : ∀ kind, started (finish s (s.warmReset kind)) ∧ kept (finish s (s.warmReset kind)) ∧
      (finish s (s.warmReset kind)).sst.resetKind = kind := by
    intro kind
    obtain ⟨hframe, hrest, hlost, hgap, hnews, hslips⟩ := warmReset_effect s kind
    generalize s.warmReset kind = v at *
    have hsst : v.sst = { (s.recorded kind).sst with locks := List.replicate 6 .locked, saving := none } := hframe.sst_eq
    have hfleet : v.fleet = s.fleet.map (·.atReset) := hframe.fleet_eq
    have hrunning : s.msv.state.running = decide (s.msv.state ≠ .standby ∧ s.msv.state ≠ .held) := by
      cases s.msv.state <;> rfl
    have hkept : kept v := by
      refine ⟨?_, ?_, ?_, ?_, ?_, ?_, ?_, ?_, hslips⟩
      · rw [hsst, ← satInc_eq_min]; rfl
      · rw [hsst]; rfl
      · rw [hsst]; rfl
      · rw [hsst]; exact hrunning
      · rw [hsst]; rfl
      · rw [hsst]; rfl
      · rw [hsst]; rfl
      · rw [hfleet, List.map_map]; rfl
    obtain ⟨h1, h2⟩ := hfinish v ⟨hstarted (s.recorded kind) v rfl rfl hframe hrest hlost hgap hnews, hkept⟩
    refine ⟨h1, h2, ?_⟩
    rw [finish_sst, hsst]
    rfl
  refine ⟨⟨_, rfl, hwarm .pin⟩, fun harmed => ⟨finish s s.controlReset, rfl, ?_⟩, s.powerReset held seconds ms, rfl, ?_⟩
  · rw [show s.controlReset = s.warmReset .control from if_pos harmed]
    exact hwarm .control
  · obtain ⟨hframe, hrest, hlost, hgap, hnews, hcounters, hmem⟩ := powerReset_effect s held seconds ms
    generalize s.powerReset held seconds ms = v at *
    have hsst : v.sst = { s.sst.afterPower (s.sst.clock.afterPower held seconds ms s.now) with
      locks := List.replicate 6 .locked, saving := none } := hframe.sst_eq
    refine ⟨hstarted (s.powered held seconds ms) v rfl rfl hframe hrest hlost hgap hnews, ?_, ?_, hmem, hframe.fleet_eq, ?_, hcounters, ?_, ?_, ?_, ?_, ⟨?_, ?_⟩,
      ?_, ?_⟩
    · rw [hsst]; rfl
    · rw [hsst]; rfl
    · rw [hsst]; rfl
    · rw [hsst]; rfl
    · rw [hsst]; rfl
    · rw [hsst]; rfl
    · rw [hsst]; rfl
    · rw [hsst, ← startNumber_setOk]; rfl
    · rw [hsst, ← startNumber_setOk, ← startNumber_setTables]; rfl
    · rw [hsst]
      cases held <;> rfl
    · rw [hsst]
      cases held <;> rfl

end Sys2Proof.Machine
end

section
/-! PROOF. Where the items of the front page and of the views stand, and what the update counters bracket (O48; R164 to R166,
R187 to R192). -/

namespace Sys2Proof.Machine

-- One lemma at a time, as in Laws/State.lean.
set_option Elab.async false

open Sys2Proof

section
variable {s t : State} {a : Nat}

/-! ## Bytes of lists -/

theorem byteAt_append_left {l m : List Byte} {i : Nat} (h : i < l.length) : byteAt (l ++ m) i = byteAt l i := by
  rw [byteAt, List.getElem?_append_left h, byteAt]

theorem byteAt_append_right {l m : List Byte} {n : Nat} (hn : l.length = n) (i : Nat) : byteAt (l ++ m) (n + i) = byteAt m i := by
  rw [byteAt, List.getElem?_append_right (by omega), byteAt, hn, Nat.add_sub_cancel_left]

/-- A field of two bytes. -/
theorem word_of_bytes (n : Nat) : byteOf (n / 256) ++ byteOf n = BitVec.ofNat 16 n := by
  apply BitVec.eq_of_toNat_eq
  simp only [byteOf, BitVec.toNat_append, BitVec.toNat_ofNat]
  rw [← Nat.shiftLeft_add_eq_or_of_lt (Nat.mod_lt _ (Nat.two_pow_pos 8)), Nat.shiftLeft_eq]
  omega

/-- A field of four bytes. -/
theorem dword_of_words (n : Nat) : BitVec.ofNat 16 (n / 65536) ++ BitVec.ofNat 16 n = BitVec.ofNat 32 n := by
  apply BitVec.eq_of_toNat_eq
  simp only [BitVec.toNat_append, BitVec.toNat_ofNat]
  rw [← Nat.shiftLeft_add_eq_or_of_lt (Nat.mod_lt _ (Nat.two_pow_pos 16)), Nat.shiftLeft_eq]
  omega

/-- Two bytes of a list hold a number. -/
def WordAt (l : List Byte) (i n : Nat) : Prop := byteAt l i = byteOf n ∧ byteAt l (i + 1) = byteOf (n / 256)

/-- Four bytes of a list hold a number. -/
def DWordAt (l : List Byte) (i n : Nat) : Prop := WordAt l i n ∧ WordAt l (i + 2) (n / 65536)

theorem dwordAt_of_bytes {l : List Byte} {i n : Nat} (h0 : byteAt l i = byteOf n) (h1 : byteAt l (i + 1) = byteOf (n / 256))
    (h2 : byteAt l (i + 2) = byteOf (n / 65536)) (h3 : byteAt l (i + 3) = byteOf (n / 16777216)) : DWordAt l i n := by
  refine ⟨⟨h0, h1⟩, h2, ?_⟩
  rw [Nat.div_div_eq_div_mul]
  exact h3

/-! ## The front page (R189) -/

/-- Offsets 0x00 to 0x19: identity, serial number and update counters. -/
def State.frontHead (s : State) : List Byte :=
  le32 Config.identity.toNat ++ le32 Config.serial.toNat ++ le32 (~~~Config.serial).toNat ++ s.obc.counters.bytes

/-- The host read count H, offsets 0x24 to 0x27. -/
def State.frontCount (s : State) : List Byte :=
  [memRead s.mem 0x24, memRead s.mem 0x25, memRead s.mem 0x26, memRead s.mem 0x27]

/-- Offsets 0x50 to 0xFF. -/
def State.frontRest (s : State) : List Byte :=
  s.frontRope ++ s.frontMotion ++ s.frontLaunch ++ s.frontLine ++ s.frontDrives

theorem frontPage_eq (s : State) : s.frontPage =
    s.frontHead ++ (s.frontTickets ++ (s.frontCount ++ (s.frontRecord ++ (s.frontEdges ++ s.frontRest)))) := by
  simp only [State.frontPage, State.frontHead, State.frontCount, State.frontRest, List.append_assoc]

theorem frontShown_eq (s : State) : s.frontShown = s.frontTickets ++ (s.frontRecord ++ s.frontRest) := by
  simp only [State.frontShown, State.frontRest, List.append_assoc]

theorem length_frontHead (s : State) : s.frontHead.length = 0x1A := rfl
theorem length_frontTickets (s : State) : s.frontTickets.length = 10 := rfl
theorem length_frontCount (s : State) : s.frontCount.length = 4 := rfl
theorem length_frontRecord (s : State) : s.frontRecord.length = 24 := rfl
theorem length_frontEdges (s : State) : s.frontEdges.length = 16 := rfl
theorem length_frontRope (s : State) : s.frontRope.length = 28 := rfl

theorem readByte_front (h : a < 0x100) : s.readByte a = byteAt s.frontPage a := if_pos h

theorem readByte_tickets {i : Nat} (h : i < 10) : s.readByte (0x1A + i) = byteAt s.frontTickets i := by
  rw [readByte_front (by omega), frontPage_eq, byteAt_append_right (length_frontHead s), byteAt_append_left h]

theorem readByte_count {i : Nat} (h : i < 4) : s.readByte (0x24 + i) = byteAt s.frontCount i := by
  rw [readByte_front (by omega), frontPage_eq, show 0x24 + i = 0x1A + (10 + i) by omega,
    byteAt_append_right (length_frontHead s), byteAt_append_right (length_frontTickets s), byteAt_append_left h]

theorem readByte_record {i : Nat} (h : i < 24) : s.readByte (0x28 + i) = byteAt s.frontRecord i := by
  rw [readByte_front (by omega), frontPage_eq, show 0x28 + i = 0x1A + (10 + (4 + i)) by omega,
    byteAt_append_right (length_frontHead s), byteAt_append_right (length_frontTickets s),
    byteAt_append_right (length_frontCount s), byteAt_append_left h]

theorem readByte_rest {i : Nat} (h : i < 0xB0) : s.readByte (0x50 + i) = byteAt s.frontRest i := by
  rw [readByte_front (by omega), frontPage_eq, show 0x50 + i = 0x1A + (10 + (4 + (24 + (16 + i)))) by omega,
    byteAt_append_right (length_frontHead s), byteAt_append_right (length_frontTickets s),
    byteAt_append_right (length_frontCount s), byteAt_append_right (length_frontRecord s),
    byteAt_append_right (length_frontEdges s)]

/-- The motion part begins at 0x6C. -/
theorem readByte_motion {i : Nat} (h : i < 20) (hi : i < s.frontMotion.length) :
    s.readByte (0x6C + i) = byteAt s.frontMotion i := by
  have hrest : s.frontRest = s.frontRope ++ (s.frontMotion ++ (s.frontLaunch ++ s.frontLine ++ s.frontDrives)) := by
    simp only [State.frontRest, List.append_assoc]
  rw [show 0x6C + i = 0x50 + (28 + i) by omega, readByte_rest (by omega), hrest, byteAt_append_right (length_frontRope s),
    byteAt_append_left hi]

/-- The motion part up to the LIMIT register. -/
def State.motionHead (s : State) : List Byte :=
  b8 s.msv.state.code ++ b8 (flagByte [s.msv.chainOut, s.pins.chainSense, s.msv.watch.isSome, s.msv.aggregate.isSome]) ++
  le16 s.msv.target ++ le16 s.msv.ceiling ++ le16 s.msv.opCeiling ++ le16 s.msv.speedRef

/-- The LIMIT register. -/
def State.motionLimits (s : State) : List Byte := padTo 8 ((s.msv.limits.take 4).flatMap limitBytes)

theorem frontMotion_eq (s : State) : s.frontMotion =
    s.motionHead ++ (s.motionLimits ++ (b8 s.msv.exceed ++ b8 s.msv.causes.length ++ s.frontWatch)) := by
  simp only [State.frontMotion, State.motionHead, State.motionLimits, List.append_assoc]

theorem length_motionHead (s : State) : s.motionHead.length = 10 := rfl

theorem length_motionLimits (s : State) : s.motionLimits.length = 8 := by
  have hlimits : ∀ l : List (CauseCode × Nat), (l.flatMap limitBytes).length = 2 * l.length := fun l => by
    induction l with
    | nil => rfl
    | cons p l ih =>
      have hp : (limitBytes p).length = 2 := rfl
      rw [List.flatMap_cons, List.length_append, ih, hp, List.length_cons]
      omega
  have hfour : (s.msv.limits.take 4).length ≤ 4 := List.length_take_le ..
  rw [State.motionLimits, padTo, List.length_append, hlimits, zeros, List.length_replicate]
  omega

theorem length_frontMotion (s : State) : 20 ≤ s.frontMotion.length := by
  rw [frontMotion_eq, List.length_append, List.length_append, length_motionHead, length_motionLimits, List.length_append,
    List.length_append]
  show 20 ≤ 10 + (8 + (1 + 1 + _))
  omega

theorem readByte_motionHead {i : Nat} (h : i < 10) : s.readByte (0x6C + i) = byteAt s.motionHead i := by
  rw [readByte_motion (by omega) ((by omega : i < 20).trans_le (length_frontMotion s)), frontMotion_eq, byteAt_append_left h]

theorem readByte_causeCount (s : State) : s.readByte 0x7F = byteOf s.msv.causes.length := by
  rw [show 0x7F = 0x6C + 19 from rfl, readByte_motion (by omega) ((by omega : 19 < 20).trans_le (length_frontMotion s)),
    frontMotion_eq, show 19 = 10 + (8 + 1) from rfl, byteAt_append_right (length_motionHead s),
    byteAt_append_right (length_motionLimits s)]
  rfl

/-! ## Items that the host reads -/

theorem readWord_nextTicket (s : State) : s.readWord 0x1A = s.obc.nextTicket := by
  have h0 : s.readByte 0x1A = byteOf s.obc.nextTicket.toNat := readByte_tickets (i := 0) (by omega)
  have h1 : s.readByte 0x1B = byteOf (s.obc.nextTicket.toNat / 256) := readByte_tickets (i := 1) (by omega)
  rw [State.readWord, h0, h1, word_of_bytes, BitVec.ofNat_toNat, BitVec.setWidth_eq]

/-- Four bytes of the ticket part make a count. -/
theorem readDWord_tickets {i : Nat} (h : i < 7) {d : DWord} (hd : DWordAt s.frontTickets i d.toNat) :
    s.readWord (0x1A + i + 2) ++ s.readWord (0x1A + i) = d := by
  obtain ⟨⟨h0, h1⟩, h2, h3⟩ := hd
  have hbyte : ∀ j k, j = 0x1A + k → k < 10 → s.readByte j = byteAt s.frontTickets k := fun j k hj hk => by
    rw [hj, readByte_tickets hk]
  have hlow : s.readWord (0x1A + i) = BitVec.ofNat 16 d.toNat := by
    rw [State.readWord, hbyte (0x1A + i) i rfl (by omega), hbyte (0x1A + i + 1) (i + 1) rfl (by omega), h0, h1, word_of_bytes]
  have hhigh : s.readWord (0x1A + i + 2) = BitVec.ofNat 16 (d.toNat / 65536) := by
    rw [State.readWord, hbyte (0x1A + i + 2) (i + 2) rfl (by omega),
      hbyte (0x1A + i + 2 + 1) (i + 2 + 1) rfl (by omega), h2, h3, word_of_bytes]
  rw [hlow, hhigh, dword_of_words, BitVec.ofNat_toNat, BitVec.setWidth_eq]

theorem readDWord_written (s : State) : s.readWord 0x1E ++ s.readWord 0x1C = s.obc.written :=
  readDWord_tickets (i := 2) (by omega) (dwordAt_of_bytes rfl rfl rfl rfl)

theorem readDWord_taken (s : State) : s.readWord 0x22 ++ s.readWord 0x20 = s.obc.taken :=
  readDWord_tickets (i := 6) (by omega) (dwordAt_of_bytes rfl rfl rfl rfl)

theorem readByte_supervisor (s : State) : (s.readByte 0x6C).toNat = s.msv.state.code := by
  have h : s.readByte 0x6C = byteOf s.msv.state.code := readByte_motionHead (i := 0) (by omega)
  rw [h]
  cases s.msv.state <;> rfl

theorem readWord_ceiling (s : State) : s.readWord 0x70 = BitVec.ofNat 16 s.msv.ceiling := by
  have h0 : s.readByte 0x70 = byteOf s.msv.ceiling := readByte_motionHead (i := 4) (by omega)
  have h1 : s.readByte 0x71 = byteOf (s.msv.ceiling / 256) := readByte_motionHead (i := 5) (by omega)
  rw [State.readWord, h0, h1, word_of_bytes]

theorem readWord_speedRef (s : State) : s.readWord 0x74 = BitVec.ofNat 16 s.msv.speedRef := by
  have h0 : s.readByte 0x74 = byteOf s.msv.speedRef := readByte_motionHead (i := 8) (by omega)
  have h1 : s.readByte 0x75 = byteOf (s.msv.speedRef / 256) := readByte_motionHead (i := 9) (by omega)
  rw [State.readWord, h0, h1, word_of_bytes]

/-- The host reads its own cells as they stand: H, the order board, the pending tables and the scratch (R164). -/
theorem readByte_host (h : (0x100 ≤ a ∧ a < 0x900) ∨ 0x4C00 ≤ a) : s.readByte a = memRead s.mem a := by
  unfold State.readByte
  rcases h with ⟨hlow, hhigh⟩ | hhigh
  · rw [if_neg (by omega), if_pos hhigh]
  · rw [if_neg (by omega), if_neg (by omega), if_neg (by omega), if_neg (by omega), if_neg (by omega), if_neg (by omega),
      if_neg (by omega), if_neg (by omega), if_neg (by omega)]

theorem readByte_hostCount {i : Nat} (h : i < 4) : s.readByte (0x24 + i) = memRead s.mem (0x24 + i) := by
  rw [readByte_count h]
  interval_cases i <;> rfl

/-- A word the host writes is read from its cells (R164). -/
theorem readWord_host (h : a = 0x24 ∨ a = 0x26 ∨ (0x100 ≤ a ∧ a < 0x900) ∨ 0x4C00 ≤ a) (heven : a % 2 = 0) :
    s.readWord a = memRead s.mem (a + 1) ++ memRead s.mem a := by
  rw [State.readWord]
  rcases h with rfl | rfl | h
  · rw [readByte_hostCount (i := 0) (by omega), readByte_hostCount (i := 1) (by omega)]
  · rw [readByte_hostCount (i := 2) (by omega), readByte_hostCount (i := 3) (by omega)]
  · rw [readByte_host h, readByte_host (by omega)]

/-! ## The views (R191) -/

theorem readByte_causes {n i : Nat} (hn : n < 32) (hi : i < 16) : s.readByte (0x2900 + 16 * n + i) = byteAt (s.msv.slotRecord n) i := by
  unfold State.readByte
  rw [if_neg (by omega), if_neg (by omega), if_neg (by omega), if_pos (by omega),
    show (0x2900 + 16 * n + i - 0x2900) / 16 = n by omega, show (0x2900 + 16 * n + i - 0x2900) % 16 = i by omega]

theorem slotRecord_cause {n : Nat} (hn : n < 31) {c : Cause} (hc : s.msv.causes[n]? = some c) : s.msv.slotRecord n = c.bytes := by
  have hslot : s.msv.slot n = some c := (if_neg (by omega)).trans hc
  rw [Msv.slotRecord, hslot]
  rfl

theorem readByte_cause {n : Nat} (hn : n < 31) {c : Cause} (hc : s.msv.causes[n]? = some c) :
    (s.readByte (0x2900 + 16 * n)).toNat = c.code.code ∧ (s.readByte (0x2902 + 16 * n)).toNat = c.sub.code ∧
      s.readByte (0x2904 + 16 * n) = BitVec.ofNat 8 c.index := by
  have hbyte : ∀ i, i < 16 → s.readByte (0x2900 + 16 * n + i) = byteAt c.bytes i := fun i hi => by
    rw [readByte_causes (by omega) hi, slotRecord_cause hn hc]
  refine ⟨?_, ?_, ?_⟩
  · rw [show 0x2900 + 16 * n = 0x2900 + 16 * n + 0 from rfl, hbyte 0 (by omega)]
    show (byteOf c.code.code).toNat = _
    cases c.code <;> rfl
  · rw [show 0x2902 + 16 * n = 0x2900 + 16 * n + 2 by omega, hbyte 2 (by omega)]
    show (byteOf c.sub.code).toNat = _
    cases c.sub <;> rfl
  · rw [show 0x2904 + 16 * n = 0x2900 + 16 * n + 4 by omega, hbyte 4 (by omega)]
    rfl

end

end Sys2Proof.Machine
end

section
/-! PROOF. Host writes, and the update counters of every command (O48; R164 to R169, R175, R188, R189). -/

namespace Sys2Proof.Machine

-- One lemma at a time, as in Laws/State.lean.
set_option Elab.async false

open Sys2Proof

section
variable {s t u : State} {a : Nat}

/-! ## Registers (R167, R168, R188) -/

theorem bne_zero_iff (x : BitVec 7) : (x != 0) = true ↔ ∃ b, b < 7 ∧ x.getLsbD b = true := by
  rw [bne_iff_ne]
  refine ⟨fun hne => ?_, fun ⟨b, _, hb⟩ hzero => ?_⟩
  · by_contra hnone
    refine hne (BitVec.eq_of_getLsbD_eq fun i hi => ?_)
    rw [show (0 : BitVec 7).getLsbD i = false from BitVec.getLsbD_zero]
    exact Bool.eq_false_iff.mpr fun h => hnone ⟨i, hi, h⟩
  · rw [hzero, show (0 : BitVec 7).getLsbD b = false from BitVec.getLsbD_zero] at hb
    exact Bool.noConfusion hb

theorem attn_iff : s.attn = true ↔ ∃ b, b < 7 ∧ s.obc.news.getLsbD b = true ∧ s.obc.enable.getLsbD b = true := by
  rw [State.attn, bne_zero_iff]
  simp only [BitVec.getLsbD_and, Bool.and_eq_true]

/-- A register of seven bits reads in the low bits of its word. -/
theorem getLsbD_setWidth_news (x : BitVec 7) (b : Nat) (hb : b < 16) : (x.setWidth 16).getLsbD b = x.getLsbD b := by
  rw [BitVec.getLsbD_setWidth, decide_eq_true hb, Bool.true_and]

/-- The places of the fields of CONTROL (R188). -/
theorem controlWord_fields : ∀ (code : Fin 8) (chain sense key tracking armed : Bool),
    let w := BitVec.ofNat 16 (code.1 + 8 * flagByte [chain, sense, key, tracking, armed])
    w.toNat % 8 = code.1 ∧ w.getLsbD 3 = chain ∧ w.getLsbD 4 = sense ∧ w.getLsbD 5 = key ∧ w.getLsbD 6 = tracking ∧
      w.getLsbD 7 = armed ∧ w.toNat < 256 := by
  decide +kernel

theorem supState_code_lt (x : SupState) : x.code < 8 := by
  cases x <;> decide

theorem controlWord_eq (s : State) : s.controlWord.toNat % 8 = s.msv.state.code ∧ s.controlWord.getLsbD 3 = s.msv.chainOut ∧
    s.controlWord.getLsbD 4 = s.pins.chainSense ∧ s.controlWord.getLsbD 5 = s.pins.setupKey ∧
    s.controlWord.getLsbD 6 = decide (s.trk.state = .tracking) ∧ s.controlWord.getLsbD 7 = s.obc.armed ∧
    s.controlWord.toNat < 256 :=
  controlWord_fields ⟨s.msv.state.code, supState_code_lt _⟩ s.msv.chainOut s.pins.chainSense s.pins.setupKey
    (decide (s.trk.state = .tracking)) s.obc.armed

theorem clearNews_frame (s : State) (value : Word) : ChangesOnly s [.news] (s.clearNews value) :=
  ⟨fun p hp => by cases p <;> simp_all [Part.same, BoardOnly, State.clearNews]⟩

theorem replaceEnable_frame (s : State) (value : Word) : ChangesOnly s [.port] (s.replaceEnable value) :=
  ⟨fun p hp => by cases p <;> simp_all [Part.same, BoardOnly, State.replaceEnable]⟩

/-! ## Words in terminal memory (R164, R175) -/

theorem storeWord_outside {offset : Nat} {value : Word} (h0 : a ≠ offset) (h1 : a ≠ offset + 1) :
    memRead (s.storeWord offset value).mem a = memRead s.mem a :=
  memRead_memWriteList_outside (by simp only [le16, List.length_cons, List.length_nil]; omega)

theorem storeWord_read {offset : Nat} {value : Word} (hwf : Memory.wf s.mem = true) :
    memRead (s.storeWord offset value).mem offset = byteOf value.toNat ∧
      memRead (s.storeWord offset value).mem (offset + 1) = byteOf (value.toNat / 256) :=
  ⟨memRead_memWriteList (bs := le16 value.toNat) (i := 0) hwf (by simp [le16]),
    memRead_memWriteList (bs := le16 value.toNat) (i := 1) hwf (by simp [le16])⟩

theorem memRead16_storeWord {offset : Nat} {value : Word} (hwf : Memory.wf s.mem = true) :
    memRead16 (s.storeWord offset value).mem offset = value.toNat := by
  obtain ⟨hlow, hhigh⟩ := storeWord_read (offset := offset) (value := value) hwf
  have hvalue := value.isLt
  rw [memRead16, hlow, hhigh, byteOf, byteOf, BitVec.toNat_ofNat, BitVec.toNat_ofNat]
  omega

theorem hostReadCount_mem (s : State) (high : Word) : (s.hostReadCount high).mem = (s.storeWord 0x26 high).mem := rfl

theorem hostReadCount_frame (s : State) (high : Word) : ChangesOnly s [.port, .mem, .cells] (s.hostReadCount high) := by
  have htaken : ∀ u : State, ChangesOnly u [.port] (u.updObc fun o => { o with taken := takenCount o.written u.hostCount }) :=
    fun u => ⟨fun p hp => by cases p <;> simp_all [Part.same, BoardOnly]⟩
  exact (((disarm_changes s).weaken).then (storeWord_changes _ 0x26 high)).then (htaken _)

/-- The part takes H as it stands with its new high word (R175). -/
theorem hostReadCount_taken {high : Word} (hwf : Memory.wf s.mem = true) {h : DWord} (hcount : h = BitVec.ofNat 32
      ((memRead s.mem 0x24).toNat + 256 * (memRead s.mem 0x25).toNat + 65536 * high.toNat)) :
    (s.hostReadCount high).obc.taken = if (s.obc.written - h).toNat ≤ 256 then h else s.obc.written - 256 := by
  have hlow : memRead16 (s.storeWord 0x26 high).mem 0x24 = (memRead s.mem 0x24).toNat + 256 * (memRead s.mem 0x25).toNat := by
    rw [memRead16, storeWord_outside (by omega) (by omega), storeWord_outside (by omega) (by omega)]
  have hhigh : memRead16 (s.storeWord 0x26 high).mem 0x26 = high.toNat := memRead16_storeWord hwf
  show takenCount s.obc.written (BitVec.ofNat 32 (memRead16 (s.storeWord 0x26 high).mem 0x24 +
    65536 * memRead16 (s.storeWord 0x26 high).mem 0x26)) = _
  rw [hlow, hhigh, ← hcount]
  rfl

theorem finish_taken (s u : State) : (finish s u).obc.taken = u.obc.taken := rfl

/-- The words the host may write (R164). -/
theorem hostWritable_iff {offset : Nat} : hostWritable offset = true ↔
    offset = 0x24 ∨ offset = 0x26 ∨ (0x100 ≤ offset ∧ offset < 0x900) ∨ 0x4C00 ≤ offset := by
  simp [hostWritable, or_assoc]

theorem memoryWrite_discarded {offset : Nat} (h : hostWritable offset = false) (value : Word) :
    s.memoryWrite offset value = s.disarm := by
  have hne : offset ≠ 0x26 := fun heq => by
    rw [heq] at h
    exact Bool.noConfusion h
  rw [State.memoryWrite, if_neg hne, if_neg (by simp [h])]

theorem memoryWrite_written {offset : Nat} (h : hostWritable offset = true) (value : Word) :
    (s.memoryWrite offset value).mem = (s.storeWord offset value).mem ∧
      ChangesOnly s [.port, .mem, .cells] (s.memoryWrite offset value) := by
  unfold State.memoryWrite
  by_cases hcount : offset = 0x26
  · rw [if_pos hcount, hcount]
    exact ⟨hostReadCount_mem s value, hostReadCount_frame s value⟩
  · rw [if_neg hcount, if_pos h]
    exact ⟨rfl, ((disarm_changes s).weaken).then (storeWord_changes _ offset value)⟩

theorem memoryWrite_armed (offset : Nat) (value : Word) : (s.memoryWrite offset value).obc.armed = false := by
  unfold State.memoryWrite
  split
  · rfl
  · split <;> rfl

theorem exec_memory_outside {offset : Nat} (h : 0x8000 ≤ offset) (value : Word) :
    exec (.hostMemoryWrite (.memory offset) value) s = .fault (.noSuchAddress offset) := if_pos h

theorem exec_memory_odd {offset : Nat} (h : offset < 0x8000) (hodd : offset % 2 = 1) (value : Word) :
    exec (.hostMemoryWrite (.memory offset) value) s = .fault (.oddOffset offset) :=
  (if_neg (Nat.not_le.mpr h)).trans (if_pos hodd)

theorem exec_memory_even {offset : Nat} (h : offset < 0x8000) (heven : offset % 2 = 0) (value : Word) :
    exec (.hostMemoryWrite (.memory offset) value) s = .next (finish s (s.memoryWrite offset value)) :=
  (if_neg (Nat.not_le.mpr h)).trans (if_neg (by omega))

/-! ## What the update counters bracket (R166) -/

/-- Every command but a power-up ends with the bookkeeping of the update counters. -/
theorem exec_finish {i : Instr} (hpower : ∀ held seconds ms, i ≠ .powerUp held seconds ms) (h : exec i s = .next t) :
    ∃ u, t = finish s u := by
  cases i
  case powerUp held seconds ms => exact absurd rfl (hpower held seconds ms)
  case hostMemoryWrite target value =>
    cases target with
    | control => cases h; exact ⟨_, rfl⟩
    | memory offset =>
      by_cases hin : offset < 0x8000
      · rcases Nat.mod_two_eq_zero_or_one offset with heven | hodd
        · rw [exec_memory_even hin heven] at h
          exact ⟨_, (Host.Outcome.next.inj h).symm⟩
        · rw [exec_memory_odd hin hodd] at h
          cases h
      · rw [exec_memory_outside (Nat.not_lt.mp hin)] at h
        cases h
  all_goals
    cases h
    exact ⟨_, rfl⟩

/-- The front page shows no more than its bracket. -/
theorem readByte_frontShown (h : s.frontShown = t.frontShown)
    (ha : (0x1A ≤ a ∧ a < 0x24) ∨ (0x28 ≤ a ∧ a < 0x40) ∨ (0x50 ≤ a ∧ a < 0x100)) : t.readByte a = s.readByte a := by
  rw [frontShown_eq, frontShown_eq] at h
  obtain ⟨htickets, h⟩ := List.append_inj h rfl
  obtain ⟨hrecord, hrest⟩ := List.append_inj h rfl
  rcases ha with ⟨hlow, hhigh⟩ | ⟨hlow, hhigh⟩ | ⟨hlow, hhigh⟩
  · obtain ⟨i, rfl⟩ := Nat.exists_eq_add_of_le hlow
    rw [readByte_tickets (by omega), readByte_tickets (by omega), htickets]
  · obtain ⟨i, rfl⟩ := Nat.exists_eq_add_of_le hlow
    rw [readByte_record (by omega), readByte_record (by omega), hrecord]
  · obtain ⟨i, rfl⟩ := Nat.exists_eq_add_of_le hlow
    rw [readByte_rest (by omega), readByte_rest (by omega), hrest]

theorem readByte_causeList (h : s.msv.causes = t.msv.causes) (haggregate : s.msv.aggregate = t.msv.aggregate)
    (hlow : 0x2900 ≤ a) (hhigh : a < 0x2B00) : t.readByte a = s.readByte a := by
  have hslot : ∀ i, t.msv.slotRecord i = s.msv.slotRecord i := fun i => by
    rw [Msv.slotRecord, Msv.slotRecord, Msv.slot, Msv.slot, h, haggregate]
  unfold State.readByte
  rw [if_neg (by omega), if_neg (by omega), if_neg (by omega), if_pos hhigh, if_neg (by omega), if_neg (by omega),
    if_neg (by omega), if_pos hhigh, hslot]

theorem readByte_track (h : s.trk.entries.map s.shownEntry = t.trk.entries.map t.shownEntry) (hlow : 0x2B00 ≤ a)
    (hhigh : a < 0x2D00) : t.readByte a = s.readByte a := by
  have hshown : ∀ (u : State) (i : Nat), u.trackRecord i =
      (((u.trk.entries.map u.shownEntry)[i]?).map (·.bytes)).getD (0xFF :: zeros 31) := fun u i => by
    rw [State.trackRecord, List.getElem?_map, Option.map_map]
    rfl
  have hrecord : ∀ i, t.trackRecord i = s.trackRecord i := fun i => by rw [hshown, hshown, h]
  unfold State.readByte
  rw [if_neg (by omega), if_neg (by omega), if_neg (by omega), if_neg (by omega), if_pos hhigh, if_neg (by omega),
    if_neg (by omega), if_neg (by omega), if_neg (by omega), if_pos hhigh, hrecord]

theorem readByte_fleet (h : s.fleet = t.fleet) (hregistry : s.sst.active.registry = t.sst.active.registry)
    (hlow : 0x3000 ≤ a) (hhigh : a < 0x3C00) : t.readByte a = s.readByte a := by
  have hrecord : ∀ n, t.fleetRecord n = s.fleetRecord n := fun n => by
    have hrec : t.fleetRec n = s.fleetRec n := by rw [State.fleetRec, State.fleetRec, h]
    have hreg : t.regEntry n = s.regEntry n := by rw [State.regEntry, State.regEntry, hregistry]
    rw [State.fleetRecord, State.fleetRecord, hrec, hreg]
  unfold State.readByte
  rw [if_neg (by omega), if_neg (by omega), if_neg (by omega), if_neg (by omega), if_neg (by omega), if_neg (by omega),
    if_neg (by omega), if_pos hhigh, if_neg (by omega), if_neg (by omega), if_neg (by omega), if_neg (by omega),
    if_neg (by omega), if_neg (by omega), if_neg (by omega), if_pos hhigh, hrecord]

theorem readByte_active (hactive : s.sst.active = t.sst.active) (hrevisions : s.sst.revisions = t.sst.revisions)
    (hlocks : s.sst.locks = t.sst.locks) (hlow : 0x3C00 ≤ a) (hhigh : a < 0x4C00) : t.readByte a = s.readByte a := by
  have hregion : t.activeRegion = s.activeRegion := by
    rw [State.activeRegion, State.activeRegion, hactive, hrevisions, hlocks]
  unfold State.readByte
  rw [if_neg (by omega), if_neg (by omega), if_neg (by omega), if_neg (by omega), if_neg (by omega), if_neg (by omega),
    if_neg (by omega), if_neg (by omega), if_pos hhigh, if_neg (by omega), if_neg (by omega), if_neg (by omega),
    if_neg (by omega), if_neg (by omega), if_neg (by omega), if_neg (by omega), if_neg (by omega), if_pos hhigh, hregion]

/-- What a station's record shows of it. -/
def StationRec.shown (r : StationRec) : StationRec := { r with timer := none, sheaveActive := [] }

theorem stationRec_shown (h : s.stn.records.map (·.shown) = t.stn.records.map (·.shown)) (address : Nat) :
    (t.stationRec address).shown = (s.stationRec address).shown := by
  have hrec : ∀ u : State, (u.stationRec address).shown =
      ((u.stn.records.map (·.shown))[address]?).getD (StationRec.shown {}) := fun u => by
    rw [State.stationRec, List.getElem?_map]
    cases u.stn.records[address]? <;> rfl
  rw [hrec, hrec, h]

end

end Sys2Proof.Machine
end

section
/-! PROOF. Host writes reach their target (O48). -/

namespace Sys2Proof.Machine

-- One lemma at a time, as in Laws/State.lean.
set_option Elab.async false

open Sys2Proof

section
variable {s t u : State}

/-! ## The seven counters (R166) -/

/-- The changes that the counters bracket, in the order of the front page. -/
def brackets (s u : State) : List Bool :=
  [s.frontShown != u.frontShown,
    decide (s.msv.causes ≠ u.msv.causes) || decide (s.msv.aggregate ≠ u.msv.aggregate),
    decide (s.shownTrack ≠ u.shownTrack),
    decide (s.shownStations ≠ u.shownStations),
    decide (s.shownCalls ≠ u.shownCalls),
    decide (s.fleet ≠ u.fleet) || decide (s.sst.active.registry ≠ u.sst.active.registry),
    decide (s.sst.active ≠ u.sst.active) || decide (s.sst.revisions ≠ u.sst.revisions) || decide (s.sst.locks ≠ u.sst.locks)]

theorem finish_counters (s u : State) :
    (finish s u).obc.counters.list = List.zipWith bracket (brackets s u) s.obc.counters.list := rfl

/-- The step of a counter. -/
def counterStep (changed : Bool) : Word := if changed then 2 else 0

theorem bracket_eq (b : Bool) (w : Word) : bracket b w = w + counterStep b := by
  cases b
  · exact (BitVec.add_zero w).symm
  · rfl

theorem counters_step {n : Nat} {b : Bool} (h : (brackets s u)[n]? = some b) :
    (finish s u).obc.counters.list[n]? = (s.obc.counters.list[n]?).map (· + counterStep b) := by
  rw [finish_counters, List.getElem?_zipWith, h]
  cases s.obc.counters.list[n]? with
  | none => rfl
  | some w => exact congrArg some (bracket_eq b w)

theorem front_bracketed (h : s.frontShown = u.frontShown) : ¬ (s.Differs (finish s u))[0]'(by exact (by decide : 0 < 7)) := by
  have hsame : ∀ a, _ → (finish s u).readByte a = s.readByte a := fun a => readByte_frontShown (t := finish s u) h
  rintro (⟨a, hlow, hhigh, hne⟩ | ⟨a, hlow, hhigh, hne⟩ | ⟨a, hlow, hhigh, hne⟩)
  · exact hne (hsame a (.inl ⟨hlow, hhigh⟩))
  · exact hne (hsame a (.inr (.inl ⟨hlow, hhigh⟩)))
  · exact hne (hsame a (.inr (.inr ⟨hlow, hhigh⟩)))

theorem causeList_bracketed (h : s.msv.causes = u.msv.causes ∧ s.msv.aggregate = u.msv.aggregate) :
    ¬ (s.Differs (finish s u))[1]'(by exact (by decide : 1 < 7)) := fun ⟨_, hlow, hhigh, hne⟩ =>
  hne (readByte_causeList (t := finish s u) h.1 h.2 hlow hhigh)

theorem track_bracketed (h : s.shownTrack = u.shownTrack) : ¬ (s.Differs (finish s u))[2]'(by exact (by decide : 2 < 7)) := fun ⟨_, hlow, hhigh, hne⟩ =>
  hne (readByte_track (t := finish s u) (congrArg Prod.fst h) hlow hhigh)

theorem station_bracketed (h : s.shownStations = u.shownStations) : ¬ (s.Differs (finish s u))[3]'(by exact (by decide : 3 < 7)) := fun ⟨address, hne⟩ =>
  hne (stationRec_shown (t := finish s u) (congrArg Prod.fst h) address)

theorem call_bracketed (h : s.shownCalls = u.shownCalls) : ¬ (s.Differs (finish s u))[4]'(by exact (by decide : 4 < 7)) := fun hne => by
  refine hne ?_
  have htable := congrArg (fun p : Cal × Bool => p.1.table.map fun r => (r.id, r.state, r.parties)) h
  simp only [State.shownCalls, List.map_map] at htable
  exact htable.symm

theorem fleet_bracketed (h : s.fleet = u.fleet ∧ s.sst.active.registry = u.sst.active.registry) :
    ¬ (s.Differs (finish s u))[5]'(by exact (by decide : 5 < 7)) := fun ⟨_, hlow, hhigh, hne⟩ =>
  hne (readByte_fleet (t := finish s u) h.1 h.2 hlow hhigh)

theorem active_bracketed (h : s.sst.active = u.sst.active ∧ s.sst.revisions = u.sst.revisions ∧ s.sst.locks = u.sst.locks) :
    ¬ (s.Differs (finish s u))[6]'(by exact (by decide : 6 < 7)) := fun ⟨_, hlow, hhigh, hne⟩ =>
  hne (readByte_active (t := finish s u) h.1 h.2.1 h.2.2 hlow hhigh)

/-- A region whose contents change has its counter bracket the change. -/
theorem differs_brackets (s u : State) : ∀ n, ∀ h : n < 7, ∃ b, (brackets s u)[n]? = some b ∧
    ((s.Differs (finish s u))[n] → b = true)
  | 0, _ => ⟨_, rfl, fun hdiff => by
      by_contra hnot
      exact front_bracketed (by simpa using hnot) hdiff⟩
  | 1, _ => ⟨_, rfl, fun hdiff => by
      by_contra hnot
      exact causeList_bracketed (by simpa using hnot) hdiff⟩
  | 2, _ => ⟨_, rfl, fun hdiff => by
      by_contra hnot
      exact track_bracketed (by simpa using hnot) hdiff⟩
  | 3, _ => ⟨_, rfl, fun hdiff => by
      by_contra hnot
      exact station_bracketed (by simpa using hnot) hdiff⟩
  | 4, _ => ⟨_, rfl, fun hdiff => by
      by_contra hnot
      exact call_bracketed (by simpa using hnot) hdiff⟩
  | 5, _ => ⟨_, rfl, fun hdiff => by
      by_contra hnot
      exact fleet_bracketed (by simpa using hnot) hdiff⟩
  | 6, _ => ⟨_, rfl, fun hdiff => by
      by_contra hnot
      exact active_bracketed (by simpa [and_assoc] using hnot) hdiff⟩

/-! ## NEWS and ENABLE -/

theorem newsWrite_bit (s : State) (value : Word) {b : Nat} (hb : b < 7) :
    (finish s (s.disarm.clearNews value)).obc.news.getLsbD b = (s.obc.news.getLsbD b && !value.getLsbD b) := by
  show (s.obc.news &&& ~~~(value.setWidth 7)).getLsbD b = _
  rw [BitVec.getLsbD_and, BitVec.getLsbD_not, BitVec.getLsbD_setWidth, decide_eq_true hb, Bool.true_and, Bool.true_and]

theorem enableWrite_bit (s : State) (value : Word) {b : Nat} (hb : b < 7) :
    (finish s (s.disarm.replaceEnable value)).obc.enable.getLsbD b = value.getLsbD b := by
  show (value.setWidth 7).getLsbD b = _
  rw [BitVec.getLsbD_setWidth, decide_eq_true hb, Bool.true_and]

end

/-- Settles O48: the registers and the views by where their items stand, the counters by what they bracket. -/
theorem hostWritesReachTheirTarget : Obligations.HostWritesReachTheirTarget := by
  intro s offset value
  refine ⟨⟨finish s (s.disarm.clearNews value), rfl, rfl, rfl, ?_, ?_⟩, ⟨finish s (s.disarm.replaceEnable value), rfl, rfl, ?_, ?_⟩,
    ⟨finish s s.arm, rfl, rfl, (arm_changes s).finish⟩, ⟨rfl, ⟨_, rfl, ?_⟩, ⟨_, rfl, ?_⟩, _, rfl, controlWord_eq s⟩,
    ⟨readWord_nextTicket s, readDWord_written s, readDWord_taken s, readByte_supervisor s, readWord_ceiling s,
      readWord_speedRef s, readByte_causeCount s, fun a _ hlow ha => readByte_host (ha.imp_left fun h => ⟨hlow, h⟩),
      fun n hn c hc => readByte_cause hn hc⟩,
    fun harmed => ?_, fun hnot hnot' => ?_, ?_, ?_, fun hlt heven => ?_, fun hout => exec_memory_outside hout value,
    fun hlt hodd => exec_memory_odd hlt hodd value, fun i t hpower hexec n hn => ?_⟩
  · refine attn_iff.trans (exists_congr fun b => and_congr_right fun hb => ?_)
    rw [newsWrite_bit s value hb, Bool.and_eq_true, Bool.not_eq_true', and_assoc]
    exact Iff.rfl
  · exact (((disarm_changes s).weaken).then (clearNews_frame _ value)).finish
  · refine attn_iff.trans (exists_congr fun b => and_congr_right fun hb => ?_)
    rw [enableWrite_bit s value hb]
    exact Iff.rfl
  · exact ((disarm_changes s).then (replaceEnable_frame _ value)).finish
  · exact fun b hb => getLsbD_setWidth_news _ b hb
  · exact fun b hb => getLsbD_setWidth_news _ b hb
  · have hsame : s.controlReset = s := if_neg (by simp [harmed])
    refine ⟨finish s s.controlReset, rfl, ?_⟩
    rw [hsame]
    exact (ChangesOnly.refl s []).finish
  · have hwrite : s.controlWrite value = s.disarm := (if_neg hnot).trans (if_neg hnot')
    refine ⟨finish s (s.controlWrite value), rfl, ?_⟩
    rw [hwrite]
    exact ⟨rfl, (disarm_changes s).finish⟩
  · exact ⟨finish s s.arm, rfl, rfl, (arm_changes s).finish⟩
  · refine ⟨finish s (s.hostReadCount value), rfl, rfl, ?_, (hostReadCount_frame s value).finish⟩
    intro h hwf
    rw [finish_taken, hostReadCount_taken hwf (h := h) rfl]
  · refine ⟨_, exec_memory_even hlt heven value, memoryWrite_armed offset value, fun hwritable => ?_, fun hdiscarded => ?_⟩
    · obtain ⟨hmem, hframe⟩ := memoryWrite_written (s := s) (hostWritable_iff.mpr hwritable) value
      refine ⟨fun hwf => ?_, fun a h0 h1 => ?_, hframe.finish⟩
      · obtain ⟨hlow, hhigh⟩ := storeWord_read (offset := offset) (value := value) hwf
        rw [readWord_host hwritable heven, finish_mem, hmem, hlow, hhigh, word_of_bytes, BitVec.ofNat_toNat, BitVec.setWidth_eq]
      · rw [finish_mem, hmem]
        exact storeWord_outside h0 h1
    · have hnot : hostWritable offset = false := Bool.eq_false_iff.mpr fun h => hdiscarded (hostWritable_iff.mp h)
      rw [memoryWrite_discarded hnot]
      exact (disarm_changes s).finish
  · obtain ⟨u, rfl⟩ := exec_finish hpower hexec
    obtain ⟨b, hb, hdiffers⟩ := differs_brackets s u n hn
    refine ⟨counterStep b, counters_step hb, ?_, fun h => ?_⟩
    · cases b
      · exact .inl rfl
      · exact .inr rfl
    · rw [hdiffers h]
      rfl

end Sys2Proof.Machine
end
